-- ==== Sys2Proof/Word.lean ====
section
/-! DEFINITION. The plain number types of the block.

The block's values are counts, codes and bit patterns of many widths, so they are held as `Nat` or `Int` and the width
is enforced where a value is formed; `Byte` is used only where the manual speaks of stored bytes. -/

namespace Sys2Proof

/-- A stored byte (records, rings). -/
abbrev Byte := BitVec 8

/-- Device time in PWM clocks of 2 ns (R68). -/
abbrev Ticks := Nat

/-- Loop samples per frame (R13). -/
def samplesPerFrame : Nat := 256

/-- PWM clocks per frame (R69). -/
def ticksPerFrame : Nat := 2048

/-- PWM clocks per loop sample (R13). -/
def ticksPerSample : Nat := 8

end Sys2Proof
end

