-- ==== Sys2Proof/Syntax.lean ====
section
/-! DEFINITION. The commands of the block: one constructor of `Instr` per row of spec/opcode_table.json.

The table gives its rows no operand fields; the operands here are what the rule of the row leaves to the outside
(the channel and value of a dictionary access, the instance concerned, converter codes, levels, link contents). -/

namespace Sys2Proof

/-- The three dictionary channels with their clients (R485, R480 codes the channels 0, 1, 2): CAN A serves four USDO clients,
0 to 3. -/
inductive Chan where
  | canA (client : Fin 4) | canB | spi
  deriving DecidableEq, Repr

/-- The part of a transfer that a frame of a USDO or SDO client carries (R485, R491, R492): a whole expedited access, the start
of a segmented one, a segment with its toggle bit, or a command specifier that the part does not know, block transfer
included. -/
inductive Transfer where
  | whole | initiate | segment (toggle last : Bool) | unknown
  deriving DecidableEq, Repr

/-- The two CAN channels (R485). -/
inductive CanChan where
  | a | b
  deriving DecidableEq, Repr

/-- The format of a CAN frame (R486): classical, or FD, of which the part sends those with bit-rate switch. -/
inductive CanFormat where
  | classical | fd
  deriving DecidableEq, Repr

/-- The supplies that POR watches (R546). -/
inductive Supply where
  | vcore | vdda | vio
  deriving DecidableEq, Repr

/-- A trip input of a tile (R172): TRIP0/1, SFLTk, phase over-current comparator q, or the device ball SAFE_IN#. -/
inductive TripInput where
  | trip (n : Nat) | sflt (k : Nat) | oc (q : Nat) | safeIn
  deriving DecidableEq, Repr

/-- The areas of a tile's SRAM (R29, R450). -/
inductive SramArea where
  | recorder | capture | ringPool | histograms | loopTables | sequencerTables | processor
  deriving DecidableEq, Repr

/-- Why burst operation ends (R213). -/
inductive BurstExitCause where
  | preview | canopy | forbidden | shortSleeps | precedence
  deriving DecidableEq, Repr

/-- TAP instructions on an unfused part (R477); the last four are the debug instructions. SAMPLE/PRELOAD shifts in what the
boundary cells of PWMHp and PWMLp hold from then on, bit p of `high` and of `low`. -/
inductive TapInstr where
  | bypass | idcode | samplePreload (high low : Nat) | extest | processorHalt | processorStep | memoryAccess | debugHalt
  deriving DecidableEq, Repr

/-- The four conversions behind one loop sample of loop `l` (R120). -/
structure Conv where
  l : Nat
  c0 : Nat
  c1 : Nat
  c2 : Nat
  c3 : Nat
  deriving DecidableEq, Repr

/-- What self-calibration measured on converter `c` (0 to 5) of tile `t` (R315, R316, R339). -/
structure CalResult where
  t : Nat
  c : Nat
  gain : Nat
  offset : Int
  trims : List Nat
  check : Nat
  deriving DecidableEq, Repr

/-- What a power-up meets outside the part's own state (R48, R49, R63, R95, R97, R98, R473). Bitmaps have bit t for tile t;
`vlane` holds the supply levels of the tiles' lanes in mV, 0 where there is none;
`marginal` names the tiles whose interrupted tally operation got as far as to be completed (R425). -/
structure PowerUpIn where
  por : Bool
  lvsel : Nat
  test : Bool
  vlane : List Nat
  pllFailed : Nat
  trainFailed : Nat
  cal : List CalResult
  compActive : List Nat
  marginal : Nat
  recoveryUs : Nat
  trainUs : Nat
  upTime10us : Nat
  deriving DecidableEq, Repr

/-- One input under an open-wire set (R318, R319): of the remote-sense set, input 2k is VSPk and 2k + 1 VSNk; of the VMON set,
input j is VMONj. The baseline, and the mean code over the last 50 µs under current. -/
structure OpenReading where
  t : Nat
  input : Nat
  baseline : Nat
  reading : Nat
  deriving DecidableEq, Repr

/-- The commands. -/
inductive Instr where
  /-- POWER_UP (R95): POR release runs the power-up steps from strap sampling to the entry to CONFIGURE. -/
  | powerUp (i : PowerUpIn)
  /-- PLL_LOCK_TIMEOUT (R63): A PLL that has not locked within 1 ms keeps the part in RESET, or fails its tile. -/
  | pllLockTimeout (t : Nat)
  /-- RESET_ASSERTION (R44): A RESET# low that outlasts the 200 ns glitch filter resets the part. -/
  | resetAssertion
  /-- SUPPLY_OUT_OF_RANGE (R546): A VCORE, VDDA or VIO excursion beyond a POR trip point resets the whole part. -/
  | supplyOutOfRange (supply : Supply) (durationNs : Nat)
  /-- REFCLK_MISSING_EDGE (R64): No REFCLK edge within 200 ns gives a reference-clock fault with holdover, safe states and HOLD. -/
  | refclkMissingEdge (t : Nat)
  /-- PLL_UNLOCK (R65): The lock detector reports loss of lock, which is a reference-clock fault. -/
  | pllUnlock (t : Nat)
  /-- REFCLK_FREQUENCY_CHECK (R64): At the end of each 256-SLOW-period count the REFCLK count is checked against ±10 %. -/
  | refclkFrequencyCheck (t count : Nat)
  /-- SLOW_STOPPED (R67): SYS detects that SLOW has stopped, records the event and moves the watchdog to SYS. -/
  | slowStopped (t : Nat)
  /-- WATCHDOG_EXPIRY (R25): The processor watchdog expires and the processor restarts from mask ROM. -/
  | watchdogExpiry (t : Nat)
  /-- PROCESSOR_RECOVERED (R25): A recovering processor resumes and acts on the outcomes that came due during recovery. -/
  | processorRecovered (t : Nat)
  /-- FRAME_BOUNDARY (R72): At each frame boundary, committed settings swap and the per-frame work of every block runs. -/
  | frameBoundary
  /-- LOOP_SAMPLE (R121): Every 16 ns the loop sample is formed, the reference advances and each slot computes a new duty command. -/
  | loopSample (cs : List Conv)
  /-- EDGE_DECISION (R136): At its decision point a phase freezes an edge from the freshest command, offsets and pulse rules. -/
  | edgeDecision (p : Nat)
  /-- CARRIER_ZERO (R158): A phase's counter reaches zero, where its carrier-zero settings swap and phases start or stop. -/
  | carrierZero (p : Nat)
  /-- LOOP_CARRIER_BOUNDARY (R194): At a loop carrier boundary a new active count takes effect and phases are added, shed or moved. -/
  | loopCarrierBoundary (l : Nat)
  /-- READBACK_SAMPLE (R177): A driven PWM ball is read back 12 ns after a commanded edge and compared. -/
  | readbackSample (p : Nat) (highBall lowBall : Option Bool)
  /-- OC_TRUNCATION (R174): A phase over-current comparator activation ends the high-side pulse until the next carrier zero. -/
  | ocTruncation (p : Nat)
  /-- SFLT_ASSERT (R175): An SFLTk assertion acts on its loop's phases according to SFLT_ACTION. -/
  | sfltAssert (t k : Nat)
  /-- TRIP_ASSERT (R175): A TRIP0 or TRIP1 assertion acts on the selected phases according to TRIPn_ACTION. -/
  | tripAssert (t n : Nat) (level : Bool)
  /-- TRIP_RELEASE (R175): After a trip input has been inactive for 1 µs, its phases switch again from their next carrier zero. -/
  | tripRelease (t : Nat) (input : TripInput)
  /-- SAFE_STATE_TRIP_RELEASE (R221): After every trip input of a loop in a severity-3 safe state has been inactive for 1 µs, the loop runs an off-time and a soft start. -/
  | safeStateTripRelease (l : Nat)
  /-- BLANKING_WINDOW_END (R173): A blanking window closes and a trip condition still present then acts. -/
  | blankingWindowEnd (t : Nat) (input : TripInput) (present : Bool)
  /-- DEBUG_HALT (R179): A debug halt stops every carrier counter and decision unit and halts the processors. -/
  | debugHalt
  /-- HALT_END (R181): At the end of a halt every frozen phase goes off and is reloaded at the next frame boundary. -/
  | haltEnd
  /-- COMMIT (R80): A non-zero tag written to COMMIT:01 schedules a commit for frame N + 2. -/
  | commit (ch : Chan) (tag : Nat)
  /-- HELD_REQUEST_SERVED (R81): A C write, COMMIT or discard held during a flight is handled once the commit has left flight. -/
  | heldRequestServed
  /-- DISCARD (R85): 0xA5 written to SHADOW_STATUS:04 discards every pending shadow value. -/
  | discard (ch : Chan) (v : Nat)
  /-- OBJECT_WRITE (R75): A write to an object without a row of its own is applied, shadowed or refused by its commit class. -/
  | objectWrite (ch : Chan) (idx sub len v : Nat) (part : Transfer)
  /-- REQUEST_CONFIGURE (R101): DEV_MODE_REQ:01 = 1 moves the part from STANDBY to CONFIGURE. -/
  | requestConfigure (ch : Chan)
  /-- REQUEST_STANDBY (R102): DEV_MODE_REQ:01 = 2 in CONFIGURE runs the entry check and seals the configuration into STANDBY. -/
  | requestStandby (ch : Chan)
  /-- REQUEST_STOP (R106): DEV_MODE_REQ:01 = 2 in RUN steps the sequence down to state 0 and then enters STANDBY. -/
  | requestStop (ch : Chan)
  /-- REQUEST_RUN (R104): DEV_MODE_REQ:01 = 3 in STANDBY starts the pre-start checks. -/
  | requestRun (ch : Chan)
  /-- OPEN_WIRE_SET_END (R319): At the end of a 500 µs open-wire set the inputs are judged and masked comparators are released. -/
  | openWireSetEnd (readings : List OpenReading) (active : List Nat)
  /-- PRE_START_CHECKS_COMPLETE (R104): The pre-start checks end and the part either enters RUN or stays in STANDBY. -/
  | preStartChecksComplete
  /-- HOLD_CLEAR (R105): 0x5A written to DEV_MODE_REQ:02 in a session clears HOLD into CONFIGURE. -/
  | holdClear (ch : Chan) (v : Nat)
  /-- SERVICE_ENTER (R101): 0xC3 written to DEV_MODE_REQ:03 in a session enters SERVICE. -/
  | serviceEnter (ch : Chan) (v : Nat)
  /-- START_RISING_EDGE (R46): A START rising edge while SAFE_IN# is high triggers RUN. -/
  | startRisingEdge
  /-- START_LOW_STOP (R106): With START_MODE = 1, START held low for 1 ms requests a stop. -/
  | startLowStop
  /-- VIN_FAIL (R107): T0_VINSEN0 falls below VIN_FAIL, which starts a store and, in RUN, a shutdown; `mv` is the level at
  the ball in mV (one that stays at or above VIN_FAIL is only the end of good VIN). -/
  | vinFail (mv : Nat)
  /-- PFAIL_RISE (R427): A PFAIL rising edge signals VIN failure and starts the power-fail store. -/
  | pfailRise
  /-- RESTART (R108): Once RESTART_DELAY and VIN_SETTLE have both elapsed, the part triggers RUN by itself. -/
  | restart
  /-- START_REMOTE_NODE (R110): NMT Start sets operational on that channel and, with NMT_START = 1 in STANDBY, triggers RUN. -/
  | startRemoteNode (ch : CanChan) (format : CanFormat)
  /-- STOP_REMOTE_NODE (R110): NMT Stop sets NMT stopped on that channel without changing the mode. -/
  | stopRemoteNode (ch : CanChan) (format : CanFormat)
  /-- ENTER_PRE_OPERATIONAL (R110): NMT Enter Pre-operational sets pre-operational on that channel. -/
  | enterPreOperational (ch : CanChan) (format : CanFormat)
  /-- RESET_COMMUNICATION (R110): Reset Communication restarts that channel's CANopen stack with a boot-up message. -/
  | resetCommunication (ch : CanChan) (format : CanFormat)
  /-- RESET_NODE (R110): Reset Node resets the part in CONFIGURE, STANDBY and SERVICE, and acts as Reset Communication in RUN and HOLD. -/
  | resetNode (ch : CanChan) (format : CanFormat)
  /-- SAFE_IN_LOW (R451): SAFE_IN# low takes every phase off and, in RUN, takes the part to HOLD. -/
  | safeInLow
  /-- TARGET (R140): A dictionary write to LOOP_TARGET:01 is accepted at the next loop sample and starts a move of ref. -/
  | target (ch : Chan) (l v : Nat)
  /-- PHASE_MANUAL (R93): A write to PHASE_MANUAL:01 starts, changes or stops the manual duty of a phase. -/
  | phaseManual (ch : Chan) (p v : Nat)
  /-- SHED_DWELL_EXPIRY (R198): The dwell count reaches DWELL and a lower shed level is decided. -/
  | shedDwellExpiry (l : Nat)
  /-- TRIM_LEARN_START (R206): LOOP_TRIM_LEARN:01 = 1 starts trim learning when its conditions hold. -/
  | trimLearnStart (ch : Chan) (l : Nat)
  /-- TRIM_LEARN_ABORT (R208): LOOP_TRIM_LEARN:01 = 2 aborts learning and restores the former trims. -/
  | trimLearnAbort (ch : Chan) (l : Nat)
  /-- TRIM_LEARN_ITERATION (R207): At the end of a learning iteration's frames, trims are updated, or learning succeeds or fails to converge. -/
  | trimLearnIteration (l : Nat)
  /-- SHARE_EVENT (R205): |e_p| above SHARE_LIMIT for SHARE_DWELL monitored frames produces a share event. -/
  | shareEvent (p : Nat)
  /-- BURST_ENTRY (R209): After ENTRY_DWELL qualifying frames the loop enters burst operation at the next carrier zero. -/
  | burstEntry (l : Nat)
  /-- BURST_SLEEP (R210): At the zero ending PERIODS carrier periods the loop goes to sleep. -/
  | burstSleep (l : Nat)
  /-- BURST_WAKE (R212): A comparator crossing or a low loop sample wakes the loop, and the next burst begins. -/
  | burstWake (l : Nat)
  /-- BURST_EXIT (R213): EXIT_COUNT short sleeps, or another exit cause, end burst operation. -/
  | burstExit (l : Nat) (cause : BurstExitCause)
  /-- SOFT_START_HOLD_TIMEOUT (R223): With a pre-bias above TARGET, ON_RAMP elapses and the loop enters STATE 2. -/
  | softStartHoldTimeout (l : Nat)
  /-- CANOPY_TRIGGER (R228): An undervoltage comparator crossing triggers Canopy, and every enabled phase turns its high side on. -/
  | canopyTrigger (l : Nat)
  /-- CANOPY_MAX_TIME (R230): MAX_TIME after the trigger, a Canopy or overshoot action is released. -/
  | canopyMaxTime (l : Nat)
  /-- LPREV_EDGE (R234): An LPREV rising edge fires an armed preview, or is counted as unarmed or merged. -/
  | lprevEdge (t : Nat)
  /-- PREVIEW_APPLY (R235): At P + lead every active phase adds the preview offset. -/
  | previewApply (l : Nat)
  /-- PREVIEW_END (R235): At P + lead + HOLD the offset is removed and the preview is consumed. -/
  | previewEnd (l : Nat)
  /-- HICCUP_TRIGGER (R238): A phase's truncation count reaches HICCUP_N, which starts a hiccup or latches the loop off. -/
  | hiccupTrigger (p : Nat)
  /-- HICCUP_OFF_TIME_END (R239): At the end of OFF_TIME the loop runs a soft start without the on-delay. -/
  | hiccupOffTimeEnd (l : Nat)
  /-- HICCUP_COUNT_CLEAR (R239): After 1 s continuously in STATE 2 or 3, HICCUP_COUNT is cleared. -/
  | hiccupCountClear (l : Nat)
  /-- LATCH_CLEAR (R240): 0x5A written to LATCH_CLEAR in a session returns a loop from STATE 6 to STATE 0. -/
  | latchClear (ch : Chan) (l v : Nat)
  /-- OT_AUTO_RESTART (R244): After an over-temperature shutdown, the loop soft-starts by itself once the warning condition has ended. -/
  | otAutoRestart (l : Nat)
  /-- POLL (R253): On LALERT# low the part runs a lane transaction of POLL, answer and response; an empty answer applies nothing. -/
  | poll (t : Nat) (answer : Option Nat) (stillLow : Bool)
  /-- SET_TARGET (R266): A lane SET_TARGET sets the loop target after the lane checks. -/
  | setTarget (t k seq payload : Nat)
  /-- SET_SLEW (R266): A lane SET_SLEW sets the slew rate for later targets. -/
  | setSlew (t k seq payload : Nat)
  /-- SET_PHASE_BUDGET (R266): A lane SET_PHASE_BUDGET sets BUDGET and reports the active count. -/
  | setPhaseBudget (t k seq payload : Nat)
  /-- ARM_PREVIEW (R233): A lane ARM_PREVIEW arms a Sprout preview with class, magnitude and lead. -/
  | armPreview (t k seq payload : Nat)
  /-- GET_STATUS (R267): A lane GET_STATUS returns the status word or the alert latch. -/
  | getStatus (t k seq payload : Nat)
  /-- GET_VOUT (R266): A lane GET_VOUT returns the averaged or latest output voltage. -/
  | getVout (t k seq payload : Nat)
  /-- GET_IOUT (R266): A lane GET_IOUT returns the averaged or latest loop current. -/
  | getIout (t k seq payload : Nat)
  /-- GET_TEMP (R266): A lane GET_TEMP returns the loop temperature or the highest die temperature. -/
  | getTemp (t k seq payload : Nat)
  /-- GET_POWER (R266): A lane GET_POWER returns the averaged output power. -/
  | getPower (t k seq payload : Nat)
  /-- SET_POWER_STATE (R266): A lane SET_POWER_STATE sets ALLOW for burst operation. -/
  | setPowerState (t k seq payload : Nat)
  /-- ACK_ALERT (R268): A lane ACK_ALERT clears the masked bits of the alert latch. -/
  | ackAlert (t k seq payload : Nat)
  /-- ALERT_CLEAR (R268): A write to LANE_STATUS:09 clears alert latch bits as ACK_ALERT does. -/
  | alertClear (ch : Chan) (l mask : Nat)
  /-- LANE_BACKOFF_END (R265): At the end of BACKOFF the failure count is cleared and LALERT# is evaluated again. -/
  | laneBackoffEnd (t : Nat)
  /-- LANE_CFG_HELD_WRITE (R75): A LANE_CFG write that arrived during a transaction is applied at the end of that transaction. -/
  | laneCfgHeldWrite (t : Nat)
  /-- LANE_LEVEL_FAULT (R561): Tt_VLANE leaving its window after POR release disables that tile's lane. -/
  | laneLevelFault (t mv : Nat)
  /-- SAMPLE_SLOT_RECEIVED (R280): A replica tile receives a sample slot and delivers the error sample and flags to its slot. -/
  | sampleSlotReceived (r s k word : Nat)
  /-- CONTROL_BYTE_RECEIVED (R281): A received control byte's SAFE_REQ bits take the receiver's phases of those loops to the safe state. -/
  | controlByteReceived (r s byte : Nat)
  /-- FRAME_SLOT_RECEIVED (R282): A frame slot passes or fails its CRC, and its time, hashes, sums and commit flags are used. -/
  | frameSlotReceived (r s : Nat) (bytes : List Nat)
  /-- PORT_LOSS (R290): A missing forwarded clock, or three bad control bytes, declares the loss of a port. -/
  | portLoss (r s : Nat)
  /-- PORT_LOSS_DECISION (R291): Within 1 ms tile 0 decides between a tile failure and a pair fault. -/
  | portLossDecision (s : Nat) (answered : Bool)
  /-- MGMT_PACKET_RECEIVED (R283): A management packet is received, checked, buffered and acknowledged. -/
  | mgmtPacketReceived (r s : Nat) (response crcOk : Bool)
  /-- MGMT_RESEND_TIMEOUT (R283): An unacknowledged packet is resent after 5 µs, and after three resends the path is faulty. -/
  | mgmtResendTimeout (s d : Nat)
  /-- MGMT_CREDIT_RETURN (R283): A credit returns when the destination processor frees the buffer. -/
  | mgmtCreditReturn (s d : Nat)
  /-- STATE_REPORT (R355): Tile 0 compares the tiles' state reports and handles a disagreement with a stop. -/
  | stateReport (t state dir : Nat)
  /-- SYNC_IN_EDGE (R295): A SYNC_IN rising edge is time-captured, and the interval and lock state are updated. -/
  | syncInEdge
  /-- TELEMETRY_TRIGGER (R302): A trigger arrives for a waiting sequence entry and fixes its first sampling clock. -/
  | telemetryTrigger (t conv : Nat)
  /-- TELEMETRY_TIMER (R304): The tile's telemetry timer fires at every multiple of TIMER_PERIOD. -/
  | telemetryTimer (t : Nat)
  /-- TELEMETRY_WAIT_LIMIT (R304): No trigger within WAIT_LIMIT makes the entry proceed and mark its result LATE. -/
  | telemetryWaitLimit (t conv : Nat)
  /-- TELEMETRY_RESULT (R307): An entry's result is written to RAW, VOLTS and LATEST after its last sample. -/
  | telemetryResult (t conv : Nat) (codes : List Nat)
  /-- TELEMETRY_STALE (R310): A needed channel 8 frames without a new result records telemetry stale. -/
  | telemetryStale (l channel : Nat)
  /-- CHECK_CONVERSION (R311): Every 512 TADC clocks both converters take and evaluate a check conversion. -/
  | checkConversion (t c0 c1 loop0 loop1 : Nat)
  /-- CALIBRATION_START (R314): CAL_CMD:01 = 1 starts self-calibration of every converter and pauses the tables. -/
  | calibrationStart (ch : Chan) (v : Nat)
  /-- CALIBRATION_COMPLETE (R316): After 2.6 ms each converter passes or fails, and VALID is set accordingly. -/
  | calibrationComplete (results : List CalResult)
  /-- PLAUSIBILITY_TIMEOUT (R321): A plausibility comparator active for PLAUS_TIME is an open-sense fault. -/
  | plausibilityTimeout (l : Nat)
  /-- COMPARATOR_ACTIVATION (R327): A comparator's filtered output becomes active and acts through its routes, managers and trips. -/
  | comparatorActivation (t c : Nat)
  /-- COMPARATOR_RELEASE (R328): A comparator's filtered output releases past the threshold and hysteresis. -/
  | comparatorRelease (t c : Nat)
  /-- COMPARATOR_SETTLED (R329): The settling time after a mode change ends, and the comparator may activate. -/
  | comparatorSettled (t c : Nat) (beyond : Bool)
  /-- PEAK_READ (R325): A read of a LOOP_PEAKS subindex returns its value and clears it. -/
  | peakRead (ch : Chan) (l sub : Nat)
  /-- TRELLIS_ADVANCE (R350): A TRELLIS high held for 2.0 µs advances every participant by one state. -/
  | trellisAdvance (others : Nat)
  /-- TRELLIS_REVERSAL (R352): A 200 µs hold after an aborted high turns the sequence downward. -/
  | trellisReversal (others : Nat)
  /-- TRELLIS_TIMEOUT (R356): The line still low STATE_MARGIN after the work is done records a timeout and acts per TIMEOUT_ACTION. -/
  | trellisTimeout (t others : Nat)
  /-- RAIL_TURN_ON (R357): At the later of its ON_DELAY and its parents' declarations, a rail is turned on or kept off. -/
  | railTurnOn (n : Nat)
  /-- PARENT_GOOD_NOTICE (R357): A parent's declaration on another tile becomes known within 50 µs. -/
  | parentGoodNotice (t n : Nat)
  /-- RAIL_DECLARED_GOOD (R358): The settle count reaches SETTLE and the rail is declared good. -/
  | railDeclaredGood (n : Nat)
  /-- PG_CHANGE (R348): PGj passes a new level through its filter and changes the rail's good condition. -/
  | pgChange (n : Nat) (high : Bool) (held : Nat)
  /-- RAIL_DROP (R360): A running rail's good condition falls and the drop filter counts it. -/
  | railDrop (n : Nat)
  /-- RAIL_BAD_TIME (R360): A rail not good for BAD_TIME raises a running fault. -/
  | railBadTime (n : Nat)
  /-- RAIL_DEADLINE (R359): A rail not declared good within DEADLINE fails to come up and its dependants are kept off. -/
  | railDeadline (n : Nat)
  /-- RAIL_TURN_OFF (R367): At its OFF_DELAY a rail is turned off. -/
  | railTurnOff (n : Nat)
  /-- RAIL_DISCHARGED (R364): A rail that went off meets its discharge condition. -/
  | railDischarged (n : Nat)
  /-- DISCHARGE_TIMEOUT (R364): A rail not discharged within DISCHARGE_TIMEOUT records an event and counts as discharged. -/
  | dischargeTimeout (n : Nat)
  /-- RETRIES_USED_CLEAR (R362): After 1 s declared good without a break, RETRIES_USED is cleared. -/
  | retriesUsedClear (n : Nat)
  /-- RESET_PULSE_END (R366): RESET_PULSE ends and the restart wait begins. -/
  | resetPulseEnd
  /-- SYSRESET_RESTART (R366): After RESTART_DELAY the part releases TRELLIS and powers the sequence up again. -/
  | sysresetRestart
  /-- SYSRESET_COUNT_CLEAR (R366): After the sequence has been up for 1 s, the system-reset count is cleared. -/
  | sysresetCountClear
  /-- SEQ_FIRST_FAIL_CLEAR (R369): 0xA5 written to SEQ_FIRST_FAIL:07 in a session clears the first-failure record. -/
  | seqFirstFailClear (ch : Chan) (v : Nat)
  /-- QUEUED_REACTION_START (R389): When a reaction ends, the first queued reaction is started if its condition still holds, or else dropped. -/
  | queuedReactionStart (target : Nat)
  /-- EVENT_REPORT (R381): A source report takes a pending entry, merges as a repeat, or is counted as lost. -/
  | eventReport (t src code sev inst : Nat) (data : List Nat)
  /-- RECORD_WRITE (R383): The writer takes the earliest pending record and writes it to the recorder and every accepting ring. -/
  | recordWrite (t : Nat)
  /-- RECORD_FORWARD (R403): A host tile forwards a ring record to tile 0, which drives ALERT# and sends EMCY. -/
  | recordForward (t : Nat)
  /-- EMCY_INHIBIT_END (R504): The EMCY inhibit time ends and the next queued EMCY is sent. -/
  | emcyInhibitEnd (ch : CanChan)
  /-- RECORDER_READ (R399): A read of REC_WINDOW:01 returns the next records of the view and advances the cursor. -/
  | recorderRead (ch : Chan) (part : Transfer)
  /-- VIEW (R399): A write of VIEW places the cursor at the oldest record of the new view. -/
  | view (ch : Chan) (v : Nat)
  /-- POSITION (R399): A write of POSITION places the cursor before the record at that position. -/
  | position (ch : Chan) (v : Nat)
  /-- REC_CLEAR (R401): 0xA5 written to REC_CLEAR:01 in a session empties every tile's recorder. -/
  | recClear (ch : Chan) (v : Nat)
  /-- FAULT_ACK (R403): 0xA5 written to FAULT_ACTIVE:04 acknowledges the alerts for ALERT# release. -/
  | faultAck (ch : Chan) (v : Nat)
  /-- FIRST_CLEAR (R390): 0xA5 written to FAULT_ACTIVE:06 clears the first-fault record. -/
  | firstClear (ch : Chan) (v : Nat)
  /-- CELL_OPERATION_START (R410): The Cellar controller takes the next queued cell operation when it is free. -/
  | cellOperationStart (t : Nat)
  /-- PAGE_WRITE_COMPLETE (R415): A page write finishes its erase and program phases after 3.0 ms. -/
  | pageWriteComplete (t : Nat)
  /-- TALLY_INCREMENT (R424): A tally increment programs one field bit, folding a full field first. -/
  | tallyIncrement (t i : Nat)
  /-- HOUR_TALLY (R423): Each full hour in RUN, or after POR release, increments its tally. -/
  | hourTally (t i : Nat)
  /-- STORE_REQUEST (R427): 0xA5 written to CELLAR_STORE:01 starts a power-fail store. -/
  | storeRequest (ch : Chan) (v : Nat)
  /-- STORE_COMPLETE (R427): At 2.02 ms the store ends, VHOLD is measured and the queue resumes. -/
  | storeComplete (vholdMv : Nat)
  /-- CELLAR_SCRUB (R434): Every 24 h each tile reads every pair and rewrites an invalid copy. -/
  | cellarScrub
  /-- CONFIG_SAVE (R421): A write of n to CONFIG_SET:02 requests a save of set n. -/
  | configSave (ch : Chan) (n : Nat)
  /-- CONFIG_SNAPSHOT (R421): At the first frame boundary with no commit in flight every tile snapshots its active values. -/
  | configSnapshot
  /-- CONFIG_SAVE_COMPLETE (R421): The save's header page is written and the set's new generation becomes valid. -/
  | configSaveComplete
  /-- CONFIG_ACTIVE (R438): A write to CONFIG_SET:01 selects the set loaded at power-up. -/
  | configActive (ch : Chan) (n : Nat)
  /-- CONFIG_RESTORE (R438): CONFIG_SET:03 loads a set into the active registers in CONFIGURE and discards pending shadows. -/
  | configRestore (ch : Chan) (n : Nat)
  /-- SAFE_STATE_CLEAR (R444): SAFE_STATE_CAUSE:21 = L in a session returns loop L from a severity-5 safe state to STATE 0. -/
  | safeStateClear (ch : Chan) (l : Nat)
  /-- LS_DISCHARGE_TIMEOUT (R441): Low sides on for LS_DISCHARGE_MAX in one safe state turns the phases to tri-state. -/
  | lsDischargeTimeout (l : Nat)
  /-- UV_REPORT (R448): An undervoltage condition held for UV_TIME is reported. -/
  | uvReport (l : Nat)
  /-- UV_REPORT_END (R448): The condition absent for UV_TIME ends the undervoltage report. -/
  | uvReportEnd (l : Nat)
  /-- BANDGAP_DRIFT (R449): A bandgap difference persisting for 32 SLOW periods is a reference-drift fault. -/
  | bandgapDrift (t diff : Nat)
  /-- SRAM_ERROR_DETECTED (R450): A double-bit SRAM error detected at access is handled by area. -/
  | sramErrorDetected (t : Nat) (area : SramArea) (addr : Nat)
  /-- SRAM_ERROR_CORRECTED (R30): A single-bit SRAM error is corrected at access and produces an event. -/
  | sramErrorCorrected (t : Nat) (area : SramArea) (addr : Nat)
  /-- SRDO_RECEIVED (R454): A receive SRDO pair is checked and its REQUEST_LOOPS bits take loops to their safe states. -/
  | srdoReceived (i : Nat) (format : CanFormat) (normal inverted apartMs : Nat)
  /-- SRDO_LOSS (R454): An expired SCT, an SRVT violation or mismatched data sets RSDO_LOST and applies SRDO_LOSS_ACTION. -/
  | srdoLoss (i : Nat)
  /-- SRDO_TRANSMIT (R501): At each refresh time the transmit SRDO sends its normal and inverted frames. -/
  | srdoTransmit (i : Nat)
  /-- SRDO_VALID (R502): 0xA5 written to 0x13FE starts the SRDOs when every signature matches. -/
  | srdoValid (ch : Chan) (v : Nat)
  /-- PROOF_TEST (R457): 0xA5 written to DIAG_TABLE:01 in a session starts the built-in proof test in STANDBY. -/
  | proofTest (ch : Chan) (v : Nat)
  /-- PROOF_TEST_COMPLETE (R457): The proof test ends and DIAG_TABLE reports its result. -/
  | proofTestComplete (failed : Nat)
  /-- OPEN (R469): A slot number written to SEC_SESSION:01 draws a nonce bound to the channel. -/
  | openSession (ch : Chan) (slot : Nat)
  /-- CLOSE (R471): 0xFF written to SEC_SESSION:01 closes the session. -/
  | closeSession (ch : Chan)
  /-- PROOF (R469): A write of SEC_SESSION:03 opens the session when the proof matches. -/
  | sessionProof (ch : Chan) (v : Nat)
  /-- TAG (R470): A write of SEC_SESSION:04 provides the tag for the next protected write on the channel. -/
  | sessionTag (ch : Chan) (v : Nat)
  /-- NONCE_EXPIRY (R469): A nonce unused for 10 s can no longer be used. -/
  | nonceExpiry
  /-- SESSION_TIMEOUT (R471): No S-class access for TIMEOUT closes the session. -/
  | sessionTimeout
  /-- KEY (R468): A write to SEC_KEYSLOT:01 to :04 sets a key slot while PROVISION is intact. -/
  | keyWrite (ch : Chan) (s v : Nat)
  /-- REKEY (R468): A write to SEC_KEYSLOT:05 in a slot-0 session unwraps and installs a new key. -/
  | rekey (ch : Chan) (v : Nat)
  /-- BLOW_PROVISION (R475): 0x50 written to FUSE_STATUS:03 blows the PROVISION fuse; `copies` are those of its three copies
  that read blown at the verify read. -/
  | blowProvision (ch : Chan) (copies : Nat)
  /-- BLOW_FIELD (R475): 0xF1 written to FUSE_STATUS:03 blows the FIELD fuse; `copies` as for PROVISION. -/
  | blowField (ch : Chan) (copies : Nat)
  /-- SECURITY_ALARM (R474): An alarm source fires and its log, lock or erase policy is applied. -/
  | securityAlarm (src fuses : Nat)
  /-- SYNC (R497): A received SYNC makes TPDOs due and applies buffered synchronous RPDOs at the next frame boundary. -/
  | syncMessage (ch : CanChan) (format : CanFormat) (counter : Nat)
  /-- TIME (R71): A received CANopen TIME message is latched with its reception device time. -/
  | timeMessage (ch : CanChan) (format : CanFormat) (v : Nat)
  /-- RPDO_RECEIVED (R498): An RPDO's entries are applied as dictionary writes, each checked separately. -/
  | rpdoReceived (n : Nat) (format : CanFormat) (data : List Nat)
  /-- TPDO_TRANSMIT (R496): A TPDO becomes due by type, change check or event timer and is sent. -/
  | tpdoTransmit (n : Nat)
  /-- TPDO_ACKNOWLEDGED (R499): A ring-stream frame acknowledged on the bus advances READ_INDEX. -/
  | tpdoAcknowledged (n : Nat)
  /-- HEARTBEAT (R506): At each heartbeat time each channel sends its NMT state. -/
  | heartbeat (ch : CanChan)
  /-- CAN_ERROR_STATE_CHANGE (R507): A channel's CAN error state changes, including bus-off and its recovery. -/
  | canErrorStateChange (ch : CanChan) (st : Nat)
  /-- SDO_TIMEOUT (R491): A transfer with no client frame for 1 s is aborted. -/
  | sdoTimeout (client : Nat)
  /-- ERROR_HISTORY_CLEAR (R505): 0 written to 0x1003:00 clears the error history. -/
  | errorHistoryClear (ch : Chan) (v : Nat)
  /-- READ (R509): An SPI READ command reads an object as a dictionary request. -/
  | spiRead (idx sub len : Nat) (crcOk : Bool)
  /-- WRITE (R509): An SPI WRITE command writes an object as a dictionary request. -/
  | spiWrite (idx sub len v : Nat) (crcOk : Bool)
  /-- RING_READ (R509): An SPI RING_READ returns whole records of a ring and advances READ_INDEX. -/
  | ringRead (r len : Nat) (crcOk : Bool)
  /-- FETCH (R510): An SPI FETCH returns the response frame of the last request. -/
  | spiFetch
  /-- SPI_TRANSACTION_TIMEOUT (R508): An SPI transaction held open over 10 ms is aborted and discarded. -/
  | spiTransactionTimeout (bytes : Nat)
  /-- HISTOGRAM_CLEAR (R536): 0xA5 written to HISTOGRAM:0A clears the unit at the next frame boundary. -/
  | histogramClear (ch : Chan) (t u v : Nat)
  /-- ARM (R541): CAPTURE:01 = 1 arms or restarts the transient capture. -/
  | armCapture (ch : Chan) (t : Nat)
  /-- DISARM (R541): CAPTURE:01 = 0 disarms the capture, or completes it at once with no trigger code. -/
  | disarmCapture (ch : Chan) (t : Nat)
  /-- CAPTURE_COMPLETE (R540): After 65,535 − P samples past the trigger the capture completes and places a record. -/
  | captureComplete (t : Nat)
  /-- SAFE_IN_RELEASE (R451): SAFE_IN# returns high, so the SAFE_IN# fault condition ends and a start or a HOLD clear may again be accepted. -/
  | safeInRelease
  /-- VIN_GOOD_AGAIN (R108): T0_VINSEN0 rises to or above VIN_GOOD, so VIN becomes good and the VIN_SETTLE count starts; `mv`
  is the level at the ball in mV. -/
  | vinGoodAgain (mv : Nat)
  /-- TAP_INSTRUCTION (R477): An IEEE 1149.1 instruction on an unfused part, such as EXTEST while RESET# is low or a debug instruction in SERVICE, takes effect. -/
  | tapInstruction (i : TapInstr)
  /-- TALLY_BIT_PROGRAMMED (R424): A tally bit program of 0.2 ms, or a fold of 6.0 ms, completes and frees the Cellar controller for the next queued operation. -/
  | tallyBitProgrammed (t : Nat)
  deriving DecidableEq, Repr

end Sys2Proof
end

