-- ==== Sys2Proof/Config.lean ====
section
/-! DEFINITION. Free values: what the manual leaves open while the part goes on. They have no body, so nothing can be
proved about which value they take; each is applied to the model's own counter `DiagGrp.fresh`. -/

namespace Sys2Proof.Config

/-- The 64-bit nonce of a session (R469: drawn from the part's random source). -/
opaque nonce : Nat → Nat

/-- Whether a supply excursion of 1 µs to 5 µs resets the part (R546: either resets completely or keeps running). -/
opaque glitchResets : Nat → Bool

/-- The serial number of this part (R523: unique, never 0, otherwise not specified). -/
opaque serial : Nat

/-- What the reduced-precision result of the checker lane differs by from the slot's (R147). -/
opaque checkerDiff : Nat → Nat
/-- The datapath of a slot has a fault at a check (R147). -/
opaque datapathFault : Nat → Bool

/-- Signature of an SRDO's parameters under EN 50325-5 (R502): the CRC's parameters are not in the manual. -/
opaque srdoSignature : List Nat → Nat

/-- The response time of a dictionary request, µs (R490 bounds it by 1,760). -/
opaque responseTime : Nat → Nat

/-- The value a quantity of `bits` bits takes when the manual's formula gives a number `v` outside its format, which no
rule states. -/
opaque outside : Nat → Int → Int

/-- The result of a conversion whose gain, an object's value, is 0 (R242, R250 divide by it and give it no range). -/
opaque zeroGain : Int → Int

/-- The share error of a phase current when the mean current is 0 (R204 divides by it). -/
opaque shareZero : Int → Int

/-- A byte that reads back from an SRAM word with a double-bit error (R450). -/
opaque sramByte : Nat → Nat

/-- TIME and SEQ of a gap record that the part synthesizes at a read, where no rule gives them (R392, R402). -/
opaque synthTime : Nat → Nat
opaque synthSeq : Nat → Nat

/-- A byte of a Cellar page whose layout the manual does not give, or of a torn page (R411, R416, R435). -/
opaque cellByte : Nat → Nat

/-- A byte that a TPDO carries for a mapped object whose tile does not answer (R20, R494 state none). -/
opaque absentByte : Nat → Nat

/-- The fixed input path of the comparators, in ticks, which a capture timer subtracts (R333); the spec gives no value. -/
opaque inputPath : Nat

/-- One less than the bytes of a segment of a segmented read (R491): a free value. -/
opaque segmentBytes : Nat → Nat

/-- What a memory access over the TAP reads (R477): the spec gives no map of the processors' memory. -/
opaque tapMemory : Nat → Nat

end Sys2Proof.Config
end

