-- ==== Sys2Proof/Machine/Tab.lean ====
section
/-! DEFINITION. Finite tables with a default: the one way the model holds numbered things (phases, loops, rails,
object values). A table is a list of (number, value) pairs in one canonical form: numbers strictly rising, and no entry
equal to the default, so that equal tables are equal data. -/

namespace Sys2Proof

/-- A table from numbers to values; what an unlisted number reads as is given to `Tab.get`. -/
abbrev Tab (α : Type) := List (Nat × α)

/-- The value at number `i`; `d` where the table lists none. -/
def Tab.get {α : Type} (d : α) : Tab α → Nat → α
  | [], _ => d
  | (k, v) :: t, i => if i = k then v else Tab.get d t i

/-- Put the pair before the first larger number. -/
def Tab.insert {α : Type} (i : Nat) (v : α) : Tab α → Tab α
  | [] => [(i, v)]
  | (k, w) :: t => if i < k then (i, v) :: (k, w) :: t else (k, w) :: Tab.insert i v t

/-- Remove the number `i`. -/
def Tab.erase {α : Type} (i : Nat) (t : Tab α) : Tab α :=
  t.filter (fun e => e.1 != i)

/-- Write `v` at `i`; writing the default removes the entry. -/
def Tab.set {α : Type} [DecidableEq α] (d : α) (t : Tab α) (i : Nat) (v : α) : Tab α :=
  if v = d then Tab.erase i t else Tab.insert i v (Tab.erase i t)

/-- Change the value at `i` by `f`. -/
def Tab.upd {α : Type} [DecidableEq α] (d : α) (t : Tab α) (i : Nat) (f : α → α) : Tab α :=
  Tab.set d t i (f (Tab.get d t i))

/-- Change the values at every number of a list, in its order. -/
def Tab.updAll {α : Type} [DecidableEq α] (d : α) (t : Tab α) (is : List Nat) (f : Nat → α → α) : Tab α :=
  is.foldl (fun t i => Tab.upd d t i (f i)) t

/-- The canonical form: numbers strictly rising, no entry equal to the default. -/
def Tab.wf {α : Type} [DecidableEq α] (d : α) (t : Tab α) : Bool :=
  (t.map Prod.fst).Pairwise (· < ·) && t.all (fun e => decide (e.2 ≠ d))

end Sys2Proof
end

