-- ==== Sys2Proof/Machine/State.lean ====
section
/-! DEFINITION. The state of the part as plain data, and the state at reset.

Every rw object of the dictionary has its active value in `State.obj.act` and its pending shadow value in
`State.obj.pend`; every other register, buffer, counter and mode has a field of its own in the group of the chapter that
names it. Instance numbers are those of R5 to R7. Defaults written in a structure are the values at reset. -/

namespace Sys2Proof.Machine

/-- The four family members (R1). -/
inductive Part where
  | ph1016 | ph2032 | ph4064 | ph8128
  deriving DecidableEq, Repr

/-- T, the number of tiles (R1). -/
def Part.tiles : Part → Nat
  | .ph1016 => 1
  | .ph2032 => 2
  | .ph4064 => 4
  | .ph8128 => 8

/-- The six modes (R91). -/
inductive Mode where
  | reset | configure | standby | run | hold | service
  deriving DecidableEq, Repr

/-- NMT state of one CAN channel (R91, R507); `none` while the dictionary is not served. -/
inductive Nmt where
  | none | stopped | operational | preOperational
  deriving DecidableEq, Repr

/-- What started the pre-start checks, as DEV_MODE:03 codes it (R101, R112). -/
inductive RunTrigger where
  | request | startEdge | automatic | nmtStart | restart
  deriving DecidableEq, Repr

/-- What caused the shutdown under way (R368), least stopped first. -/
inductive DownCause where
  | extReversal | systemReset | vinLoss | stop | hold
  deriving DecidableEq, Repr

/-- Mode, requests, VIN and start (chapter Operating modes). -/
structure ModeGrp where
  /-- DEV_MODE:01 (R91); RESET until power-up (R101). -/
  mode : Mode := .reset
  /-- DEV_MODE:02 (R112). -/
  substate : Nat := 0
  /-- DEV_MODE:03 (R112); 0 is POR. -/
  lastCause : Nat := 0
  /-- DEV_MODE:0C (R104). -/
  startResult : Nat := 0
  /-- DEV_MODE:0D (R99). -/
  powerupTime : Nat := 0
  /-- DEV_MODE:0E (R96); 0xFF defaults. -/
  configOrigin : Nat := 0
  /-- DEV_MODE_REQ:01 (R114). -/
  lastReq : Nat := 0
  /-- DEV_MODE_REQ:04 (R114). -/
  reqResult : Nat := 0
  /-- DEV_MODE_REQ:05 (R114). -/
  checkDetail : Nat := 0
  /-- The trigger whose pre-start checks run (R104). -/
  starting : Option RunTrigger := none
  /-- A calibration ran when that trigger came (R314). -/
  startCal : Bool := false
  /-- Start of the open-wire set or proof test under way (R104, R318, R457). -/
  checkAt : Nat := 0
  /-- Which open-wire set runs: 0 none, 1 remote-sense, 2 VMON (R318). -/
  openWireSet : Nat := 0
  /-- Why the sequence goes down (R368). -/
  downCause : Option DownCause := none
  /-- The codes of the severity-5 faults that led to the present HOLD (R390, R445). -/
  heldBy : List Nat := []
  /-- A restart waits (R108). -/
  restartWait : Bool := false
  /-- State 0 was reached at this time (R108). -/
  state0At : Nat := 0
  /-- Start of the present unbroken spell of good VIN (R108). -/
  vinGoodSince : Nat := 0
  /-- Only RESET# or POR ends this HOLD (R66, R292, R291, R27). -/
  resetOnly : Bool := false
  /-- The sequencer of HOLD entry has reached state 0 (R105). -/
  tornDown : Bool := false
  /-- TEST high at POR release on an unfused part (R50). -/
  factoryTest : Bool := false
  /-- Frames spent in RUN since the last full hour (R423). -/
  runFrames : Nat := 0
  /-- A debug halt is in force (R179). -/
  halted : Bool := false
  /-- A proof test runs (R457). -/
  proofRunning : Bool := false
  /-- DIAG_TABLE:02 (R464). -/
  proofState : Nat := 0
  /-- DIAG_TABLE:03 (R464). -/
  proofResult : Nat := 0
  deriving DecidableEq, Repr

/-- Levels of the two balls of a phase; `none` is high impedance. -/
abbrev Balls := Option Bool × Option Bool

/-- What the last TAP instruction shifted out (R477): nothing yet; the one bit of BYPASS; part number and revision; the levels of the
phases' balls; the zeros of a debug instruction outside SERVICE; the word of a memory access; an answer of a debug instruction that
acts, of which the spec says no more. -/
inductive TapOut where
  | none | bypass | ident (part revision : Nat) | levels (balls : List Balls) | zeros | memory (v : Nat) | acts
  deriving DecidableEq, Repr

/-- Input balls as the part last saw them, and the reset straps (R36, R41, R48). Levels: true is high. -/
structure Pins where
  /-- SAFE_IN# (R42): its pull-down reads low when nothing drives it. -/
  safeIn : Bool := false
  /-- START (R41). -/
  start : Bool := false
  /-- PFAIL (R41). -/
  pfail : Bool := false
  /-- T0_VINSEN0 as the VIN monitor last saw it, mV at the ball (R107). -/
  vin : Nat := 0
  /-- Levels of TRIPn of tile t at 8·t + n; their pull-downs read low when nothing drives them (R41, R175). -/
  trip : Tab Bool := []
  /-- The present assertion of TRIPn has made its event (R175). -/
  tripSeen : Tab Bool := []
  /-- SFLTk asserted (low) at 4·t + k, and its present assertion has made its event (R175). -/
  sflt : Tab Bool := []
  sfltSeen : Tab Bool := []
  /-- PGj after its filter, by external rail (R348). -/
  pg : Tab Bool := []
  /-- Straps Tt_LVSEL, bit t (R48). -/
  lvsel : Nat := 0
  /-- EXTEST is the TAP's instruction: it holds the balls while RESET# is low (R477). -/
  extest : Bool := false
  /-- The boundary cells of PWMHp and PWMLp, bit p (R477). -/
  cells : Nat × Nat := (0, 0)
  /-- What the last TAP instruction shifted out (R477). -/
  tap : TapOut := .none
  deriving DecidableEq, Repr

/-- Clocks, device time and SYNC (R60 to R71, R294, R295). -/
structure ClkGrp where
  /-- Device time (R68). -/
  time : Nat := 0
  /-- Device time runs (R9, R284 step 5). -/
  running : Bool := false
  /-- Ticks since POR that passed before the present device time began, over resets that are no POR (R423). -/
  powerBase : Nat := 0
  /-- The MODEL'S OWN marks: the frame whose boundary, and the loop sample, that commands have made last. -/
  frameDone : Nat := 0
  sampleDone : Nat := 0
  /-- DEVICE_TIME:02 and :03 (R71, R88). -/
  timeRx : Nat := 0
  timeRxAt : Nat := 0
  /-- CLOCK_STATUS:01 to :06 (R87). -/
  pllLocked : Nat := 0
  refPresent : Nat := 0
  holdover : Nat := 0
  slowOk : Nat := 0xFF
  refLossCount : Nat := 0
  refDeviation : Int := 0
  /-- SYNC:03 to :06 (R298). -/
  syncState : Nat := 0
  syncInterval : Nat := 0
  syncOrigin : Nat := 0
  syncLost : Nat := 0
  /-- T of the last SYNC_IN edge, the expected grid (a T on it and its interval), and consecutive edges off it (R295). -/
  syncLastEdge : Option Nat := none
  syncGrid : Option (Nat × Nat) := none
  syncOff : Nat := 0
  /-- End of the present SYNC_OUT pulse (R294). -/
  syncOutUntil : Nat := 0
  deriving DecidableEq, Repr

/-- The answer to a dictionary request (R492). -/
inductive Resp where
  | none | ok (bytes : List Nat) | abort (code : Nat) | held
  deriving DecidableEq, Repr

/-- A request held while a commit is in flight (R81); `verify` is the outcome of the verify read of a fuse write, the copies
that read blown (R475). -/
inductive HeldReq where
  | write (ch : Chan) (idx sub len v verify : Nat)
  | read (ch : Chan) (idx sub len : Nat)
  | rpdo (n : Nat) (data : List Nat)
  deriving DecidableEq, Repr

/-- A committed value that waits for carrier zeros (R72): the key, the value, and the tiles that take it. -/
structure Late where
  key : Nat
  v : Nat
  tiles : Nat
  deriving DecidableEq, Repr

/-- The commit in flight (R81 to R83). -/
structure Flight where
  /-- Frame F. -/
  frame : Nat
  /-- Tiles named, and those whose frame slot of frame F − 1 arrived without READY (R82). -/
  named : Nat
  notReady : Nat := 0
  /-- Tiles that took a corrupted frame slot of frame F − 1 (R83, R289). -/
  missed : Nat := 0
  /-- The swap at F has been made. -/
  swapped : Bool := false
  /-- Switching phases whose carrier-zero swap is still to come (R81). -/
  waiting : List Nat := []
  /-- Carrier-zero settings of which some named phase has still to swap; until then the old value is the active one. -/
  late : List Late := []
  deriving DecidableEq, Repr

/-- The dictionary's values and the commit scheduler (R75 to R90). Keys are index · 256 + subindex. -/
structure ObjGrp where
  /-- Active values that differ from the default of the object's row. -/
  act : Tab (Option Nat) := []
  /-- Pending shadow values (R75). -/
  pend : Tab (Option Nat) := []
  /-- Of a pending value that some of its tiles have swapped already, the tiles that still hold it as a shadow (R83). -/
  owed : Tab Nat := []
  /-- Of an object held on several tiles, the tiles whose active value differs from the one in `act`, with theirs: a
  commit was applied in part (R83). -/
  split : Tab (List (Nat × Nat)) := []
  /-- COMMIT:01 to :05 (R89). -/
  tag : Nat := 0
  schedFrame : Nat := 0
  appliedFrame : Nat := 0
  result : Nat := 0
  appliedCount : Nat := 0
  flight : Option Flight := none
  /-- SHADOW_STATUS:03 (R90). -/
  notReady : Nat := 0
  /-- The frame of the last swap and the tiles that made it (R83, R289). -/
  tookFrame : Nat := 0
  takers : Nat := 0
  /-- Requests held during a flight, oldest first (R81). -/
  heldReqs : List HeldReq := []
  /-- The last answer to each USDO client of CAN A, and on the other channels. -/
  respA : Tab Resp := []
  respB : Resp := .none
  respSpi : Resp := .none
  deriving DecidableEq, Repr

/-- Preview of a loop: armed, pending or applied (R233 to R235). -/
structure Preview where
  cls : Nat
  mag : Nat
  lead : Nat
  deriving DecidableEq, Repr

/-- A fired preview (R235). -/
structure Fired where
  at_ : Nat
  applyAt : Nat
  endAt : Nat
  offset : Nat
  applied : Bool := false
  /-- The tiles that have lost the sample slot with its flag (R280, R288). -/
  missed : Nat := 0
  deriving DecidableEq, Repr

/-- The settings that a running Canopy or overshoot action keeps (R74, R232). -/
structure CanopyCfg where
  depth : Nat
  osDepth : Nat
  /-- The enabled phases (R228). -/
  phases : List Nat
  /-- HYST, PRESET_MODE, PRESET_STEP, MAX_TIME and REARM_TIME as they stood at the trigger (R232). -/
  hyst : Nat
  presetMode : Nat
  presetStep : Nat
  maxTime : Nat
  rearm : Nat
  deriving DecidableEq, Repr

/-- Who waits for the acceptance of a target (R140, R263): the dictionary, with the channel to answer (an RPDO entry has
none), or the lane of tile t, slot k. -/
inductive TargetSource where
  | dict (ch : Option Chan)
  | lane (t k : Nat)
  deriving DecidableEq, Repr

/-- A target that waits for the next loop sample (R140, R263). -/
structure Waiting where
  v : Nat
  src : TargetSource
  deriving DecidableEq, Repr

/-- Target, reference and soft-start ramp of a loop (R139 to R146, R222, R223). -/
structure LoopTarget where
  /-- The target in force (LOOP_TARGET:01 as last accepted), 0.25 mV (R140). -/
  target : Nat := 0
  /-- Targets that wait for the next loop sample, in order of arrival (R140, R263). -/
  waiting : List Waiting := []
  /-- ref, 16 fraction bits (R139). -/
  ref : Nat := 0
  /-- LOOP_SLEW:02 (R142). -/
  rateInUse : Nat := 0
  /-- LOOP_TARGET:03 to :05. -/
  accepted : Nat := 0
  reached : Nat := 0
  superseded : Nat := 0
  /-- A move of ref is under way (R141). -/
  moving : Bool := false
  /-- LOOP_SOFT:05 (R246), and the STATE 1 hold above the target (R223). -/
  prebias : Nat := 0
  holdAbove : Bool := false
  startAt : Nat := 0
  /-- Settings kept by the ramp under way (R74): step of ref per sample, ON_RAMP and NO_SINK. -/
  rampStep : Nat := 0
  onRamp : Nat := 0
  noSink : Bool := false
  deriving DecidableEq, Repr

/-- Compensator, feedforward, droop and checker of a loop (R121 to R134, R147, R148). -/
structure LoopComp where
  /-- Compensator histories: u at 24 fraction bits, e at 4, residue at 53 (R123). -/
  u1 : Int := 0
  u2 : Int := 0
  u3 : Int := 0
  e1 : Int := 0
  e2 : Int := 0
  res : Int := 0
  /-- u[n] of the sample before the latest (for u_t of R230). -/
  uPrev : Int := 0
  /-- What the latest sample has shifted out: the histories without that sample (R288). -/
  u4 : Int := 0
  e3 : Int := 0
  resPrev : Int := 0
  /-- The last three duty commands (R123), newest first, and the loop sample n of the newest: a command is in use once
  the compensator stage has ended (R17, R18). -/
  duty : Nat := 0
  duty1 : Nat := 0
  duty2 : Nat := 0
  dutyAt : Nat := 0
  /-- The duty command is at DUTY_MIN, or at DUTY_MAX (R125, R156). -/
  atMin : Bool := false
  atMax : Bool := false
  /-- f in use, 14 fraction bits; whether FF_ENTRY has given a result since the start; VIN in mV on its way by frame
  slot (R127, R128). -/
  ff : Nat := 0x4000
  ffSeen : Bool := false
  ffLatched : Option Nat := none
  /-- f_v of the preview, from the same VIN (R235). -/
  fv : Nat := 0x4000
  /-- A VIN result is in use. -/
  ffActive : Bool := false
  /-- v_d in 1/16 LSB, I_f with 8 fraction bits (R133). -/
  vd : Int := 0
  ifilt : Int := 0
  /-- Checker: failed checks of each tile's slot and largest difference of this frame; LOOP_CHECKER:04, :05 (R147,
  R148). -/
  chkFails : Tab Nat := []
  chkMax : Nat := 0
  chkTotal : Nat := 0
  chkLast : Nat := 0
  chkFault : Bool := false
  deriving DecidableEq, Repr

/-- The compensator of a replica tile that is no longer the anchor's: it took another error sample, or it lost one and
processes no further sample (R280, R288). -/
structure Replica where
  cp : LoopComp
  stopped : Bool
  deriving DecidableEq, Repr

/-- Sensed values of a loop (R120, R134, R323). -/
structure LoopSense where
  /-- I in use, mA (R134); the sums on their way are in `LinkGrp.isum`. -/
  iNow : Option Int := none
  /-- Latest loop sample and its conversions (R120). -/
  sample : Nat := 0
  c0 : Nat := 0
  c1 : Nat := 0
  c2 : Nat := 0
  c3 : Nat := 0
  /-- The last samples, newest first: 9 for the slope trigger, 256 for the pre-bias (R222, R227). -/
  hist : List Nat := []
  /-- Sum and count of the samples of this frame (R323). -/
  sumS : Nat := 0
  cntS : Nat := 0
  /-- V_f of the last frame (R323). -/
  vf : Nat := 0
  /-- Out-of-range run: 0 none, 1 low, 2 high; its length (R120). -/
  rangeKind : Nat := 0
  rangeRun : Nat := 0
  /-- Frames for which SENSE_RANGE still shows (R120, R156). -/
  rangeFrames : Nat := 0
  /-- The error sample formed at the latest loop sample (R121), as the anchor's sample slot carries it (R279). -/
  err : Int := 0
  deriving DecidableEq, Repr

/-- What a released action presets at the next loop sample (R230, R231): the action, PRESET_MODE, PRESET_STEP and the u kept
at its trigger. -/
structure ActionPreset where
  action : Nat
  mode : Nat
  step : Nat
  u : Int
  deriving DecidableEq, Repr

/-- Canopy and overshoot action of a loop (R226 to R232). -/
structure LoopAction where
  /-- 0 none, 1 Canopy, 2 overshoot (R228, R231). -/
  action : Nat := 0
  actTrig : Nat := 0
  actAt : Nat := 0
  actU : Int := 0
  actCfg : Option CanopyCfg := none
  /-- MAX_TIME after the latest trigger, and the instant of the latest release (R230, R279, R288). -/
  actEnd : Nat := 0
  relAt : Option Nat := none
  /-- The action byte of the state hash, as it stands after the latest loop sample (R286). -/
  hashAct : Nat := 0
  /-- Canopy threshold and overshoot level of the present frame, in 1/16 of 0.25 mV (R227, R230, R231). -/
  canopyThr : Int := 0
  osLevel : Int := 0
  /-- The same with the settings that the next trigger of this frame uses (R232, R245). -/
  nextThr : Int := 0
  nextOs : Int := 0
  /-- No trigger is accepted before this time (R232). -/
  rearmUntil : Nat := 0
  /-- A preset waits for the next loop sample (R230). -/
  preset : Option ActionPreset := none
  /-- LOOP_CANOPY:0C to :0E. -/
  canopyCount : Nat := 0
  canopyLast : Nat := 0
  rearmRejects : Nat := 0
  /-- Released Canopy actions whose recovery is still awaited, by trigger time (R533, source 7). -/
  recoverFrom : List Nat := []
  deriving DecidableEq, Repr

/-- Sprout preview of a loop (R233 to R236). -/
structure LoopPreview where
  /-- Preview (R233 to R236), LOOP_PREVIEW:0D to :0F. -/
  armed : Option Preview := none
  /-- Previews that have fired and are pending or applied, in the order of their firing (R235). -/
  fired : List Fired := []
  /-- The latest firing edge, from which REARM counts (R234). -/
  lastFire : Option Nat := none
  /-- LOOP_PREVIEW:0D to :0F (R236). -/
  firedCount : Nat := 0
  unarmed : Nat := 0
  merged : Nat := 0
  deriving DecidableEq, Repr

/-- A decided count that waits for its loop carrier boundary (R199). -/
structure Decision where
  /-- min(C_level, BUDGET), 128 where neither bounds the count (R191). -/
  cap : Nat
  /-- N (R191). -/
  count : Nat
  /-- The level in use before the decision (R198). -/
  before : Int
  /-- Thermally shed phase from then on (R201). -/
  thermal : Option Nat
  /-- Earliest device time of the loop carrier boundary that applies it (R199). -/
  start : Nat
  /-- The decision lowered the level (R198). -/
  shed : Bool
  deriving DecidableEq, Repr

/-- The settings that a shed dwell keeps (R74, R198): DWELL, HYSTERESIS, MIN_ACTIVE and the used levels, each with its
number, threshold and count. -/
structure DwellCfg where
  len : Nat := 0
  hyst : Nat := 0
  min : Nat := 0
  levels : List (Nat × Nat × Nat) := []
  deriving DecidableEq, Repr

/-- Population, burst and trim learning of a loop (R189 to R213). -/
structure LoopPop where
  /-- λ; dwell count, and the settings under which it began (R74); N in use (R191, R198). -/
  level : Int := -1
  dwell : Nat := 0
  dwellCfg : DwellCfg := {}
  active : Nat := 0
  /-- min(C_level, BUDGET) of the count in use, 128 where neither bounds it (R191). -/
  cap : Nat := 0
  /-- The enabled set, the order or the spread has changed at this frame boundary (R189, R190, R193). -/
  respread : Bool := false
  /-- A Canopy or preview trigger has occurred in this frame (R198). -/
  trigFrame : Bool := false
  /-- Decided counts, oldest first (R198, R199). -/
  decided : List Decision := []
  /-- The entry to regulation is still to be decided at a frame boundary (R192). -/
  entry : Bool := false
  /-- The count of a consumed preview stays in use (R235). -/
  keep : Bool := false
  /-- Decided thermal mark (R201), and the one in use, LOOP_STATUS:09. -/
  mark : Option Nat := none
  thermal : Option Nat := none
  /-- Burst: 0 none, 1 bursting, 2 asleep (R209 to R213). -/
  burst : Nat := 0
  /-- Frames of the entry dwell (R209); the carrier zeros to come up to the end of the present burst and its LIFT, and the start
  of the present sleep (R210). -/
  burstDwell : Nat := 0
  burstLeft : Nat := 0
  burstLift : Nat := 0
  sleepAt : Nat := 0
  /-- The loop has woken: the next burst begins at the first carrier zero from then on (R212). -/
  burstFrom : Option Nat := none
  /-- The instant of the latest wake (R212, R279). -/
  wakeAt : Option Nat := none
  /-- Short sleeps in succession (R213), LOOP_BURST:0B and :0C (R215). -/
  shortSleeps : Nat := 0
  burstCount : Nat := 0
  lastSleep : Nat := 0
  /-- Trim learning (R206 to R208), LOOP_TRIM_LEARN:02, :09, :0A, :0E. -/
  learn : Nat := 0
  learnI0 : Int := 0
  learnIter : Nat := 0
  learnFrames : Nat := 0
  learnWorst : Int := 0
  learnSaved : Bool := false
  /-- The phases enabled at the start of the learning (R207). -/
  learnPhases : List Nat := []
  /-- A start has been refused while learning runs: STATE reads 5 (R206). -/
  learnNo : Bool := false
  deriving DecidableEq, Repr

/-- Protection and safe state of a loop (R237 to R244, R440 to R448, R288, R321). -/
structure LoopProt where
  /-- Hiccup (R239), LOOP_OC:04, :05. -/
  hiccups : Nat := 0
  hiccupTotal : Nat := 0
  offUntil : Nat := 0
  /-- The soft start under way belongs to a hiccup (R239, R389). -/
  inHiccup : Bool := false
  /-- Start of the spell without trouble that clears the count (R239). -/
  cleanSince : Nat := 0
  /-- Over-temperature (R242, R243), LOOP_OT:07, :08. -/
  temp : Option Int := none
  otState : Nat := 0
  otRestart : Bool := false
  /-- Safe state: severity 0, 3 or 5, causing code, reset-only cause (R440 to R445). -/
  safeSev : Nat := 0
  cause : Nat := 0
  resetOnly : Bool := false
  /-- Low sides on since, and total ticks in this safe state (R441). -/
  lowSides : Bool := false
  lowSince : Nat := 0
  lowTotal : Nat := 0
  /-- SAFETY_STATUS:02, the bit of this loop (R447). -/
  ovSeen : Bool := false
  /-- Undervoltage report and the start of its condition (R448). -/
  uvCond : Bool := false
  uvSince : Nat := 0
  uvReport : Bool := false
  /-- LOOP_TELEM:0B (R340) and the start of the excursion (R321). -/
  plaus : Nat := 0
  plausSince : Nat := 0
  /-- A sample or frame slot was lost on these tiles (bitmap); the safe state follows at the frame boundary (R288, R289). -/
  lostTiles : Nat := 0
  /-- Replica compensators that differ from the anchor's, by tile (R280, R288). -/
  own : Tab (Option Replica) := []
  /-- Consecutive mismatch frames; and the receiver that first saw a difference in the present frame, with the tiles whose hashes
  differ from its own (R287). -/
  mismatch : Nat := 0
  differ : Option (Nat × Nat) := none
  deriving DecidableEq, Repr

/-- Window means and peaks of a loop (R310, R324, R325). -/
structure LoopTelem where
  /-- Window sums: V, I, P, T with their counts (R324). -/
  wV : Nat := 0
  nV : Nat := 0
  wI : Int := 0
  wP : Int := 0
  nI : Nat := 0
  wT : Int := 0
  nT : Nat := 0
  /-- LOOP_TELEM:02 to :06 (R340). -/
  vout : Nat := 0
  iout : Int := 0
  pout : Int := 0
  tout : Int := 0
  windows : Nat := 0
  /-- LOOP_PEAKS (R341). -/
  vMax : Nat := 0
  vMin : Nat := 0xFFFF
  iMax : Int := -0x80000000
  pMax : Int := -0x80000000
  tMax : Int := -0x8000
  /-- Frames without a new result, by channel code (R310). -/
  stale : Tab Nat := []
  deriving DecidableEq, Repr

/-- Lane status of a loop (R268, R276). -/
structure LoopLane where
  /-- Lane latch and counters of the loop (R268, R276). -/
  latch : Nat := 0
  lastOpcode : Nat := 0
  lastPayload : Nat := 0
  lastStatus : Nat := 0
  acceptedSets : Nat := 0
  nakRange : Nat := 0
  nakOwner : Nat := 0
  deriving DecidableEq, Repr

/-- One loop (chapters The regulation loop, Phase population, Transients, Sensing, Functional safety). -/
structure Loop where
  /-- LOOP_STATUS:01 (R156). -/
  state : Nat := 0
  /-- SYNC origin of the present run (R295). -/
  origin : Nat := 0
  tg : LoopTarget := {}
  cp : LoopComp := {}
  sn : LoopSense := {}
  ac : LoopAction := {}
  pv : LoopPreview := {}
  pp : LoopPop := {}
  pr : LoopProt := {}
  tl : LoopTelem := {}
  ln : LoopLane := {}
  deriving DecidableEq, Repr

/-- Settings of a phase in use since its last carrier zero (R72, R73). -/
structure PhaseCfg where
  /-- The output mode has been loaded (R94). -/
  loaded : Bool := false
  /-- Settings in use since the last carrier zero (R72): HALF, decision lead, DEAD_TIME, MIN_PULSE, OUTPUT_MODE,
  RAW_MODE, TRIM, and the blanking values of the inputs that act on the phase, in 2 ns (R173, R186, R188). -/
  half : Nat := 500
  lead : Nat := 12
  dead : Nat := 320
  minPulse : Nat := 384
  outMode : Nat := 0
  raw : Bool := false
  trim : Int := 0
  ocBlank : Nat := 50
  sfltBlank : Nat := 0
  tripBlank : Nat := 0
  safeBlank : Nat := 0
  deriving DecidableEq, Repr

/-- Edge decision of a phase (R136 to R138, R161 to R168). -/
structure PhaseEdge where
  /-- Dither residue, 2^-16 fine ticks (R138). -/
  residue : Nat := 0
  /-- acc of R168, fine ticks. -/
  acc : Int := 0
  /-- Rising half skipped; x and y of R168; the frozen edges, fine ticks after carrier zero (R136, R158). -/
  skip : Bool := false
  x : Nat := 0
  rise : Option Nat := none
  fall : Option Nat := none
  /-- The next decision is the falling edge. -/
  falling : Bool := false
  /-- The instant of the edge frozen last, fine ticks after carrier zero: the search for the next edge begins there (R136). -/
  lastEdge : Int := 0
  /-- The next rising edge has been frozen before its carrier zero, with this command and preview offset (R136). -/
  ahead : Option (Nat × Nat) := none
  /-- End of the previous high-side pulse, fine ticks before the present carrier zero (R167). -/
  lastFall : Int := 0
  /-- The low-side window under way is omitted (R167). -/
  omitLow : Bool := false
  /-- Exact code of the present half period: 0 none, 1 exact 0 %, 2 exact 100 % (R161). -/
  exact : Nat := 0
  /-- PHASE_MANUAL:02 (R184). -/
  dutyInUse : Nat := 0
  beyond : Bool := false
  /-- A truncation in this period, fine ticks after carrier zero (R174). -/
  cut : Option Nat := none
  /-- The pulse of the previous period ran on to its end (R161, R178). -/
  tail : Bool := false
  /-- No pulse before the next carrier zero (R230); both balls off until then (R175, R451). -/
  wait : Bool := false
  offWait : Bool := false
  deriving DecidableEq, Repr

/-- Counters and flags of a phase (R177, R184, R238, R250). -/
structure PhaseCount where
  /-- PHASE_STATUS:03, :04 and the flag history (R184). -/
  skipped : Nat := 0
  lsOmitted : Nat := 0
  skipNow : Bool := false
  skipLast : Bool := false
  omitNow : Bool := false
  omitLast : Bool := false
  truncNow : Bool := false
  truncLast : Bool := false
  /-- A truncation by the over-current comparator in this period (R238). -/
  ocNow : Bool := false
  /-- PHASE_OC:05, :06. -/
  ocRun : Nat := 0
  truncations : Nat := 0
  /-- Read-back: a mismatch in this and in the last carrier period (R177). -/
  badNow : Bool := false
  badLast : Bool := false
  stuck : Bool := false
  /-- PHASE_OT:02. -/
  thermalSheds : Nat := 0
  deriving DecidableEq, Repr

/-- Share, current and learning values of a phase (R204, R326, R342). -/
structure PhaseTelem where
  /-- e_p in 0.1 % (R204), monitored frames above the limit (R205). -/
  share : Option Int := none
  shareRun : Nat := 0
  shareTold : Bool := false
  shareSum : Int := 0
  shareCnt : Nat := 0
  shareAvg : Option Int := none
  /-- PHASE_TELEM:02, :03 in 10 mA (R342) and the window sum. -/
  curAvg : Int := 0
  curSum : Int := 0
  curCnt : Nat := 0
  curPeak : Option Int := none
  /-- PHASE_TRIM:02, the trim before learning and the learning sum (R207, R217). -/
  learned : Int := 0
  trimBefore : Int := 0
  learnSum : Int := 0
  deriving DecidableEq, Repr

/-- A phase's place in the population: whether its counter runs, from where, and what is to change of it (R193 to R195). -/
structure PopPlace where
  on : Bool := false
  zeroSeen : Bool := false
  zeroAt : Nat := 0
  offset : Nat := 0
  move : Int := 0
  moveFrom : Nat := 0
  stopping : Bool := false
  stopFrom : Nat := 0
  cfg : PhaseCfg := {}
  deriving DecidableEq, Repr

/-- One phase (chapters Carrier, Phase population, Transients). -/
structure Phase where
  /-- The carrier counter runs (R73, R160). -/
  on : Bool := false
  /-- Device time of the last carrier zero; R160 congruence; false until the first zero. -/
  zeroAt : Nat := 0
  zeroSeen : Bool := false
  /-- O_i (R193), the move still to make, in PWM clocks, and the time from which it can be made (R195). -/
  offset : Nat := 0
  move : Int := 0
  moveFrom : Nat := 0
  /-- The phase goes off at its next carrier zero (R93, R194, R225). -/
  stopping : Bool := false
  /-- It does so at its first carrier zero from this time on (R194, R235). -/
  stopFrom : Nat := 0
  /-- Off by a trip input (R175), bit 0 and 1 TRIP, bit 2 SFLT; off in a halt (R180). -/
  tripOff : Nat := 0
  haltOff : Bool := false
  /-- Frozen by a debug halt, with the levels that its balls keep, and the truncation of a trip during the halt (R179,
  R180); waits for the reload at the frame boundary (R181). -/
  frozen : Bool := false
  haltBalls : Option (Option Bool × Option Bool) := none
  haltCut : Option Nat := none
  reload : Bool := false
  /-- The action that meets the phase, 1 Canopy and 2 overshoot, with the instants at which it begins and ends here: on a
  replica tile those at which the sample slot delivers them (R228, R280). -/
  actKind : Nat := 0
  actFrom : Nat := 0
  actTo : Option Nat := none
  /-- Under Canopy: the high side was on when it began; the truncation since then (R228, R229). -/
  actHigh : Bool := false
  actCut : Option Nat := none
  /-- Events of this period up to here have reached the event taps, fine ticks after carrier zero (R178). -/
  tapTo : Nat := 0
  cfg : PhaseCfg := {}
  ed : PhaseEdge := {}
  /-- The edges as they were when the latest action came (R288: its flag can be lost on the way). -/
  edBefore : PhaseEdge := {}
  /-- Its place in the population when the latest preview fired (R280, R288: that flag can be lost too). -/
  popBefore : PopPlace := {}
  ct : PhaseCount := {}
  tl : PhaseTelem := {}
  deriving DecidableEq, Repr

/-- The blanking of one trip input (R173): its last window, opening and length in fine ticks of device time, and how far
the edges have been looked at. -/
structure Window where
  last : Option (Int × Int) := none
  upTo : Int := 0
  deriving DecidableEq, Repr

/-- One rail (R345 to R374). -/
structure Rail where
  /-- RAIL_STATUS:01 to :08. -/
  status : Nat := 0
  lastCause : Nat := 0
  drops : Nat := 0
  retries : Nat := 0
  onAt : Nat := 0
  goodAt : Nat := 0
  offAt : Nat := 0
  dischargedAt : Nat := 0
  /-- ENj is driven on, or the loop rail is on (R347). -/
  on : Bool := false
  /-- Declared good and not ended since (R358). -/
  declared : Bool := false
  /-- The good condition at the last look (R348). -/
  good : Bool := false
  /-- Falls of the good condition of the running rail that RAIL_DROP has not taken yet (R348, R360). -/
  dropDue : Nat := 0
  /-- The good condition of a loop rail at the last sequencer tick (R348). -/
  tickGood : Bool := false
  /-- The settle count runs (R358); ends of the rail's timers under the settings with which they began: settle, on-delay,
  off-delay, RAMP_MIN, deadline and discharge (R74, R346, R357, R358, R359, R364, R367, R370). -/
  settling : Bool := false
  settleEnd : Nat := 0
  /-- The settle count has reached SETTLE and the processor of the rail's tile, recovering, has still to act on it (R370). -/
  settled : Bool := false
  onEnd : Nat := 0
  offEnd : Nat := 0
  rampEnd : Nat := 0
  deadlineEnd : Nat := 0
  /-- A latch-off has stopped the deadline (R241). -/
  noDeadline : Bool := false
  /-- The retry in progress follows an over-temperature shutdown and waits for the end of the warning (R244). -/
  otWait : Bool := false
  dischargeEnd : Nat := 0
  /-- End of BAD_TIME for the present spell of not good, until it makes its fault (R360). -/
  badEnd : Option Nat := none
  /-- A drop of the running rail is being filtered: it is not good again for SETTLE yet (R360). -/
  filtering : Bool := false
  /-- Ends of the DROP_WINDOWs that the drops still counted have opened (R360). -/
  dropEnds : List Nat := []
  /-- The discharge has ended or passed its timeout (R364). -/
  discharged : Bool := true
  /-- Step of a retry: 0 none, 1 dependants off, 2 rail off, 3 rail on, 4 dependants on (R362). -/
  retryStep : Nat := 0
  /-- Start of the present unbroken spell of good (R362). -/
  okSince : Nat := 0
  /-- The rail goes off with a retry of this parent and comes back after it (R362). -/
  retryOf : Option Nat := none
  /-- The rail whose group shutdown has not discharged this rail yet (R363). -/
  groupOf : Option Nat := none
  /-- Parents handled on another tile whose declaration is known on this rail's tile, with the time of that declaration
  (R357). -/
  knownGood : List (Nat × Nat) := []
  deriving DecidableEq, Repr

/-- A failure record (R369, R377). -/
structure FailRec where
  valid : Bool := false
  rail : Nat := 0xFF
  state : Nat := 0
  cause : Nat := 0
  time : Nat := 0
  timeRx : Nat := 0
  deriving DecidableEq, Repr

/-- Sequencer and TRELLIS (R349 to R369, R375 to R377). -/
structure SeqGrp where
  /-- State and direction (0 none, 1 upward, 3 downward) of every tile without an entry in `tileState` (R349). -/
  state : Nat := 0
  dir : Nat := 0
  /-- State number and direction of a tile that disagrees with the others (R349, R355). -/
  tileState : Tab (Option (Nat × Nat)) := []
  /-- SEQ_STATE:05 to :09. -/
  steps : Nat := 0
  lastStepAt : Nat := 0
  timeouts : Nat := 0
  sysresets : Nat := 0
  local_ : Bool := false
  /-- A reversal is requested, and when (R352). -/
  reversing : Bool := false
  revAt : Nat := 0
  /-- A TRELLIS timeout has found the line low and it has not moved since (R356, R390). -/
  stuck : Bool := false
  /-- The rail whose system-reset reaction is in progress (R366, R387). -/
  resetBy : Option Nat := none
  /-- End of the mark of the last advance (R351). -/
  markEnd : Nat := 0
  /-- The instant from which every tile of the part has released TRELLIS (R349, R351). -/
  freeAt : Option Nat := none
  /-- The instant up to which another participant holds TRELLIS low, as the commands tell it; 0 for none (R349). -/
  others : Nat := 0
  /-- The instant at which a tile's work in its present state was done (R351, R356). -/
  doneAt : Tab (Option Nat) := []
  /-- A system-reset reaction: 0 none, 1 going down, 2 RESET_OUT pulse, 3 restart wait; the pulse itself (R366). -/
  sysreset : Nat := 0
  sysresetAt : Nat := 0
  pulse : Bool := false
  first : FailRec := {}
  last : FailRec := {}
  deriving DecidableEq, Repr

/-- What waits for a recovering processor (R25, R370): an outcome of a rail, the running fault that a latch-off or an
over-temperature shutdown of its loop reports (R240, R243), or that a dependant goes off, kept off with a cause (R359). -/
inductive Deferred where
  | outcome (i : Instr)
  | loopFault (n : Nat)
  | keepOff (n cause : Nat)
  deriving DecidableEq, Repr

/-- An entry that was under way at a swap of the tables (R308): its word, WAIT_LIMIT, TIMER_PERIOD and LENGTH; it starts no
earlier than `notBefore`. -/
structure OldEntry where
  word : Nat
  limit : Nat
  period : Nat
  len : Nat
  notBefore : Nat := 0
  deriving DecidableEq, Repr

/-- An entry that has taken its samples; its result is still to be written (R307). -/
structure DoneEntry where
  entry : Nat
  word : Nat
  last : Nat
  late : Bool
  /-- It ends a pass of its table (R335). -/
  ends : Bool
  deriving DecidableEq, Repr

/-- One telemetry converter at work on its sequence table (R301 to R308, R311, R335). -/
structure SeqConv where
  /-- The entry that waits or samples. -/
  entry : Nat := 0
  /-- L, the last sampling clock of the preceding entry (R302). -/
  last : Nat := 0
  /-- The first sampling clock, once a trigger or the wait limit has fixed it, and LATE (R302, R304). -/
  first : Option Nat := none
  late : Bool := false
  /-- Paired entries passed since the start or the swap (R305, R308). -/
  pairs : Nat := 0
  passes : Nat := 0
  old : Option OldEntry := none
  /-- Results still to be written, oldest first. -/
  done : List DoneEntry := []
  /-- The next check conversion, counted in units of 512 TADC clocks, and the latest die conversion with its check (R311,
  R312). -/
  check : Nat := 0
  die : Option (Nat × Nat) := none
  deriving DecidableEq, Repr

/-- One tile (R10, R25, R283, R296, R301 to R319, R335 to R339). -/
structure Tile where
  /-- TILE_STATUS:01 to :05, :06. -/
  state : Nat := 0
  failCause : Nat := 0
  /-- Device time of the failure (R392). -/
  failAt : Nat := 0
  wdCount : Nat := 0
  /-- Times of the watchdog expiries of the last second (R27). -/
  wdTimes : List Nat := []
  laneLevelFault : Bool := false
  trainTime : Nat := 0
  dieTemp : Int := 0
  /-- TELEM_SEQ:08; the sequence tables of the two converters (R301, R335). -/
  late : Nat := 0
  seq0 : SeqConv := {}
  seq1 : SeqConv := {}
  /-- TELEM_CHECK:02 to :05 (R312, R319). -/
  refFails : Nat := 0
  senseFails : Nat := 0
  openSense : Nat := 0
  openVmon : Nat := 0
  /-- Inputs that the latest open-wire sets pulled up: bits 0 to 7 the sense inputs, bit 8 + j VMONj (R318). -/
  pulls : Nat := 0
  /-- The last REF_B check failed, bit per converter; the last sense check failed, bit per slot (R312). -/
  refBad : Nat := 0
  senseBad : Nat := 0
  /-- Checks whose converter fault holds, as `refBad` and `senseBad`, and the reference drift that holds (R449, R572). -/
  refFault : Nat := 0
  senseFault : Nat := 0
  bandFault : Bool := false
  /-- Results: 64·converter + entry, (value, updates, late, volts) (R337). -/
  raw : Tab (Nat × Nat × Bool × Nat) := []
  /-- LATEST by channel code, 0.1 mV (R307), and whether a result has arrived. -/
  latest : Tab (Option Nat) := []
  /-- Calibration factors by converter: gain, offset, trims (R339). -/
  cal : Tab (Option (Nat × Int × List Nat)) := []
  /-- Processor halted by a debug halt (R478). -/
  procHalted : Bool := false
  /-- Outcomes that came due during a recovery, in order (R25, R370). -/
  waiting : List Deferred := []
  /-- Event taps: events counted since the last pulse; pulses given, and the device time of the last one (R178). -/
  tapCount : Tab Nat := []
  tapPulses : Tab Nat := []
  tapAt : Tab Nat := []
  deriving DecidableEq, Repr

/-- One comparator (R327 to R333, R343), keyed 64·t + c; capture timers at 64·t + 56 + i (R344). -/
structure Comp where
  /-- The input is beyond the threshold, as last seen. -/
  beyond : Bool := false
  /-- COMPARATOR:06, :09. -/
  output : Bool := false
  activations : Nat := 0
  /-- End of the settling after a mode change (R329). -/
  settleUntil : Nat := 0
  settling : Bool := false
  /-- Masked by an open-wire set (R319). -/
  masked : Bool := false
  /-- Threshold set by Canopy, burst or plausibility (R331). -/
  managed : Option Nat := none
  /-- Manager of `managed`: 3 Canopy, 4 burst, 5 plausibility. -/
  manager : Nat := 0
  /-- Capture timer fields (R344). -/
  lastActive : Nat := 0
  lastRelease : Nat := 0
  edges : Nat := 0
  deriving DecidableEq, Repr

/-- A record (R385). -/
structure Rec where
  time : Nat
  seq : Nat
  tile : Nat
  sev : Nat
  code : Nat
  inst : Nat
  data : List Nat := []
  rpt : Nat := 0
  delta : Nat := 0
  pre : Bool := false
  sat : Bool := false
  /-- The stored bytes fail their CRC (R400, R450). -/
  bad : Bool := false
  /-- Tile-local source, and the absolute number of the record on its tile. -/
  src : Nat := 0
  num : Nat := 0
  deriving DecidableEq, Repr

/-- A pending entry (R381). -/
structure Entry where
  code : Nat
  inst : Nat
  sev : Nat
  data : List Nat
  time : Nat
  rpt : Nat := 0
  delta : Nat := 0
  sat : Bool := false
  pre : Bool := false
  deriving DecidableEq, Repr

/-- A source's pending slot, first report first (R381). -/
structure Slot where
  entries : List Entry := []
  lost : Nat := 0
  lostLast : Nat := 0
  deriving DecidableEq, Repr

/-- A ring (R393 to R397, R408). -/
structure Ring where
  recs : List Rec := []
  writeIdx : Nat := 0
  readIdx : Nat := 0
  lost : Nat := 0
  peak : Nat := 0
  /-- The gap waiting to be written: first lost record, count, lowest and highest source (R395). -/
  gap : Option (Rec × Nat × Nat × Nat) := none
  /-- A watermark record has been written since the fill fell (R396). -/
  marked : Bool := false
  deriving DecidableEq, Repr

/-- A tile's recorder (R398). -/
structure Recorder where
  fixed : List Rec := []
  circ : List Rec := []
  overCount : Nat := 0
  overFirst : Option Rec := none
  overLast : Option Rec := none
  stopLost : Nat := 0
  stopFirst : Option Rec := none
  deriving DecidableEq, Repr

/-- An active fault (R390). -/
structure Fault_ where
  tile : Nat
  code : Nat
  inst : Nat
  sev : Nat
  deriving DecidableEq, Repr

/-- A reaction of a target (R387 to R389): its severity and the code of the fault that calls for it. -/
structure Reaction where
  sev : Nat
  code : Nat
  deriving DecidableEq, Repr

/-- Reaction in progress and queue of one target; targets are rail numbers, a loop being its loop rail (R387). -/
structure Target where
  cur : Option Reaction := none
  queue : List Reaction := []
  deriving DecidableEq, Repr

/-- Events, rings, recorder, faults (chapter 13). -/
structure EvGrp where
  /-- Pending slots at 256·t + source (R380). -/
  slots : Tab Slot := []
  /-- Next sequence number by tile (R383), not reduced modulo 65,536. -/
  seq : Tab Nat := []
  /-- The earliest instant of a tile's next record write: one every 16 ns (R383). -/
  writeFrom : Tab Nat := []
  recorders : Tab Recorder := []
  rings : Tab Ring := []
  /-- REC_CURSOR and REC_WINDOW (R399, R400, R409). -/
  view : Nat := 0
  cursor : Option (Nat × Nat × Nat) := none
  returned : Nat := 0
  crcFails : Nat := 0
  firstBad : Nat := 0xFF
  crcFailTotal : Nat := 0
  lastRead : List Rec := []
  /-- Faults and alerts (R390, R403, R404). -/
  faults : List Fault_ := []
  first : Option Rec := none
  alert : Bool := false
  acked : Bool := true
  errReg : Nat := 0
  /-- The last active fault has ended and its EMCY is not yet sent (R404). -/
  endOwed : Bool := false
  targets : Tab Target := []
  deriving DecidableEq, Repr

/-- One frame that the part sent (R404, R485, R496, R501, R506). -/
inductive Frame where
  | bootUp (ch : CanChan)
  | heartbeat (ch : CanChan) (nmt : Nat)
  /-- Error code, error register, and the bytes that follow them (R503). -/
  | emcy (ch : CanChan) (code reg : Nat) (body : List Nat)
  | tpdo (ch : CanChan) (n : Nat) (bytes : List Nat)
  | srdo (ch : CanChan) (normal inverted : Nat)
  deriving DecidableEq, Repr

/-- A TPDO (R496, R497, R499). -/
structure Tpdo where
  due : Bool := false
  latched : Option (List Nat) := none
  sent : List Nat := []
  syncs : Nat := 0
  started : Bool := false
  /-- Records that the frame in flight carries (R499). -/
  inFlightRecs : Nat := 0
  inhibitUntil : Nat := 0
  /-- Device time of the latest transmission: the event timer counts from it (R496). -/
  sentAt : Nat := 0
  deriving DecidableEq, Repr

/-- SPI port: the pending result (R510, R511). -/
inductive SpiResult where
  | none | busy | done (bytes : List Nat) | aborted (code : Nat) | bad
  deriving DecidableEq, Repr

/-- A segmented transfer of a USDO or SDO client (R491): its object, the bytes received or still to be sent, and the toggle of
the next segment. -/
structure OpenTransfer where
  /-- A write; otherwise a read. -/
  write : Bool
  idx : Nat
  sub : Nat
  bytes : List Nat := []
  toggle : Bool := false
  /-- A read whose initiate request has not been served yet. -/
  waiting : Bool := false
  /-- Device time of the client's last frame. -/
  frameAt : Nat := 0
  deriving DecidableEq, Repr

/-- Network (chapter 17). -/
structure NetGrp where
  /-- Open transfers by client: 0 to 3 of CAN A, 4 on CAN B (R485, R491). -/
  transfers : Tab (Option OpenTransfer) := []
  nmtA : Nmt := .none
  nmtB : Nmt := .none
  /-- Node-IDs, rates and enables in use since the last Reset Communication of the channel (R489). -/
  nodeA : Nat := 0
  nodeB : Nat := 0
  rateA : Nat := 0
  dataRateA : Nat := 0
  rateB : Nat := 0
  enA : Bool := false
  enB : Bool := false
  errA : Nat := 0
  errB : Nat := 0
  busOffsA : Nat := 0
  busOffsB : Nat := 0
  rpdoRefused : Nat := 0
  emcyDropped : Nat := 0
  spiBad : Nat := 0
  spiDiscarded : Nat := 0
  spiAborted : Nat := 0
  maxResponse : Nat := 0
  /-- EMCYs waiting for the inhibit time (R504): error code, register, record. -/
  emcyA : List (Nat × Nat × List Nat) := []
  emcyB : List (Nat × Nat × List Nat) := []
  inhibitA : Bool := false
  inhibitB : Bool := false
  /-- 0x1003, newest first (R505). -/
  history : List Nat := []
  spi : SpiResult := .none
  /-- Place of the next SPI read of a DOMAIN, by key (R542). -/
  domainPos : Tab Nat := []
  /-- TPDOs by number (R496). -/
  tpdos : Tab Tpdo := []
  /-- Synchronous RPDOs: buffered at reception, and made due by a SYNC (R497). -/
  rpdoBuf : Tab (List Nat) := []
  rpdoDue : Tab (List Nat) := []
  /-- Frames sent, newest first. -/
  sent : List Frame := []
  deriving DecidableEq, Repr

/-- SRDOs and signatures (R453, R454, R501, R502). -/
structure SrdoGrp where
  valid : Bool := false
  /-- Bit i: receive SRDO i + 1 has been lost since its last valid pair. -/
  lost : Nat := 0
  request : Nat := 0
  /-- Device time of the latest pair of each transmit SRDO. -/
  sentAt : Tab Nat := []
  deriving DecidableEq, Repr

/-- Security (chapter 16). -/
structure SecGrp where
  /-- Key slots 0 to 3 (R467). -/
  keys : Tab (Option Nat) := []
  /-- Nonce drawn: value, channel, slot (R469). -/
  nonce : Option (Nat × Chan × Nat) := none
  nonceAt : Nat := 0
  /-- Session: channel, slot, session key (R469). -/
  session : Option (Chan × Nat × Nat) := none
  counter : Nat := 0
  /-- Device time of the last S-class access of the session (R471). -/
  accessAt : Nat := 0
  /-- The tag waiting on each channel, by its code (R470). -/
  tags : Tab (Option Nat) := []
  locked : Bool := false
  erased : Bool := false
  fired : Nat := 0
  lastSrc : Nat := 0xFF
  lastAt : Nat := 0
  failures : Nat := 0
  rejReason : Nat := 0
  rejObject : Nat := 0
  rejChannel : Nat := 0xFF
  rejAt : Nat := 0
  /-- The copies of the two fuses that are blown: three bits each (R475). -/
  fieldCopies : Nat := 0
  provisionCopies : Nat := 0
  integrity : Nat := 0
  deriving DecidableEq, Repr

/-- Lane of one tile (R252 to R265, R275). -/
structure Lane where
  /-- End of the transaction under way or of the last one (R253). -/
  transEnd : Nat := 0
  backoff : Bool := false
  backoffUntil : Nat := 0
  fails : Nat := 0
  seqValid : Bool := false
  lastSeq : Nat := 0
  /-- The stored response and the last response driven (R258, R264). -/
  stored : Nat := 0
  response : Option Nat := none
  polls : Nat := 0
  /-- The last POLL frame (R260). -/
  poll : Nat := 0
  transactions : Nat := 0
  crcErrors : Nat := 0
  missing : Nat := 0
  dups : Nat := 0
  backoffs : Nat := 0
  /-- LALERT# as evaluated at the last gap: true is low (R254, R265). -/
  alertLow : Bool := false
  /-- LANE_CFG writes that wait for the end of the transaction (R75, R273): channel, subindex, value. -/
  heldCfg : List (Option Chan × Nat × Nat) := []
  deriving DecidableEq, Repr

/-- A management packet that its sender has not seen acknowledged (R283): when it was last sent, how often it has been resent, and
whether that copy is still on its way. -/
structure Packet where
  response : Bool
  sentAt : Nat
  resends : Nat := 0
  away : Bool := false
  deriving DecidableEq, Repr

/-- Pergola (R277 to R293, R297), pairs keyed 8·r + s. -/
structure LinkGrp where
  trained : Nat := 0
  failed : Nat := 0
  pairLost : Nat := 0
  mgmtFault : Nat := 0
  sampleErrors : Nat := 0
  controlErrors : Nat := 0
  frameErrors : Nat := 0
  mgmtRetries : Nat := 0
  hashMismatch : Nat := 0
  timeFault : Nat := 0
  /-- Device time of the declared losses of PAIR_LOST, by pair (R291, R392). -/
  lostAt : Tab Nat := []
  /-- Consecutive bad control bytes and consecutive bad frame slots, by pair. -/
  badControl : Tab Nat := []
  badFrame : Tab Nat := []
  /-- SAFE_REQ bits last received, by pair (R281). -/
  safeReq : Tab Nat := []
  /-- Frame-slot values of the present frame, as latched by the sender or received: phase-current sums in mA and TMON
  in mV, keyed 4·s + k; die temperatures in 0.1 °C by tile (R282). -/
  isum : Tab (Option Int) := []
  tmon : Tab (Option Nat) := []
  die : Tab (Option Int) := []
  /-- State hashes of the occupied slots, keyed 4·s + k, as latched at the last frame boundary (R286). -/
  hashes : Tab Nat := []
  /-- Feedforward results in mV by tile, and the counts decided at the last frame boundary, keyed 4·s + k (R282). -/
  vin : Tab Nat := []
  counts : Tab Nat := []
  /-- Frame slots of the present frame that arrived corrupted, by pair 8·r + s (R289). -/
  slotBad : Nat := 0
  /-- Frame slots of the present frame that have arrived, by pair (R287). -/
  slotSeen : Nat := 0
  /-- Management credits used by the sender, its packets that are not acknowledged, oldest first, and buffers held, by pair
  8·destination + sender (R283). -/
  creditsUsed : Tab Nat := []
  flying : Tab (List Packet) := []
  buffered : Tab Nat := []
  deriving DecidableEq, Repr

/-- One copy of a page pair (R412 to R416). -/
inductive Page where
  /-- Erased: every byte 0xFF. -/
  | blank
  /-- Written to its end, with this SEQ and these DATA bytes; `none` for the content as delivered (log entry 31). -/
  | whole (seq : Nat) (data : Option (List Nat))
  /-- Being written: the bytes it had, SEQ and DATA that it is to have (R415). -/
  | moving (old : List Nat) (seq : Nat) (data : Option (List Nat))
  /-- Torn by an interruption: its 64 bytes, and how many cells are marginal (R416). -/
  | torn (bytes : List Nat) (marginal : Nat)
  deriving DecidableEq, Repr

/-- A page pair (R411, R414); as delivered, copy A is valid with SEQ 1 and copy B blank (log entry 31). -/
structure Pair where
  a : Page := .whole 1 none
  b : Page := .blank
  deriving DecidableEq, Repr

/-- A field page (R423): the programmed bits, counted from bit 0, and G; after an interrupted erase or program of G, its bytes. -/
structure FieldPage where
  bits : Nat := 0
  g : Nat := 0
  torn : Option (List Nat) := none
  marginal : Nat := 0
  deriving DecidableEq, Repr

/-- A cell operation (R410): a page write with its DATA bytes, its object and the clients that wait for it (R489); a tally bit;
the two parts of a fold, the write of the base pair and the erase of the field (R424); the pages of a set save (R421). -/
inductive CellOp where
  | page (pair : Nat) (data : Option (List Nat)) (obj : Nat) (acks : List Chan)
  | tally (i : Nat)
  | foldBase (i : Nat)
  | foldErase (i : Nat)
  | save
  deriving DecidableEq, Repr

/-- An image of the power-fail store (R426): its header and its two sets of records. -/
structure Bank where
  /-- Its CRC matches: the pulse that wrote it ended with enough energy (R428). -/
  valid : Bool := false
  seq : Nat := 0
  cause : Nat := 0
  time : Nat := 0
  first : List Rec := []
  newest : List Rec := []
  between : Nat := 0
  deriving DecidableEq, Repr

/-- A page of a configuration set's image (R419): its generation with the values that it holds, or, in the header, those that its
CRC covers. -/
inductive ImgPage where
  | blank
  | data (gen : Nat) (vals : List (Nat × Nat))
  | header (gen : Nat) (vals : List (Nat × Nat))
  /-- Being written, or torn by an interruption with this many marginal cells. -/
  | torn (marginal : Nat)
  deriving DecidableEq, Repr

/-- One image of a configuration set on a tile: its 104 pages by position; a position beyond the list is blank (R419). -/
structure CfgImage where
  pages : List ImgPage := []
  deriving DecidableEq, Repr

/-- Cellar of one tile. -/
structure Cellar where
  pairs : Tab Pair := []
  fields : Tab FieldPage := []
  /-- Increments of each tally that wait (R424). -/
  waiting : Tab Nat := []
  /-- Requests in order of arrival; the hardware queue holds the first 16 (R410, log entry 141). -/
  queue : List CellOp := []
  /-- The operation in progress and the device time at which it, or its present page, started. -/
  busy : Option CellOp := none
  opAt : Nat := 0
  /-- The operation that RESET or a power loss has interrupted, until the recovery (R430). -/
  cut : Option CellOp := none
  /-- Clients whose page write has completed and who have still to be answered (R489). -/
  kept : List Chan := []
  /-- The store area SRAM and the two banks of its shadow array (R426). -/
  area : Option Bank := none
  bankA : Bank := {}
  bankB : Bank := {}
  /-- Configuration sets: this tile's images A and B of set n (R419). -/
  imgA : Tab CfgImage := []
  imgB : Tab CfgImage := []
  /-- The save in progress: the snapshot, its generation, and the pages written of 105 (R421). -/
  snapshot : List (Nat × Nat) := []
  saveGen : Nat := 0
  savePages : Nat := 0
  /-- Full hours in RUN and of device time that this tile's tallies 0 and 1 have taken since reset (R423). -/
  runHours : Nat := 0
  powerHours : Nat := 0
  /-- POWER_HOURS at the last scrub (R434). -/
  scrubbedAt : Nat := 0
  deriving DecidableEq, Repr

/-- The Cellar as a whole (R427, R435 to R438). -/
structure CelGrp where
  cellars : Tab Cellar := []
  recoveryTime : Nat := 0
  rolledBack : Nat := 0
  tallyDone : Nat := 0
  repaired : Nat := 0
  storeState : Nat := 0
  storeResult : Nat := 0
  storeAt : Nat := 0
  storeCause : Nat := 0
  vholdEnd : Nat := 0
  storeMerged : Nat := 0
  saveState : Nat := 0
  saveSet : Nat := 0
  progress : Nat := 0
  generation : Nat := 0
  savedAt : Nat := 0
  activeSet : Nat := 0
  deriving DecidableEq, Repr

/-- Histogram bank (R534, R535). -/
structure Bins where
  bins : Tab Nat := []
  min : Int := 0
  max : Int := 0
  count : Nat := 0
  deriving DecidableEq, Repr

/-- A histogram unit, keyed 16·t + u (R533 to R537). -/
structure Hist where
  live : Bins := {}
  snap : Bins := {}
  clear : Bool := false
  /-- A double-bit error: SNAPSHOT_FRAME reads 0 until the next frame boundary (R537). -/
  bad : Bool := false
  deriving DecidableEq, Repr

/-- The capture unit of a tile (R538 to R542). Buffers newest first, one entry for each sample; `after` counts the samples
from the trigger sample on. -/
structure Capture where
  state : Nat := 0
  trigAt : Nat := 0
  p : Nat := 0
  samples : List Nat := []
  duty : List Nat := []
  counts : List Nat := []
  taken : Nat := 0
  after : Nat := 0
  valid : Bool := false
  damaged : Bool := false
  slot : Nat := 0
  deriving DecidableEq, Repr

/-- Calibration (R314, R338). -/
structure CalGrp where
  state : Nat := 0
  /-- Start of the run under way (R315). -/
  startedAt : Nat := 0
  valid : Bool := false
  failed : Nat := 0
  completedAt : Nat := 0
  runs : Nat := 0
  deriving DecidableEq, Repr

/-- Diagnostics counters (R464). -/
structure DiagGrp where
  bandgap : Nat := 0
  corrected : Nat := 0
  detected : Nat := 0
  /-- The MODEL'S OWN counter from which free values are drawn (not a register of the part). -/
  fresh : Nat := 0
  deriving DecidableEq, Repr

/-- The state of the part, and the queue of waiting commands. -/
structure State where
  part : Part
  md : ModeGrp := {}
  pins : Pins := {}
  clk : ClkGrp := {}
  obj : ObjGrp := {}
  loops : Tab Loop := []
  phases : Tab Phase := []
  rails : Tab Rail := []
  seq : SeqGrp := {}
  tiles : Tab Tile := []
  comps : Tab Comp := []
  /-- Blanking windows by input: 16·t + q the over-current comparators, 128 + 4·t + k SFLTk, 160 + 2·t + n TRIPn, 176
  SAFE_IN# (R173). -/
  windows : Tab Window := []
  ev : EvGrp := {}
  net : NetGrp := {}
  srdo : SrdoGrp := {}
  sec : SecGrp := {}
  lanes : Tab Lane := []
  link : LinkGrp := {}
  cel : CelGrp := {}
  hists : Tab Hist := []
  /-- SNAPSHOT_FRAME of every unit (R535). -/
  histFrame : Nat := 0
  caps : Tab Capture := []
  cal : CalGrp := {}
  diag : DiagGrp := {}
  /-- Commands waiting, first in, first out. -/
  pending : List Instr := []
  deriving DecidableEq, Repr

/-- No command of this part ends in a fault: its own faults are states (safe state, HOLD, failed tile), so the only
constructor is kept for the interface and nothing raises it. -/
inductive Fault where
  /-- Raised by nothing. -/
  | none
  deriving DecidableEq, Repr

/-- Refusals. -/
inductive Refusal where
  /-- Raised by an arm of `exec` whose command has no meaning yet; safe: the model stops where the part goes on. -/
  | notModelled (mnemonic : String)
  deriving DecidableEq, Repr

/-- Right after reset: mode RESET, nothing powered up, an empty queue. The family member is the largest. -/
def State.reset : State := { part := .ph8128 }

end Sys2Proof.Machine
end

