-- ==== Sys2Proof/Machine/Objects.lean ====
section
/-! DEFINITION. The object dictionary: which index names which object and instance (R519, R520), and each object's rows:
access, protection class, commit class, size, default and range, from the object tables of the chapters. -/

namespace Sys2Proof.Machine

/-- The objects of the index (R521 to R531). -/
inductive Fam where
  | deviceType | errorRegister | errorHistory | cobSync | deviceName | hwVersion | swVersion | cobTime | cobEmcy
  | inhibitEmcy | heartbeat | identity | syncOverflow | sdoServer | srdoComm | srdoMap | srdoValid | srdoSignature
  | rpdoComm | rpdoMap | tpdoComm | tpdoMap
  | devMode | devModeReq | devIdent | netCfg | netStatus | commit | shadowStatus | calCmd | calStatus | calFactors
  | clockCfg | clockStatus | sync | deviceTime | frameCount | tileMap | tileStatus | pergolaStatus
  | secSession | secKeyslot | secLastReject | secAlarmPolicy | secAlarmStatus | fuseStatus
  | safetyCfg | safetyStatus | safeStateCause | diagTable
  | loopCfg | loopTarget | loopSlew | loopCarrier | loopCoefA | loopCoefB | loopCoefSelect | loopLimits | loopDroop
  | loopSoft | loopCanopy | loopPreview | loopShed | loopBurst | loopOc | loopOt | loopTrimLearn | loopChecker
  | loopStatus | loopTelem | loopPeaks
  | phaseCfg | phaseTrim | phaseTiming | phaseOc | phaseOt | phaseStatus | phaseTelem | phaseManual
  | tripCfg | blanking | tapCfg | freezePolicy | safeInCfg
  | telemSeq | telemTable0 | telemTable1 | telemCheck | raw0 | raw1 | volts0 | volts1 | latest
  | comparator | captureTimer | railCfg | railTiming | railLimits | railStatus
  | seqGlobal | seqState | seqFirstFail | seqLastFail
  | ringCfg | ringStream | recCfg | recCursor | recWindow | recStatus | recClear
  | faultPolicy | faultActive | eventEnable | cellarStatus | cellarStore | cellarTally | configSet
  | histogram | capture | laneCfg | laneStatus
  deriving DecidableEq, Repr

/-- Access of a subindex. -/
inductive Access where
  | ro | rw | wo | const
  deriving DecidableEq, Repr

/-- Protection class (R465); `os` is "O or S" (R409). -/
inductive Prot where
  | o | s | f | os
  deriving DecidableEq, Repr

/-- The silicon revision that this manual describes, as DEV_IDENT:04 and IDCODE report it (R523). -/
def siliconRevision : Nat := 0x100

/-- Commit class (R75). -/
inductive Cls where
  | none | l | c | x
  deriving DecidableEq, Repr

/-- One row of an object table, for the subindices `lo` to `hi`. -/
structure Row where
  lo : Nat
  hi : Nat
  acc : Access
  prot : Prot
  cls : Cls
  bytes : Nat
  dflt : Nat
  min : Int
  max : Int
  deriving DecidableEq, Repr

/-- A read-only row. -/
def ro (lo hi bytes : Nat) (dflt : Nat := 0) : Row := ⟨lo, hi, .ro, .o, .none, bytes, dflt, 0, 0⟩
/-- A constant row. -/
def cst (lo bytes dflt : Nat) : Row := ⟨lo, lo, .const, .o, .none, bytes, dflt, 0, 0⟩
/-- A rw row of class O, C. -/
def oc (sub bytes dflt : Nat) (min max : Int) : Row := ⟨sub, sub, .rw, .o, .c, bytes, dflt, min, max⟩
/-- A rw row of class O, X. -/
def ox (sub bytes dflt : Nat) (min max : Int) : Row := ⟨sub, sub, .rw, .o, .x, bytes, dflt, min, max⟩
/-- A rw row of class O, L. -/
def ol (sub bytes dflt : Nat) (min max : Int) : Row := ⟨sub, sub, .rw, .o, .l, bytes, dflt, min, max⟩
/-- A rw row of class S, X. -/
def sx (sub bytes dflt : Nat) (min max : Int) : Row := ⟨sub, sub, .rw, .s, .x, bytes, dflt, min, max⟩
/-- A rw row of class S, C. -/
def sc (sub bytes dflt : Nat) (min max : Int) : Row := ⟨sub, sub, .rw, .s, .c, bytes, dflt, min, max⟩
/-- A rw row of class S, L. -/
def sl (sub bytes dflt : Nat) (min max : Int) : Row := ⟨sub, sub, .rw, .s, .l, bytes, dflt, min, max⟩
/-- A wo row of class O, L. -/
def wol (sub bytes : Nat) (min max : Int) : Row := ⟨sub, sub, .wo, .o, .l, bytes, 0, min, max⟩
/-- A wo row of class S, L. -/
def wsl (sub bytes : Nat) (min max : Int) : Row := ⟨sub, sub, .wo, .s, .l, bytes, 0, min, max⟩
/-- Repeat a row over the subindices `lo` to `hi`. -/
def span (lo hi : Nat) (r : Row) : Row := { r with lo := lo, hi := hi }

/-- Largest value of an UNSIGNED8. -/
def u8 : Int := 0xFF
/-- Largest value of an UNSIGNED16. -/
def u16 : Int := 0xFFFF
/-- Largest value of an UNSIGNED32. -/
def u32 : Int := 0xFFFFFFFF

/-- Device-level objects (R86 to R90, R112, R114, R296 to R298, R338, R339, R480 to R488, R507, R523). Their subindices for loops
that the part lacks stay (DESIGN CHOICE, log entry 143). -/
def rowsDevice : Fam → List Row
  | .devMode => [ro 1 1 1, ro 2 2 1, ro 3 3 1, sx 4 1 0 0 2, ox 5 1 0 0 1, ox 6 1 0 0 1, ox 7 2 0 0 1600, ox 8 2 0 0 1600,
      ox 9 2 10 1 1000, ox 0x0A 1 0 0 1, ox 0x0B 2 100 10 60000, ro 0x0C 0x0C 1, ro 0x0D 0x0D 2, ro 0x0E 0x0E 1]
  | .devModeReq => [ol 1 1 0 1 3, wsl 2 1 0x5A 0x5A, wsl 3 1 0xC3 0xC3, ro 4 4 1, ro 5 5 4]
  | .devIdent => [cst 1 4 0xB2E, cst 2 2 0, cst 3 1 0, cst 4 2 siliconRevision, cst 5 8 0, ro 6 6 4 0x10000, ro 7 7 2, ro 8 8 1]
  | .netCfg => [sx 1 1 0x20 1 127, sx 2 1 0x20 1 127, sx 3 1 3 0 3, sx 4 1 4 0 4, sx 5 1 2 0 3, ox 6 2 0 0 u16,
      ox 7 2 0 0 u16, sx 8 1 1 0 1, sx 9 1 3 0 3]
  | .netStatus => [ro 1 4 1, ro 5 0x0B 4, ro 0x0C 0x0C 1, ro 0x0D 0x0E 2]
  | .commit => [ol 1 4 0 1 u32, ro 2 3 8, ro 4 4 1, ro 5 5 4]
  | .shadowStatus => [ro 1 3 1, wsl 4 1 0xA5 0xA5, ol 5 1 0 0 1, ol 6 1 0 0 1, ol 7 1 0 0 1]
  | .calCmd => [wol 1 1 1 1]
  | .calStatus => [ro 1 2 1, ro 3 4 8, ro 5 5 4]
  | .calFactors => [ro 1 0x3C 2]
  | .clockCfg => [sx 1 1 0 0 3, ol 2 1 1 0 3]
  | .clockStatus => [ro 1 4 1, ro 5 6 2]
  | .sync => [sx 1 1 0 0 31, ox 2 2 0 (-500) 500, ro 3 3 1, ro 4 5 2, ro 6 6 4]
  | .deviceTime => [ro 1 1 8, ro 2 2 6, ro 3 3 8]
  | .frameCount => [ro 1 1 8]
  | .tileMap => [ro 1 3 1]
  | .tileStatus => [ro 1 2 1, ro 3 3 4, ro 4 4 1, ro 5 6 2]
  | .pergolaStatus => [ro 1 2 8, ro 3 7 4, ro 8 8 1]
  | .secSession => [wol 1 1 0 u8, ro 2 2 8, wol 3 8 0 0xFFFFFFFFFFFFFFFF, wol 4 8 0 0xFFFFFFFFFFFFFFFF, ro 5 5 4,
      ro 6 8 1 0xFF, sx 9 2 60 1 3600]
  | .secKeyslot => [⟨1, 4, .wo, .f, .x, 16, 0, 0, 2 ^ 128 - 1⟩, wsl 5 25 0 (2 ^ 200 - 1), ro 6 9 4, ro 0x0A 0x0A 1 0x0F]
  | .secLastReject => [ro 1 1 1, ro 2 2 4, ro 3 3 1 0xFF, ro 4 4 8, ro 5 5 1]
  | .secAlarmPolicy => [sx 1 1 1 0 2, sx 2 1 0 0 2, sx 3 1 0 0 2, sx 4 1 1 0 2, sx 5 1 0 0 2, sx 6 1 2 0 2, sx 7 1 8 1 255]
  | .secAlarmStatus => [ro 1 3 1, ro 4 4 1 0xFF, ro 5 5 8]
  | .fuseStatus => [ro 1 2 1, wsl 3 1 0 u8, ro 4 4 1]
  | .safetyCfg => [sx 1 4 0 0 u32, sx 2 4 0 0 u32, sx 3 2 0 0 0x3FF, sx 4 1 0 0 1, sx 5 2 10 1 1000, sx 6 1 63 1 250,
      sx 7 1 1 0 2, span 0x20 0x3F (sc 0x20 2 200 0 u16)]
  | .safetyStatus => [ro 1 3 4, ro 4 4 2, ol 5 4 0 0 u32]
  | .safeStateCause => [ro 1 0x20 2, wsl 0x21 1 0 u8]
  | .diagTable => [wsl 1 1 0xA5 0xA5, ro 2 2 1, ro 3 3 8, ro 4 4 2, ro 5 6 4]
  | _ => []

/-- Communication profile objects (R521, R522). Sizes of strings are those of the text. -/
def rowsComm : Fam → List Row
  | .deviceType => [cst 0 4 0]
  | .errorRegister => [ro 0 0 1]
  | .errorHistory => [ol 0 1 0 0 0, ro 1 8 4]
  | .cobSync => [ox 0 4 0x80 0 u32]
  | .deviceName => [cst 0 6 0]
  | .hwVersion => [cst 0 3 0]
  | .swVersion => [ro 0 0 6]
  | .cobTime => [ox 0 4 0x80000100 0 u32]
  | .cobEmcy => [ox 0 4 0x80 0 u32]
  | .inhibitEmcy => [ox 0 2 10 0 u16]
  | .heartbeat => [ox 0 2 100 0 u16]
  | .identity => [cst 1 4 0xB2E, cst 2 4 0, ro 3 3 4 0x1000000, cst 4 4 0]
  | .syncOverflow => [ox 0 1 0 0 240]
  | .sdoServer => [ro 1 2 4]
  | .srdoComm => [sx 1 1 0 0 2, sx 2 2 0 0 u16, sx 3 1 20 0 u8, sx 4 1 254 0 u8, sx 5 4 0 0 u32, sx 6 4 0 0 u32]
  | .srdoMap => [sx 0 1 0 0 16, span 1 0x10 (sx 1 4 0 0 u32)]
  | .srdoValid => [sx 0 1 0 0 u8]
  | .srdoSignature => [span 1 8 (sx 1 2 0 0 u16)]
  | .rpdoComm => [ox 1 4 0 0 u32, ox 2 1 254 0 u8]
  | .rpdoMap => [ox 0 1 0 0 64, span 1 0x40 (ox 1 4 0 0 u32)]
  | .tpdoComm => [ox 1 4 0 0 u32, ox 2 1 254 0 u8, ox 3 2 0 0 u16, ox 5 2 0 0 u16, ox 6 1 0 0 u8]
  | .tpdoMap => [ox 0 1 0 0 64, span 1 0x40 (ox 1 4 0 0 u32)]
  | _ => []

/-- Loop objects (R150 to R156, R182, R214 to R218, R246 to R249, R340, R341). -/
def rowsLoop : Fam → List Row
  | .loopCfg => [ox 1 1 0 0 1, span 2 5 (ox 2 4 0 0 u32), ox 6 1 0 0 31, ox 7 2 0 0 u16, oc 8 1 0 0 1, oc 9 1 0 0 1,
      oc 0x0A 2 1200 100 1600, oc 0x0B 1 0 0 127, oc 0x0C 2 0 0 u16]
  | .loopTarget => [ol 1 2 0 0 u16, ro 2 2 2, ro 3 5 4]
  | .loopSlew => [ol 1 2 100 10 10000, ro 2 2 2]
  | .loopCarrier => [oc 1 2 500 200 4000, oc 2 1 12 12 100, ro 3 3 2 500, ro 4 4 4 500000]
  | .loopCoefA => [span 1 6 (oc 1 4 0 (-0x80000000) 0x7FFFFFFF)]
  | .loopCoefB => [span 1 6 (oc 1 4 0 (-0x80000000) 0x7FFFFFFF)]
  | .loopCoefSelect => [oc 1 1 0 0 1, ro 2 2 1]
  | .loopLimits => [oc 1 2 0 0 u16, oc 2 2 0xE666 0 u16, oc 3 2 0 0 u16, oc 4 2 6400 0 6400]
  | .loopDroop => [oc 1 1 0 0 1, oc 2 2 0 0 u16, oc 3 1 0 0 8, oc 4 2 0 0 u16, ro 5 5 2]
  | .loopSoft => [oc 1 4 1000 10 100000, oc 2 1 0 0 1, oc 3 4 1000 10 100000, oc 4 1 1 0 1, ro 5 5 2]
  | .loopCanopy => [oc 1 1 0 0 3, oc 2 2 160 0 u16, oc 3 2 40 0 u16, oc 4 1 2 1 8, oc 5 2 26 0 u16, oc 6 1 50 20 200,
      oc 7 2 20 1 1000, oc 8 1 1 0 2, oc 9 2 0 0 u16, oc 0x0A 1 0 0 1, oc 0x0B 2 160 0 u16, ro 0x0C 0x0C 4,
      ro 0x0D 0x0D 2, ro 0x0E 0x0E 4]
  | .loopPreview => [oc 1 1 0 0 1, span 2 5 (oc 2 2 100 0 u16), oc 6 2 0 0 u16, oc 7 2 20 1 1000, oc 8 2 10 1 1000,
      oc 9 2 0x1999 0 u16, ro 0x0A 0x0A 1 0xFF, ro 0x0B 0x0C 1, ro 0x0D 0x0F 4]
  | .loopShed => [oc 1 1 0 0 1, oc 2 1 1 1 128, oc 3 2 50 0 u16, oc 4 2 64 1 1000, oc 5 1 0 0 1, oc 6 2 0 0 u16,
      ol 7 1 0 0 128, span 8 0x0F (oc 8 4 0 0 u32), ro 0x10 0x10 1 0xFF]
  | .loopBurst => [oc 1 1 0 0 1, ol 2 1 1 0 1, oc 3 2 0 0 u16, oc 4 2 64 1 1000, oc 5 1 4 1 64, oc 6 2 16 0 u16,
      oc 7 2 0 0 400, oc 8 2 40 0 u16, oc 9 1 3 1 255, oc 0x0A 1 2 1 128, ro 0x0B 0x0B 4, ro 0x0C 0x0C 2]
  | .loopOc => [oc 1 1 8 1 255, oc 2 4 10000 100 800000, oc 3 1 4 1 255, ro 4 4 1, ro 5 5 4, wsl 6 1 0x5A 0x5A]
  | .loopOt => [oc 1 2 8000 0 u16, oc 2 2 600 0 u16, oc 3 2 105 (-0x8000) 0x7FFF, oc 4 2 120 (-0x8000) 0x7FFF,
      oc 5 1 10 1 50, oc 6 1 1 0 1, ro 7 7 2, ro 8 8 1]
  | .loopTrimLearn => [wsl 1 1 1 2, ro 2 2 1, oc 3 2 0 0 u16, oc 4 2 100 1 u16, oc 5 2 20 0 u16, oc 6 2 2048 256 u16,
      oc 7 2 256 16 u16, oc 8 1 16 1 64, ro 9 9 1, ro 0x0A 0x0A 2, oc 0x0B 2 80 0 u16, oc 0x0C 1 30 0 u8,
      oc 0x0D 2 256 1 u16, ro 0x0E 0x0E 1]
  | .loopChecker => [oc 1 1 1 0 1, oc 2 2 64 16 4096, oc 3 1 4 1 64, ro 4 4 4, ro 5 5 2]
  | .loopStatus => [ro 1 1 1, ro 2 4 2, ro 5 6 4, ro 7 7 1, ro 8 8 1 0xFF, ro 9 9 1 0xFF, ro 0x0A 0x0A 1]
  | .loopTelem => [oc 1 2 244 1 u16, ro 2 2 2, ro 3 4 4, ro 5 5 2, ro 6 6 4, ox 7 1 0xFF 0 u8, oc 8 2 200 0 u16,
      oc 9 2 0 0 u16, oc 0x0A 1 20 1 40, ro 0x0B 0x0B 1]
  | .loopPeaks => [ro 1 1 2, ro 2 2 2 0xFFFF, ro 3 4 4 0x80000000, ro 5 5 2 0x8000]
  | _ => []

/-- Phase objects (R183, R184, R217, R218, R250, R342). -/
def rowsPhase : Fam → List Row
  | .phaseCfg => [oc 1 1 0 0 1, oc 2 1 0 0 1, oc 3 2 500 200 4000, oc 4 1 12 12 100, oc 5 2 0xE666 0 u16, oc 6 1 0 0 u8,
      oc 7 1 1 0 1]
  | .phaseTrim => [sc 1 1 0 (-32) 32, ro 2 2 1]
  | .phaseTiming => [oc 1 2 320 0 65440, oc 2 2 384 128 3200]
  | .phaseOc => [oc 1 2 600 0 u16, oc 2 2 5000 0 u16, oc 3 2 800 0 u16, ro 4 4 2, ro 5 5 1, ro 6 6 4]
  | .phaseOt => [oc 1 1 0 0 1, ro 2 2 4]
  | .phaseStatus => [ro 1 1 1, ro 2 2 2, ro 3 4 4, ro 5 5 2, ro 6 6 2 0x8000, ro 7 7 1 4, ro 8 8 2]
  | .phaseTelem => [ro 1 2 2, ro 3 4 2 0x8000, ro 5 5 2]
  | .phaseManual => [ol 1 2 0 0 u16, ro 2 2 2]
  | _ => []

/-- Tile objects (R185 to R188, R335 to R337, R343, R344, R528, R529, R275, R276, R406). -/
def rowsTile : Fam → List Row
  | .tripCfg => [sx 1 1 0 0 1, sx 2 1 0 0 1, sx 3 1 0 0 3, sx 4 1 0 0 3, sx 5 2 0xFFFF 0 u16, sx 6 2 0xFFFF 0 u16,
      sx 7 1 2 0 2]
  | .blanking => [oc 1 2 50 0 500, oc 2 2 0 0 500, sc 3 2 0 0 500]
  | .tapCfg => [span 1 8 (oc 1 2 0 0 u16)]
  | .freezePolicy => [ol 1 1 1 0 1, ol 2 1 0 0 1]
  | .safeInCfg => [sc 1 2 0 0 500]
  | .telemSeq => [oc 1 1 0 0 1, oc 2 1 1 1 64, oc 3 1 1 1 64, oc 4 2 2500 16 u16, oc 5 2 4096 16 u16, ro 6 8 4, ro 9 0x0A 1]
  | .telemTable0 => [span 1 0x40 (oc 1 4 0x100 0 u32)]
  | .telemTable1 => [span 1 0x40 (oc 1 4 0x100 0 u32)]
  | .telemCheck => [sc 1 1 24 4 255, ro 2 3 4, ro 4 4 1, ro 5 5 2]
  | .raw0 => [ro 1 0x40 4]
  | .raw1 => [ro 1 0x40 4]
  | .volts0 => [ro 1 0x40 2]
  | .volts1 => [ro 1 0x40 2]
  | .latest => [ro 1 0x37 2]
  | .comparator => [oc 1 1 0 0 3, oc 2 2 1023 0 1023, oc 3 1 2 0 15, oc 4 1 0 0 15, oc 5 1 0 0 7, ro 6 7 1, ro 8 8 2, ro 9 9 4]
  | .captureTimer => [oc 1 1 0xFF 0 u8, oc 2 1 3 1 3, ro 3 4 8, ro 5 5 4]
  | .eventEnable => [span 1 8 (oc 1 4 0xFFFFFFFF 0 u32)]
  | .histogram => [oc 1 1 0 0 10, oc 2 2 0 0 u16, oc 3 4 0 (-0x80000000) 0x7FFFFFFF, oc 4 4 1 1 0x80000000, ro 5 7 4,
      ro 8 8 256, ro 9 9 8, wol 0x0A 1 0xA5 0xA5]
  | .capture => [wol 1 1 0 1, oc 2 1 0 0 3, oc 3 2 0 0 u16, oc 4 2 0xFFFF 0 u16, oc 5 1 50 0 100, ro 6 6 1, ro 7 7 8,
      ro 8 8 131072, ro 9 9 32768, ro 0x0A 0x0A 16384, ro 0x0B 0x0B 1]
  | .laneCfg => [ox 1 1 1 0 1, ox 2 1 3 1 3, ox 3 2 100 10 10000, ro 4 5 1, ro 6 0x0A 4, ro 0x0B 0x0B 1 0xFF]
  | .laneStatus => [ro 1 1 2, ol 2 2 0xFFFF 0 u16, ro 3 3 1, ro 4 4 2, ro 5 5 1, ro 6 8 4, wol 9 2 0 u16]
  | _ => []

/-- Rails, sequencer, events, recorder and Cellar (R371 to R377, R407 to R409, R435 to R438, R500). -/
def rowsRail : Fam → List Row
  | .railCfg => [ox 1 1 0 0 1, ox 2 1 1 1 255, ox 3 4 0xFFFFFFFF 0 u32, ox 4 1 0 0 15, ox 5 1 1 0 3, ox 6 1 0 0 1,
      oc 7 1 0 0 2, oc 8 1 2 0 3, oc 9 1 1 0 7, oc 0x0A 1 10 0 255]
  | .railTiming => [oc 1 2 0 0 u16, oc 2 2 0 0 u16, oc 3 2 0 0 u16, oc 4 2 1 1 u16, oc 5 2 250 1 u16, oc 6 2 250 0 u16,
      oc 7 2 1 1 u16, oc 8 2 250 1 u16]
  | .railLimits => [oc 1 2 1023 0 u16, oc 2 2 0 0 u16, oc 3 2 64 0 u16, oc 4 1 3 1 255]
  | .railStatus => [ro 1 2 1, ro 3 3 4, ro 4 4 1, ro 5 8 8]
  | .seqGlobal => [ox 1 1 1 1 255, ox 2 2 5 1 u16, ox 3 1 1 0 1, ox 4 1 0 0 1, ox 5 2 10 1 1000, ox 6 1 3 1 15]
  | .seqState => [ro 1 4 1, ro 5 5 4, ro 6 6 8, ro 7 7 4, ro 8 9 1]
  | .seqFirstFail => [ro 1 1 1, ro 2 2 1 0xFF, ro 3 4 1, ro 5 5 8, ro 6 6 6, wsl 7 1 0xA5 0xA5]
  | .seqLastFail => [ro 1 1 1, ro 2 2 1 0xFF, ro 3 4 1, ro 5 5 8, ro 6 6 6]
  | .ringCfg => [ox 1 1 0 0 7, ox 2 1 0 0 16, oc 3 2 0xFFFF 0 u16, oc 4 1 2 0 6, ox 5 1 0 0 4, oc 6 2 96 1 2048, ro 7 7 4,
      ol 8 4 0 0 u32, ro 9 9 4, ro 0x0A 0x0A 2]
  | .ringStream => [ro 1 2 32]
  | .recCfg => [sx 1 1 0 0 1, sx 2 2 1024 0 4095, sx 3 1 0 0 1, oc 4 1 0 0 6, oc 5 2 0xFFFF 0 u16]
  | .recCursor => [⟨1, 1, .rw, .os, .l, 1, 0, 0, 255⟩, ⟨2, 2, .rw, .os, .l, 4, 0, 0, 0xFFFFFFFF⟩, ol 3 1 8 1 16, ro 4 4 4]
  | .recWindow => [⟨1, 1, .ro, .os, .none, 512, 0, 0, 0⟩, ro 2 3 1, ro 4 4 1 0xFF]
  | .recStatus => [ro 1 3 4, ro 4 4 1, ro 5 5 4]
  | .recClear => [wsl 1 1 0xA5 0xA5]
  | .faultPolicy => [oc 1 1 3 0 6, oc 2 2 0xFFFF 0 u16, oc 3 1 2 0 6, oc 4 2 0xFFFF 0 u16, oc 5 1 3 0 3]
  | .faultActive => [ro 1 3 1, wol 4 1 0xA5 0xA5, ro 5 5 32, wsl 6 1 0xA5 0xA5, ro 7 7 2]
  | .cellarStatus => [ro 1 1 2, ro 2 3 1, ro 4 5 2, ro 6 6 4, ro 7 7 1, ol 8 1 0 0 7, ol 9 2 0 0 1023, ro 0x0A 0x0A 64,
      ro 0x0B 0x0B 1]
  | .cellarStore => [wol 1 1 0xA5 0xA5, ro 2 3 1, ro 4 4 8, ro 5 5 1, ro 6 6 2, ro 7 7 4, ro 8 8 8]
  | .cellarTally => [ro 1 0x40 4]
  | .configSet => [sl 1 1 0 0 3, wsl 2 1 0 3, wsl 3 1 0 3, ro 4 6 1, ro 7 7 2, ro 8 8 8]
  | _ => []

/-- Every row of an object. -/
def Fam.rows (f : Fam) : List Row :=
  rowsDevice f ++ (rowsComm f ++ (rowsLoop f ++ (rowsPhase f ++ (rowsTile f ++ rowsRail f))))

/-- Loop-block objects in the order of their offsets (R525). -/
def loopFams : List Fam :=
  [.loopCfg, .loopTarget, .loopSlew, .loopCarrier, .loopCoefA, .loopCoefB, .loopCoefSelect, .loopLimits, .loopDroop,
   .loopSoft, .loopCanopy, .loopPreview, .loopShed, .loopBurst, .loopOc, .loopOt, .loopTrimLearn, .loopChecker,
   .loopStatus, .loopTelem, .loopPeaks]

/-- Phase-block objects in the order of their offsets (R526). -/
def phaseFams : List Fam :=
  [.phaseCfg, .phaseTrim, .phaseTiming, .phaseOc, .phaseOt, .phaseStatus, .phaseTelem, .phaseManual]

/-- Objects with one instance, by index (R521, R524, R530, R531). -/
def single : List (Nat × Fam) :=
  [(0x1000, .deviceType), (0x1001, .errorRegister), (0x1003, .errorHistory), (0x1005, .cobSync), (0x1008, .deviceName),
   (0x1009, .hwVersion), (0x100A, .swVersion), (0x1012, .cobTime), (0x1014, .cobEmcy), (0x1015, .inhibitEmcy),
   (0x1017, .heartbeat), (0x1018, .identity), (0x1019, .syncOverflow), (0x1200, .sdoServer), (0x13FE, .srdoValid),
   (0x13FF, .srdoSignature)] ++
  [(0x2000, .devMode), (0x2001, .devModeReq), (0x2002, .devIdent), (0x2003, .netCfg), (0x2004, .netStatus),
   (0x2010, .commit), (0x2011, .shadowStatus), (0x2020, .calCmd), (0x2021, .calStatus), (0x2100, .clockCfg),
   (0x2101, .clockStatus), (0x2102, .sync), (0x2110, .deviceTime), (0x2111, .frameCount), (0x2200, .tileMap),
   (0x2220, .pergolaStatus), (0x2400, .secSession), (0x2401, .secKeyslot), (0x2402, .secLastReject),
   (0x2403, .secAlarmPolicy), (0x2404, .secAlarmStatus), (0x2410, .fuseStatus), (0x2600, .safetyCfg),
   (0x2601, .safetyStatus), (0x2602, .safeStateCause), (0x2610, .diagTable)] ++
  [(0x3880, .freezePolicy), (0x3881, .safeInCfg), (0x4300, .seqGlobal), (0x4301, .seqState), (0x4302, .seqFirstFail),
   (0x4303, .seqLastFail), (0x4480, .recCfg), (0x4481, .recCursor), (0x4482, .recWindow), (0x4483, .recStatus),
   (0x4484, .recClear), (0x4500, .faultPolicy), (0x4501, .faultActive), (0x4800, .cellarStatus), (0x4801, .cellarStore),
   (0x4802, .cellarTally), (0x4810, .configSet)]

/-- A rail exists: external rails 0 to 16T − 1 and loop rails 128 to 128 + 4T − 1 (R7). -/
def railExists (T n : Nat) : Bool := decide (n < 16 * T) || (decide (128 ≤ n) && decide (n < 128 + 4 * T))

/-- The block indices: strides of R520 and of the rows of R527, with the instances of R7. -/
def resolveBlock (T idx : Nat) : Option (Fam × Nat) :=
  if 0x3000 ≤ idx ∧ idx ≤ 0x33FF then
    if (idx - 0x3000) / 32 < 4 * T then (loopFams[(idx - 0x3000) % 32]?).map (·, (idx - 0x3000) / 32) else none
  else if 0x3400 ≤ idx ∧ idx ≤ 0x37FF then
    if (idx - 0x3400) / 8 < 16 * T then (phaseFams[(idx - 0x3400) % 8]?).map (·, (idx - 0x3400) / 8) else none
  else if 0x3800 ≤ idx ∧ idx < 0x3880 then
    if (idx - 0x3800) / 16 < T then
      (([.tripCfg, .blanking, .tapCfg] : List Fam)[(idx - 0x3800) % 16]?).map (·, (idx - 0x3800) / 16) else none
  else if 0x3A00 ≤ idx ∧ idx < 0x3B00 then
    if (idx - 0x3A00) / 32 < T then
      (([.telemSeq, .telemTable0, .telemTable1, .telemCheck] : List Fam)[(idx - 0x3A00) % 32]?).map (·, (idx - 0x3A00) / 32)
    else none
  else if 0x3B00 ≤ idx ∧ idx < 0x3C00 then
    if (idx - 0x3B00) / 32 < T then
      (([.raw0, .raw1, .volts0, .volts1, .latest] : List Fam)[(idx - 0x3B00) % 32]?).map (·, (idx - 0x3B00) / 32) else none
  else if 0x3C00 ≤ idx ∧ idx ≤ 0x3DFF then
    if (idx - 0x3C00) / 64 < T then
      some (if (idx - 0x3C00) % 64 < 56 then (.comparator, idx - 0x3C00) else (.captureTimer, idx - 0x3C00)) else none
  else if 0x4000 ≤ idx ∧ idx ≤ 0x427F then
    if railExists T ((idx - 0x4000) / 4) then
      (([.railCfg, .railTiming, .railLimits, .railStatus] : List Fam)[(idx - 0x4000) % 4]?).map (·, (idx - 0x4000) / 4)
    else none
  else none

/-- The remaining numbered objects: base index, count, object. -/
def arrays (T : Nat) : List (Nat × Nat × Fam) :=
  [(0x1301, 8, .srdoComm), (0x1381, 8, .srdoMap), (0x1400, 16, .rpdoComm), (0x1600, 16, .rpdoMap), (0x1800, 16, .tpdoComm),
   (0x1A00, 16, .tpdoMap), (0x2030, T, .calFactors), (0x2210, T, .tileStatus), (0x4400, 64, .ringCfg),
   (0x4440, 64, .ringStream), (0x4510, T, .eventEnable), (0x4C00, 16 * T, .histogram), (0x4D00, T, .capture),
   (0x5000, T, .laneCfg), (0x5010, 4 * T, .laneStatus)]

/-- Index to object and instance; `none` where the index does not exist on this part (R7, R519, R520). -/
def resolve (T idx : Nat) : Option (Fam × Nat) :=
  match (single.find? (fun e => e.1 == idx)) with
  | some e => some (e.2, 0)
  | none =>
    match (arrays T).find? (fun e => decide (e.1 ≤ idx) && decide (idx < e.1 + e.2.1)) with
    | some e => some (e.2.2, idx - e.1)
    | none => resolveBlock T idx

/-- The row of a subindex (R514). -/
def Fam.row (f : Fam) (sub : Nat) : Option Row :=
  f.rows.find? (fun r => decide (r.lo ≤ sub) && decide (sub ≤ r.hi))

/-- Highest subindex, which subindex 00 holds (R515). -/
def Fam.highest (f : Fam) : Nat := f.rows.foldl (fun m r => Nat.max m r.hi) 0

/-- The object has no subindices, or its subindex 00 is its own row (R515). -/
def Fam.ownSub0 (f : Fam) : Bool := f.rows.any (fun r => r.lo == 0)

/-- The key of a value: index · 256 + subindex. -/
def okey (idx sub : Nat) : Nat := idx * 256 + sub

/-- Index of an instance of a loop, phase, rail or tile object. -/
def loopIdx (l off : Nat) : Nat := 0x3000 + 32 * l + off
/-- Phase object index (R526). -/
def phaseIdx (p off : Nat) : Nat := 0x3400 + 8 * p + off
/-- Rail object index (R530). -/
def railIdx (n off : Nat) : Nat := 0x4000 + 4 * n + off
/-- Comparator index (R527). -/
def compIdx (t c : Nat) : Nat := 0x3C00 + 64 * t + c

/-- Defaults that depend on the instance or on the part (R217, R343, R373, R408, R453, R522). -/
def dfltOf (T : Nat) (f : Fam) (inst sub : Nat) (r : Row) : Nat :=
  match f with
  | .phaseCfg => if sub = 6 then inst else r.dflt
  | .comparator => if sub = 2 ∧ inst % 64 ≥ 16 ∧ inst % 2 = 1 then 0 else r.dflt
  | .railLimits =>
      if 128 ≤ inst then (if sub = 1 then 200 else if sub = 2 then 200 else if sub = 3 then 400 else r.dflt) else r.dflt
  | .ringCfg =>
      if sub = 1 then (if inst / 8 < T then inst / 8 else inst / 8 % T)
      else if sub = 2 then (if inst % 8 = 0 ∧ inst / 8 < T then 12 else 0)
      else if sub = 5 then (if inst % 8 = 0 ∧ inst / 8 < T then 4 else 0) else r.dflt
  | .srdoComm =>
      if inst = 0 then (if sub = 1 then 1 else if sub = 2 then 10 else r.dflt)
      else if inst = 1 then (if sub = 1 then 2 else if sub = 2 then 25 else r.dflt) else r.dflt
  | .srdoMap =>
      if inst = 0 then
        (if sub = 0 then 4 else if sub = 1 ∨ sub = 2 then 0x26010120 else if sub = 3 ∨ sub = 4 then 0x26010410 else r.dflt)
      else if inst = 1 then (if sub = 0 then 2 else if sub = 1 ∨ sub = 2 then 0x26010520 else r.dflt) else r.dflt
  | .rpdoComm => if sub = 1 ∧ 4 ≤ inst then 0x80000000 else r.dflt
  | .tpdoComm => if sub = 1 ∧ 4 ≤ inst then 0x80000000 else r.dflt
  | _ => r.dflt

/-- A raw value of `bytes` bytes read as the row's number: two's complement where the row's range goes below 0. -/
def Row.num (r : Row) (v : Nat) : Int :=
  if r.min < 0 ∧ 2 ^ (8 * r.bytes - 1) ≤ v then (v : Int) - 2 ^ (8 * r.bytes) else v

/-- The value lies in the row's range (R492 check 5). -/
def Row.inRange (r : Row) (v : Nat) : Bool :=
  decide (v < 2 ^ (8 * r.bytes)) && decide (r.min ≤ r.num v) && decide (r.num v ≤ r.max)

end Sys2Proof.Machine
end

