-- ==== Sys2Proof/Machine/Bits.lean ====
section
/-! DEFINITION. Bit fields, two's complement, rounding, saturation and the two CRCs (R259, R386). -/

namespace Sys2Proof.Machine

/-- Bit `i` of `v`. -/
def bit (v i : Nat) : Bool := v / 2 ^ i % 2 == 1

/-- `n` bits of `v` from bit `i`. -/
def field (v i n : Nat) : Nat := v / 2 ^ i % 2 ^ n

/-- `v` with bit `i` set. -/
def setBit (v i : Nat) : Nat := v ||| 2 ^ i

/-- `v` with bit `i` cleared. -/
def clrBit (v i : Nat) : Nat := if bit v i then v - 2 ^ i else v

/-- `v` with bit `i` made `b`. -/
def putBit (v i : Nat) (b : Bool) : Nat := if b then setBit v i else clrBit v i

/-- The indices below `n` whose bit is set. -/
def bitsOf (v n : Nat) : List Nat := (List.range n).filter (bit v)

/-- The bitmap of a list of indices. -/
def bitmap (is : List Nat) : Nat := is.foldl setBit 0

/-- 0 or 1. -/
def b2n (b : Bool) : Nat := if b then 1 else 0

/-- Two's complement in `bits` bits. -/
def ofInt (bits : Nat) (v : Int) : Nat := (v % (2 ^ bits : Int)).toNat

/-- A two's complement number of `bits` bits. -/
def toInt (bits v : Nat) : Int := if 2 ^ (bits - 1) ≤ v then (v : Int) - 2 ^ bits else v

/-- A counter of `bits` bits that stops at its largest value. -/
def satAdd (bits a b : Nat) : Nat := Nat.min (a + b) (2 ^ bits - 1)

/-- A counter of `bits` bits that wraps. -/
def wrapAdd (bits a b : Nat) : Nat := (a + b) % 2 ^ bits

/-- Limit to a range. -/
def clampI (v lo hi : Int) : Int := max lo (min v hi)

/-- Nearest integer to n / d (d > 0), ties away from zero (R121, R222, R324). -/
def roundAway (n : Int) (d : Nat) : Int :=
  if 0 ≤ n then (2 * n + d) / (2 * d) else -((-(2 * n) + d) / (2 * d))

/-- Nearest natural number to n / d, ties upward (R157). -/
def roundUp (n d : Nat) : Nat := (2 * n + d) / (2 * d)

/-- Floor of n / d. -/
def floorDiv (n d : Int) : Int := n.fdiv d

/-- One bit of CRC-8 with polynomial 0x07 (R259). -/
def crc8Bit (crc : Nat) (b : Bool) : Nat :=
  if (bit crc 7 != b) then ((crc * 2) ^^^ 0x07) % 256 else crc * 2 % 256

/-- CRC-8 over the low `n` bits of `v`, most significant first (R259). -/
def crc8 (v n : Nat) : Nat := (List.range n).reverse.foldl (fun c i => crc8Bit c (bit v i)) 0

/-- One bit of the reflected CRC-32C (R386). -/
def crc32Step (c : Nat) : Nat := if c % 2 = 1 then (c / 2) ^^^ 0x82F63B78 else c / 2

/-- One byte of CRC-32C. -/
def crc32Byte (c b : Nat) : Nat := (List.range 8).foldl (fun c _ => crc32Step c) (c ^^^ b)

/-- CRC-32C of a list of bytes (R386). -/
def crc32c (bs : List Nat) : Nat := (bs.foldl crc32Byte 0xFFFFFFFF) ^^^ 0xFFFFFFFF

/-- The low `n` bytes of `v`, little-endian. -/
def bytesLE (n v : Nat) : List Nat := (List.range n).map (fun i => v / 256 ^ i % 256)

/-- The number a little-endian list of bytes spells. -/
def ofBytesLE (bs : List Nat) : Nat := bs.foldr (fun b a => b + 256 * a) 0

/-- The number a big-endian list of bytes spells. -/
def ofBytesBE (bs : List Nat) : Nat := bs.foldl (fun a b => 256 * a + b) 0

/-- Mean of `n` values of sum `s`, nearest, ties away from zero; 0 for none (R323, R324). -/
def meanAway (s : Int) (n : Nat) : Int := if n = 0 then 0 else roundAway s n

/-- A signed quantity of `bits` bits: the formula's number where the format holds it, else a free value. -/
def fitI (bits : Nat) (v : Int) : Int :=
  if -(2 ^ (bits - 1) : Int) ≤ v ∧ v < 2 ^ (bits - 1) then v
  else toInt bits ((Config.outside bits v).toNat % 2 ^ bits)

/-- An unsigned quantity of `bits` bits: the formula's number where the format holds it, else a free value. -/
def fitN (bits : Nat) (v : Int) : Nat := if 0 ≤ v ∧ v < 2 ^ bits then v.toNat
  else (Config.outside bits v).toNat % 2 ^ bits

/-- A quotient by a gain that an object holds, to the nearest with ties away from zero; a gain of 0, for which the manual
states no result, gives a free value. -/
def fitDiv (bits : Nat) (num : Int) (gain : Nat) : Int :=
  if gain = 0 then toInt bits ((Config.zeroGain num).toNat % 2 ^ bits) else fitI bits (roundAway num gain)

end Sys2Proof.Machine
end

