-- ==== Sys2Proof/Machine/Crypto.lean ====
section
/-! DEFINITION. AES-128, AES-CMAC (RFC 4493) and AES key unwrap (RFC 3394), which R467 to R470 name. Byte strings are
lists of numbers below 256. -/

namespace Sys2Proof.Machine

/-- The AES substitution table, entry x in byte x. -/
def aesTable : Nat :=
  0x16BB54B00F2D99416842E6BF0D89A18CDF2855CEE9871E9B948ED9691198F8E19E1DC186B95735610EF6034866B53E708A8BBD4B1F74DDE8C6B4A61C2E2578BA08AE7A65EAF4566CA94ED58D6D37C8E779E4959162ACD3C25C2406490A3A32E0DB0B5EDE14B8EE4688902A22DC4F816073195D643D7EA7C41744975FEC130CCDD2F3FF1021DAB6BCF5389D928F40A351A89F3C507F02F94585334D43FBAAEFD0CF584C4A39BECB6A5BB1FC20ED00D153842FE329B3D63B52A05A6E1B1A2C830975B227EBE28012079A059618C323C7041531D871F1E5A534CCF73F362693FDB7C072A49CAFA2D4ADF04759FA7DC982CA76ABD7FE2B670130C56F6BF27B777C63

/-- The inverse table. -/
def aesInverse : Nat :=
  0x7D0C2155631469E126D677BA7E042B17619953833CBBEBC8B0F52AAE4D3BE0A0EF9CC9939F7AE52D0D4AB519A97F51605FEC8027591012B131C7078833A8DD1FF45ACD78FEC0DB9A2079D2C64B3E56FC1BBE18AA0E62B76F89C5291D711AF1476EDF751CE837F9E28535ADE72274AC9673E6B4F0CECFF297EADC674F4111913A6B8A130103BDAFC1020F3FCA8F1E2CD00645B3B80558E4F70AD3BC8C00ABD890849D8DA75746155EDAB9EDFD5048706C92B6655DCC5CA4D41698688664F6F87225D18B6D49A25B76B224D92866A12E084EC3FA420B954CEE3D23C2A632947B54CBE9DEC444438E3487FF2F9B8239E37CFBD7F3819EA340BF38A53630D56A0952

/-- Entry x of a table of bytes. -/
def tableByte (t x : Nat) : Nat := t / 256 ^ x % 256

/-- Doubling in GF(2^8). -/
def gfDouble (x : Nat) : Nat := if 128 ≤ x then ((2 * x) % 256) ^^^ 0x1B else 2 * x

/-- Product in GF(2^8) with a factor below 16. -/
def gfMul (c x : Nat) : Nat :=
  (if bit c 0 then x else 0) ^^^ (if bit c 1 then gfDouble x else 0) ^^^
    (if bit c 2 then gfDouble (gfDouble x) else 0) ^^^ (if bit c 3 then gfDouble (gfDouble (gfDouble x)) else 0)

/-- Exclusive or of two byte strings. -/
def xorBytes (a b : List Nat) : List Nat := List.zipWith (· ^^^ ·) a b

/-- One column times the circulant of four coefficients. -/
def mixColumn (k : List Nat) (c : List Nat) : List Nat :=
  (List.range 4).map (fun i => (List.range 4).foldl (fun a j => a ^^^ gfMul (k.getD ((j + 4 - i) % 4) 0) (c.getD j 0)) 0)

/-- Every column of a state. -/
def mixAll (k : List Nat) (s : List Nat) : List Nat :=
  (List.range 4).flatMap (fun j => mixColumn k ((s.drop (4 * j)).take 4))

/-- Row r of the state moves r columns; `d` is 1 for encryption, 3 for decryption. -/
def shiftRows (d : Nat) (s : List Nat) : List Nat :=
  (List.range 16).map (fun i => s.getD ((i + 4 * d * (i % 4)) % 16) 0)

/-- One word of the key schedule: rotated and substituted every fourth word. -/
def scheduleWord (rcon : Nat) (w : List Nat) : List Nat :=
  match w with
  | [a, b, c, d] => [tableByte aesTable b ^^^ rcon, tableByte aesTable c, tableByte aesTable d, tableByte aesTable a]
  | _ => w

/-- The next round key. -/
def nextKey (rcon : Nat) (k : List Nat) : List Nat :=
  let w0 := xorBytes (k.take 4) (scheduleWord rcon (k.drop 12))
  let w1 := xorBytes ((k.drop 4).take 4) w0
  let w2 := xorBytes ((k.drop 8).take 4) w1
  let w3 := xorBytes (k.drop 12) w2
  w0 ++ w1 ++ w2 ++ w3

/-- The 11 round keys of a key. -/
def roundKeys (key : List Nat) : List (List Nat) :=
  ([0x01, 0x02, 0x04, 0x08, 0x10, 0x20, 0x40, 0x80, 0x1B, 0x36].foldl
    (fun (acc : List (List Nat) × List Nat) rc => (acc.1 ++ [nextKey rc acc.2], nextKey rc acc.2)) ([key], key)).1

/-- AES-128 encryption of one block. -/
def aesEncrypt (key blk : List Nat) : List Nat :=
  let ks := roundKeys key
  let s0 := xorBytes blk (ks.getD 0 [])
  let s1 := (List.range 9).foldl
    (fun s i => xorBytes (mixAll [2, 3, 1, 1] (shiftRows 1 (s.map (tableByte aesTable)))) (ks.getD (i + 1) [])) s0
  xorBytes (shiftRows 1 (s1.map (tableByte aesTable))) (ks.getD 10 [])

/-- AES-128 decryption of one block. -/
def aesDecrypt (key blk : List Nat) : List Nat :=
  let ks := roundKeys key
  let s0 := (shiftRows 3 (xorBytes blk (ks.getD 10 []))).map (tableByte aesInverse)
  let s1 := (List.range 9).foldl
    (fun s i => (shiftRows 3 (mixAll [14, 11, 13, 9] (xorBytes s (ks.getD (9 - i) [])))).map (tableByte aesInverse)) s0
  xorBytes s1 (ks.getD 0 [])

/-- Doubling of a block for the CMAC subkeys. -/
def cmacDouble (b : List Nat) : List Nat :=
  let n := ofBytesBE b
  let d := if 2 ^ 127 ≤ n then ((2 * n) % 2 ^ 128) ^^^ 0x87 else 2 * n
  (bytesLE 16 d).reverse

/-- Chain the blocks of a message, the last one with its subkey. -/
def cmacBlocks (key k1 k2 : List Nat) : Nat → List Nat → List Nat → List Nat
  | 0, _, x => x
  | n + 1, m, x =>
    if m.length ≤ 16 then
      let last := if m.length = 16 then xorBytes m k1
        else xorBytes (m ++ [0x80] ++ List.replicate (15 - m.length) 0) k2
      aesEncrypt key (xorBytes x last)
    else cmacBlocks key k1 k2 n (m.drop 16) (aesEncrypt key (xorBytes x (m.take 16)))

/-- AES-CMAC of a message (RFC 4493). -/
def aesCmac (key m : List Nat) : List Nat :=
  let k1 := cmacDouble (aesEncrypt key (List.replicate 16 0))
  cmacBlocks key k1 (cmacDouble k1) (m.length / 16 + 1) m (List.replicate 16 0)

/-- One step of the unwrap: registers A, R1, R2. -/
def unwrapStep (key : List Nat) (r : List Nat × List Nat × List Nat) (t : Nat) : List Nat × List Nat × List Nat :=
  let a := (bytesLE 8 (ofBytesBE r.1 ^^^ t)).reverse
  let b := aesDecrypt key (a ++ (if t % 2 = 0 then r.2.2 else r.2.1))
  if t % 2 = 0 then (b.take 8, r.2.1, b.drop 8) else (b.take 8, b.drop 8, r.2.2)

/-- AES key unwrap of a 24-byte wrap (RFC 3394); `none` when the integrity check fails. -/
def aesUnwrap (key c : List Nat) : Option (List Nat) :=
  let r := [12, 11, 10, 9, 8, 7, 6, 5, 4, 3, 2, 1].foldl (unwrapStep key) (c.take 8, (c.drop 8).take 8, c.drop 16)
  if r.1 = List.replicate 8 0xA6 then some (r.2.1 ++ r.2.2) else none

/-- Check value of a key (R467): the first three bytes of the encryption of zeros, in bits 23:0. -/
def checkValue (key : Nat) : Nat := ofBytesLE ((aesEncrypt (bytesLE 16 key) (List.replicate 16 0)).take 3)

/-- The first 8 bytes of a CMAC as the UNSIGNED64 that is transferred (R469, R470). -/
def cmac8 (key : Nat) (m : List Nat) : Nat := ofBytesLE ((aesCmac (bytesLE 16 key) m).take 8)

/-- Session key (R469). -/
def sessionKey (key slot nonce : Nat) : Nat := ofBytesLE (aesCmac (bytesLE 16 key) ([1, slot] ++ bytesLE 8 nonce))

end Sys2Proof.Machine
end

