-- ==== Sys2Proof/Machine/Access.lean ====
section
/-! DEFINITION. Access to the numbered things of the state and to the active and shadow values of objects. -/

namespace Sys2Proof.Machine

/-- What a command answers. -/
abbrev Out := Host.Outcome State Fault Refusal

/-- T. -/
def State.T (s : State) : Nat := s.part.tiles
/-- Present device time (R68). -/
def State.now (s : State) : Nat := s.clk.time
/-- Present frame number N (R69). -/
def State.frame (s : State) : Nat := s.clk.time / ticksPerFrame
/-- Loop L. -/
def State.loop (s : State) (l : Nat) : Loop := s.loops.get {} l
/-- Phase p. -/
def State.phase (s : State) (p : Nat) : Phase := s.phases.get {} p
/-- Rail n. -/
def State.rail (s : State) (n : Nat) : Rail := s.rails.get {} n
/-- Tile t. -/
def State.tile (s : State) (t : Nat) : Tile := s.tiles.get {} t
/-- Comparator c of tile t, or its capture timer i at 56 + i. -/
def State.comp (s : State) (t c : Nat) : Comp := s.comps.get {} (64 * t + c)
/-- Lane of tile t. -/
def State.lane (s : State) (t : Nat) : Lane := s.lanes.get {} t
/-- Cellar of tile t. -/
def State.cellar (s : State) (t : Nat) : Cellar := s.cel.cellars.get {} t

/-- The management processor of tile t runs: not recovering, failed or halted (R25, R478). -/
def State.procRuns (s : State) (t : Nat) : Bool := (s.tile t).state == 0 && !(s.tile t).procHalted
/-- A fuse counts as blown when any copy reads blown (R475). -/
def SecGrp.field (g : SecGrp) : Bool := g.fieldCopies != 0
/-- PROVISION is blown (R475). -/
def SecGrp.provision (g : SecGrp) : Bool := g.provisionCopies != 0
/-- What SERVICE opens: raw Cellar access and raw compare values, refused from the instant FIELD is blown (R163, R435, R476). -/
def State.serviceOpen (s : State) : Bool := s.md.mode == .service && !s.sec.field
/-- A fuse whose copies disagree (R475). -/
def disagree (copies : Nat) : Bool := copies != 0 && copies != 7

/-- A converter fault holds: a check that failed twice in succession still fails (R312, R572). -/
def Tile.convFault (ti : Tile) : Bool := ti.refFault != 0 || ti.senseFault != 0

/-- Change loop L. -/
def State.updLoop (s : State) (l : Nat) (f : Loop → Loop) : State := { s with loops := s.loops.upd {} l f }
/-- Change phase p. -/
def State.updPhase (s : State) (p : Nat) (f : Phase → Phase) : State := { s with phases := s.phases.upd {} p f }
/-- Change rail n. -/
def State.updRail (s : State) (n : Nat) (f : Rail → Rail) : State := { s with rails := s.rails.upd {} n f }
/-- Change tile t. -/
def State.updTile (s : State) (t : Nat) (f : Tile → Tile) : State := { s with tiles := s.tiles.upd {} t f }
/-- Change comparator c of tile t. -/
def State.updComp (s : State) (t c : Nat) (f : Comp → Comp) : State := { s with comps := s.comps.upd {} (64 * t + c) f }
/-- Change the lane of tile t. -/
def State.updLane (s : State) (t : Nat) (f : Lane → Lane) : State := { s with lanes := s.lanes.upd {} t f }
/-- Change the Cellar of tile t. -/
def State.updCellar (s : State) (t : Nat) (f : Cellar → Cellar) : State :=
  { s with cel := { s.cel with cellars := s.cel.cellars.upd {} t f } }

/-- The event's instant lies at `d` or later: device time moves on to `d` when it has not reached it. -/
def State.reach (s : State) (d : Nat) : State := { s with clk := { s.clk with time := Nat.max s.clk.time d } }

/-- Default of a key on this part (R516). -/
def dfltKey (T key : Nat) : Nat :=
  match resolve T (key / 256) with
  | none => 0
  | some (f, inst) => match f.row (key % 256) with
    | none => 0
    | some r => dfltOf T f inst (key % 256) r

/-- Active value of a stored object. -/
def ObjGrp.val (o : ObjGrp) (T key : Nat) : Nat := (o.act.get none key).getD (dfltKey T key)

/-- The committed value of a key that waits for carrier zeros (R72). -/
def ObjGrp.late (o : ObjGrp) (key : Nat) : Option Late := o.flight.bind (fun fl => fl.late.find? (·.key == key))

/-- Value that reads of a shadowed object return: the pending value where there is one, one on its way to a carrier zero
included (R72, R77). -/
def ObjGrp.shadow (o : ObjGrp) (T key : Nat) : Nat :=
  (o.pend.get none key).getD (((o.late key).map (·.v)).getD (o.val T key))

/-- Write an active value, on every tile that holds the object. Every stored write lists its key. -/
def ObjGrp.put (o : ObjGrp) (key v : Nat) : ObjGrp :=
  { o with act := o.act.set none key (some v), split := o.split.set [] key [] }

/-- Active value of an object. -/
def State.ob (s : State) (idx sub : Nat) : Nat := s.obj.val s.T (okey idx sub)
/-- Active value of an object as tile t holds it: another than elsewhere after a commit applied in part (R83). -/
def State.obAt (s : State) (t idx sub : Nat) : Nat :=
  match (s.obj.split.get [] (okey idx sub)).find? (·.1 == t) with
  | some e => e.2
  | none => s.ob idx sub
/-- Value of a carrier-zero setting that phase p takes at its next carrier zero, or at once while it is stopped (R72, R73):
the committed one, unless the phase still waits for that zero. -/
def State.obZero (s : State) (p idx sub : Nat) : Nat :=
  match s.obj.flight, s.obj.late (okey idx sub) with
  | some fl, some e =>
    if bit e.tiles (p / 16) && !(fl.waiting.contains p && (s.phase p).on) then e.v else s.obAt (p / 16) idx sub
  | _, _ => s.obAt (p / 16) idx sub
/-- Active value of a loop object at its offset. -/
def State.lo (s : State) (l off sub : Nat) : Nat := s.ob (loopIdx l off) sub
/-- Active value of a phase object at its offset. -/
def State.po (s : State) (p off sub : Nat) : Nat := s.ob (phaseIdx p off) sub
/-- Active value of a rail object at its offset. -/
def State.rr (s : State) (n off sub : Nat) : Nat := s.ob (railIdx n off) sub
/-- Active value as a signed number of `bits` bits. -/
def State.obI (s : State) (bits idx sub : Nat) : Int := toInt bits (s.ob idx sub)
/-- Write an active value. -/
def State.put (s : State) (idx sub v : Nat) : State := { s with obj := s.obj.put (okey idx sub) v }

end Sys2Proof.Machine
end

