-- ==== Sys2Proof/Machine/Operands.lean ====
section
/-! DEFINITION. Which instances a command concerns: phases, tiles and slots of a loop, rails of a tile, neighbours and
trees, read from the active configuration (R5 to R8, R116, R117, R345, R357). -/

namespace Sys2Proof.Machine

/-- The tiles of the part. -/
def State.tileList (s : State) : List Nat := List.range s.T
/-- The loops of the part (R7). -/
def State.loopList (s : State) : List Nat := List.range (4 * s.T)
/-- The phases of the part (R7). -/
def State.phaseList (s : State) : List Nat := List.range (16 * s.T)
/-- The rails of the part (R7). -/
def State.railList (s : State) : List Nat := List.range (16 * s.T) ++ (List.range (4 * s.T)).map (128 + ·)
/-- A tile, loop, phase or rail exists on the part (R7). -/
def State.hasTile (s : State) (t : Nat) : Bool := decide (t < s.T)
def State.hasLoop (s : State) (l : Nat) : Bool := decide (l < 4 * s.T)
def State.hasPhase (s : State) (p : Nat) : Bool := decide (p < 16 * s.T)
def State.hasRail (s : State) (n : Nat) : Bool := railExists s.T n

/-- Tt_VLANE, in mV, lies in the window of the strapped level: 1.8 V with LVSEL at VIO, else 1.0 V (R48, R49, R545). -/
def vlaneGood (strap : Bool) (mv : Nat) : Bool :=
  if strap then decide (1710 ≤ mv) && decide (mv ≤ 1890) else decide (950 ≤ mv) && decide (mv ≤ 1050)

/-- LOOP_CFG:01 (R116). -/
def State.enabled (s : State) (l : Nat) : Bool := s.lo l 0 1 == 1
/-- The phase set of a loop: LOOP_CFG:02 to :05 as one bitmap (R116). -/
def State.phaseSet (s : State) (l : Nat) : Nat :=
  s.lo l 0 2 + s.lo l 0 3 * 2 ^ 32 + s.lo l 0 4 * 2 ^ 64 + s.lo l 0 5 * 2 ^ 96
/-- The phases of a loop in ascending number. -/
def State.phasesOf (s : State) (l : Nat) : List Nat := bitsOf (s.phaseSet l) (16 * s.T)
/-- Anchor tile and slot: LOOP_CFG:06 (R150). -/
def State.anchor (s : State) (l : Nat) : Nat := field (s.lo l 0 6) 2 3
def State.anchorSlot (s : State) (l : Nat) : Nat := field (s.lo l 0 6) 0 2
/-- The loop has a phase on tile t. -/
def State.holds (s : State) (l t : Nat) : Bool := field (s.phaseSet l) (16 * t) 16 != 0
/-- Tiles that take part in a loop: its anchor and every tile with one of its phases (R116, R117). -/
def State.tilesOf (s : State) (l : Nat) : List Nat :=
  s.tileList.filter (fun t => t == s.anchor l || s.holds l t)
/-- The slot of a loop on a tile: LOOP_CFG:06 on the anchor, :07 elsewhere (R150). -/
def State.slotOf (s : State) (l t : Nat) : Nat :=
  if t = s.anchor l then s.anchorSlot l else field (s.lo l 0 7) (2 * t) 2
/-- An enabled loop takes part on tile t. -/
def State.partakes (s : State) (l t : Nat) : Bool := s.enabled l && (s.tilesOf l).contains t
/-- The enabled loop anchored in slot k of tile t. -/
def State.anchoredAt (s : State) (t k : Nat) : Option Nat :=
  s.loopList.find? (fun l => s.enabled l && s.anchor l == t && s.anchorSlot l == k)
/-- The enabled loop, anchored or replica, that slot k of tile t holds (R15). -/
def State.heldAt (s : State) (t k : Nat) : Option Nat :=
  s.loopList.find? (fun l => s.partakes l t && s.slotOf l t == k)
/-- The enabled loops in which a tile takes part. -/
def State.loopsOn (s : State) (t : Nat) : List Nat := s.loopList.filter (fun l => s.partakes l t)
/-- The enabled loop that a phase belongs to. -/
def State.loopOf (s : State) (p : Nat) : Option Nat :=
  s.loopList.find? (fun l => s.enabled l && bit (s.phaseSet l) p)
/-- Phases of a loop whose IN_LOOP_ENABLE is 1 (R189). -/
def State.enabledPhases (s : State) (l : Nat) : List Nat := (s.phasesOf l).filter (fun p => s.po p 0 7 == 1)

/-- Rank order: SHED_ORDER, ties by the lower phase number (R190). -/
def State.before (s : State) (p q : Nat) : Bool :=
  decide (s.po p 0 6 < s.po q 0 6) || (s.po p 0 6 == s.po q 0 6 && decide (p < q))
/-- Rank of a phase among the enabled phases of its loop. -/
def State.rank (s : State) (l p : Nat) : Nat := ((s.enabledPhases l).filter (fun q => s.before q p)).length
/-- The enabled phases of a loop in rank order. -/
def State.ranked (s : State) (l : Nat) : List Nat :=
  (List.range (s.enabledPhases l).length).filterMap (fun i => (s.enabledPhases l).find? (fun p => s.rank l p == i))
/-- The active phases for a count: lowest rank, without the thermally shed phase, in ascending number (R190, R193). -/
def State.activeSet (s : State) (l n : Nat) : List Nat :=
  let chosen := ((s.ranked l).filter (fun p => (s.loop l).pp.thermal != some p)).take n
  (s.phasesOf l).filter (fun p => chosen.contains p)

/-- The loop of a loop rail (R6). -/
def railLoop (n : Nat) : Option Nat := if 128 ≤ n then some (n - 128) else none
/-- The tile whose sequencer handles a rail (R345). -/
def State.railTile (s : State) (n : Nat) : Nat := match railLoop n with
  | some l => s.anchor l
  | none => n / 16
/-- A rail is sequenced (R345). -/
def State.sequenced (s : State) (n : Nat) : Bool :=
  s.rr n 0 1 == 1 && (match railLoop n with | some l => s.enabled l | none => true)
/-- STATE of a rail (R371). -/
def State.railState (s : State) (n : Nat) : Nat := s.rr n 0 2
/-- The parents of a rail: the bytes of PARENTS other than 0xFF (R371). -/
def State.parents (s : State) (n : Nat) : List Nat :=
  ([field (s.rr n 0 3) 0 8, field (s.rr n 0 3) 8 8, field (s.rr n 0 3) 16 8, field (s.rr n 0 3) 24 8]).filter (· != 0xFF)
/-- One round of the descendants of a set of rails. -/
def State.spread (s : State) (ns : List Nat) : List Nat :=
  s.railList.filter (fun m => ns.contains m || (s.sequenced m && (s.parents m).any (fun p => ns.contains p)))
/-- Descendants of a set of rails after `k` rounds, the set included. -/
def State.descend (s : State) : Nat → List Nat → List Nat
  | 0, ns => ns
  | k + 1, ns => if s.spread ns = ns then ns else State.descend s k (s.spread ns)
/-- The dependants of a rail, taken transitively (R359, R362, R363). -/
def State.dependants (s : State) (n : Nat) : List Nat :=
  (s.descend s.railList.length [n]).filter (· != n)
/-- A set of rails with all that name one of them as a parent, sequenced or not. -/
def State.heirs (s : State) (ns : List Nat) : List Nat :=
  s.railList.filter (fun m => ns.contains m || (s.parents m).any (fun p => ns.contains p))
/-- The same after `k` rounds. -/
def State.allHeirs (s : State) : Nat → List Nat → List Nat
  | 0, ns => ns
  | k + 1, ns => if s.heirs ns = ns then ns else State.allHeirs s k (s.heirs ns)
/-- The rail is its own ancestor (R102). -/
def State.cyclic (s : State) (n : Nat) : Bool :=
  (s.allHeirs s.railList.length (s.railList.filter (fun m => (s.parents m).contains n))).contains n

/-- PWM clocks per period of a phase: 2·HALF (R157). -/
def halfOf (freq : Nat) : Nat := roundUp 250000 (Nat.max freq 1)
/-- The carrier period of a loop in PWM clocks (R157, R193). -/
def State.period (s : State) (l : Nat) : Nat := 2 * halfOf (s.lo l 3 1)
/-- The SYNC origin that a loop takes as it starts (R295). -/
def State.syncFor (s : State) (l : Nat) : Nat :=
  let m := s.ob 0x2100 1
  match s.clk.syncLastEdge with
  | some t => if (m = 2 ∨ m = 3) ∧ s.clk.syncState = 1 ∧ s.clk.syncInterval = s.period l then t % s.period l else 0
  | none => 0

/-- SPREAD_BASE modulo a carrier period P, and the SYNC origin where one is in force (R193, R295). -/
def State.spreadOn (s : State) (l P : Nat) : Nat := ((s.loop l).origin + s.lo l 0xC 6) % P
/-- The loop carrier boundaries lie at this offset (R193). -/
def State.spreadBase (s : State) (l : Nat) : Nat := s.spreadOn l (s.period l)

/-- O_i of the i-th of n active phases, for a carrier period P (R193). -/
def State.offsetOf (s : State) (l P i n : Nat) : Nat := (s.spreadOn l P + i * P / Nat.max n 1) % P

/-- First time at or after `t` that is congruent to `o` modulo `P` (R160, R193). -/
def nextCongruent (t o P : Nat) : Nat := t + (o + P - t % P) % P

/-- Rail unit in ticks: PRESCALE (R346). -/
def State.railUnit (s : State) (n : Nat) : Nat :=
  ticksPerFrame * (match s.rr n 0 7 with | 0 => 1 | 1 => 16 | _ => 256)
/-- End of N rail units counted from X: the sequencer tick N·M after the first tick at or after X (R346). -/
def State.railEnd (s : State) (n x units : Nat) : Nat :=
  (x + ticksPerFrame - 1) / ticksPerFrame * ticksPerFrame + units * s.railUnit n

/-! ### Converter codes (R119, R317, R338, R339) -/

/-- A code of 12 bits (R119). -/
def code12 (c : Nat) : Nat := Nat.min c 4095

/-- The reset factors of a converter (R316, R339). -/
def resetFactors : Nat × Int × List Nat := (0x8000, 0, List.replicate 8 0x0200)

/-- The corrected code of a stage-trimmed code, from a gain with 15 fraction bits and an offset in 1/16 LSB (R317). -/
def correctCode (gain : Nat) (offset : Int) (c : Nat) : Nat :=
  (clampI (roundAway ((16 * (c : Int) - offset) * gain) 524288) 0 4095).toNat

/-- The corrected code of converter `c` of tile t (0 to 3 the loop converters, 4 and 5 the telemetry converters; R317,
R338). -/
def State.corrected (s : State) (t c code : Nat) : Nat :=
  let f := ((s.tile t).cal.get none c).getD resetFactors
  correctCode f.1 f.2.1 (code12 code)

end Sys2Proof.Machine
end

