-- ==== Sys2Proof/Machine/Events.lean ====
section
/-! DEFINITION. Event sources, reports and active faults (R378 to R384, R390). -/

namespace Sys2Proof.Machine

/-- Source of the loop in slot k, regulation (R380). -/
def srcReg (k : Nat) : Nat := 16 + k
/-- Source of the loop in slot k, transients. -/
def srcTrans (k : Nat) : Nat := 20 + k
/-- Source of the loop in slot k, protection. -/
def srcProt (k : Nat) : Nat := 24 + k
/-- Source of comparator c. -/
def srcComp (c : Nat) : Nat := 48 + c
/-- Source of the lane. -/
def srcLane : Nat := 104
/-- Source of the sequencer and TRELLIS. -/
def srcSeq : Nat := 105
/-- Source of the Pergola port and receivers. -/
def srcPort : Nat := 106
/-- Source of the clocks. -/
def srcClock : Nat := 107
/-- Source of telemetry and calibration. -/
def srcTelem : Nat := 108
/-- Source of the Cellar. -/
def srcCellar : Nat := 109
/-- Source of the SRAM check bits. -/
def srcSram : Nat := 110
/-- Source of the management processor and watchdog. -/
def srcProc : Nat := 111
/-- Source of mode and system (tile 0). -/
def srcMode : Nat := 112
/-- Source of network and dictionary (tile 0). -/
def srcNet : Nat := 113
/-- Source of security (tile 0). -/
def srcSec : Nat := 114
/-- Source of the safety inputs (tile 0). -/
def srcSafety : Nat := 115
/-- Source of the event machinery. -/
def srcEvent : Nat := 116
/-- Source of the monitors. -/
def srcMon : Nat := 117

/-- Low and high byte. -/
def two (v : Nat) : List Nat := [v % 256, v / 256 % 256]

/-- A repeat: count and delta grow, time and data stay (R381). -/
def Entry.again (e : Entry) (t : Nat) : Entry :=
  { e with
    rpt := satAdd 16 e.rpt 1
    delta := Nat.min ((t - e.time) / 256) 0xFFFFFFFF
    sat := e.sat || decide (0xFFFF ≤ e.rpt + 1) || decide (0xFFFFFFFF ≤ (t - e.time) / 256) }

/-- The entry belongs to this code and instance. -/
def Entry.is (e : Entry) (code inst : Nat) : Bool := e.code == code && e.inst == inst

/-- A report reaches its slot (R381): a repeat, a new entry, or lost. -/
def Slot.report (sl : Slot) (n : Entry) : Slot :=
  if sl.entries.any (fun e => e.is n.code n.inst) then
    { sl with entries := sl.entries.map (fun e => if e.is n.code n.inst then e.again n.time else e) }
  else if sl.entries.length < 4 then { sl with entries := sl.entries ++ [n] }
  else { sl with lost := satAdd 16 sl.lost 1, lostLast := n.time }

/-- The fault that a record of severity 3, 4 or 5 opens (R390). -/
def openFault (fs : List Fault_) (f : Fault_) : List Fault_ :=
  if f.sev < 3 ∨ 5 < f.sev ∨ fs.contains f then fs else fs ++ [f]

/-- A report of source `src` of tile `t` and the fault it opens. -/
def EvGrp.report (e : EvGrp) (t src : Nat) (n : Entry) : EvGrp :=
  { e with
    slots := e.slots.upd {} (256 * t + src) (fun sl => sl.report n)
    faults := openFault e.faults ⟨t, n.code, n.inst, n.sev⟩ }

/-- EVENT_ENABLE of a source (R406). -/
def State.sourceOn (s : State) (t src : Nat) : Bool := bit (s.ob (0x4510 + t) (1 + src / 32)) (src % 32)

/-- Source `src` of tile `t` reports; a disabled source reports nothing of severity 0 to 2 (R381, R384). -/
def State.report (s : State) (t src code sev inst : Nat) (data : List Nat) : State :=
  if sev ≤ 2 ∧ s.sourceOn t src = false then s
  else
    let n : Entry := { code := code, inst := inst, sev := sev, data := data, time := s.now, pre := !s.clk.running }
    { s with ev := s.ev.report t src n }

/-- The loop of the anchor slot reports through its regulation, transient or protection source (R380). -/
def State.loopReport (s : State) (src : Nat → Nat) (l code sev : Nat) (data : List Nat) : State :=
  s.report (s.anchor l) (src (s.anchorSlot l)) code sev l data

/-- Source of a rail on its tile (R380). -/
def State.srcRail (s : State) (n : Nat) : Nat := match railLoop n with
  | some l => 44 + s.anchorSlot l
  | none => 28 + n % 16

/-- A rail reports on its sequencer's tile. -/
def State.railReport (s : State) (n code sev : Nat) (data : List Nat) : State :=
  s.report (s.railTile n) (s.srcRail n) code sev n data

/-- A bit of the loop's alert latch is set, where ALERT_MASK allows it (R268). -/
def State.latch (s : State) (l b : Nat) : State :=
  if bit (s.ob (0x5010 + l) 2) b then
    s.updLoop l (fun lp => { lp with ln := { lp.ln with latch := setBit lp.ln.latch b } })
  else s

/-- The loop is in STATE 7. -/
def State.loopSafe (s : State) (l : Nat) : Bool := (s.loop l).state == 7
/-- Some loop of tile t is in STATE 7 for this cause. -/
def State.tileSafe (s : State) (t code : Nat) : Bool :=
  (s.loopsOn t).any (fun l => s.loopSafe l && (s.loop l).pr.cause == code)
/-- The rail is failed, kept off, off by group shutdown, retrying, or filtering a drop (R390). -/
def State.railBad (s : State) (n : Nat) : Bool := decide (5 ≤ (s.rail n).status) && (s.rail n).status != 7

/-- VIN is good (R107): T0_VINSEN0 at or above VIN_GOOD, always so with VIN_GOOD = 0. -/
def State.vinOk (s : State) : Bool := decide (s.ob 0x2000 7 ≤ s.pins.vin)

/-- A rail reaction of the rail's target is in progress (R387). -/
def State.reacting (s : State) (n : Nat) : Bool :=
  match (s.ev.targets.get {} n).cur with
  | some r => r.code == 0x0905
  | none => false

/-- A shutdown of the sequence is requested or under way (R352, R353). -/
def State.stopping (s : State) : Bool := s.seq.reversing || s.seq.dir == 3

/-- The HOLD that a severity-5 fault led to still lasts (R390). -/
def State.heldFault (s : State) (f : Fault_) : Bool := s.md.mode == .hold && f.sev == 5 && s.md.heldBy.contains f.code

/-- The condition of an active fault, or the latched outcome that keeps it active, is still there (R390, R572). -/
def State.faultHolds (s : State) (f : Fault_) : Bool :=
  s.heldFault f || match f.code with
  | 0x0005 => !s.vinOk || s.pins.pfail || (s.md.mode == .run && s.stopping)
  | 0x0101 | 0x0102 | 0x0206 | 0x0208 => true
  | 0x0201 => (s.tile f.inst).state == 1
  | 0x0202 => (s.tile f.inst).state == 2
  | 0x0203 | 0x0205 | 0x0306 | 0x0505 | 0x0805 => s.loopSafe f.inst
  | 0x0507 => s.loopSafe f.inst || (s.comp f.tile (16 + 2 * s.anchorSlot f.inst)).output
  | 0x0602 => match s.loopOf f.inst with | some l => s.loopSafe l | none => (s.phase f.inst).ct.stuck
  | 0x0207 => (List.range 8).any (fun d => bit s.link.mgmtFault (8 * d + f.inst))
  | 0x020A => f.sev == 5 && s.tileSafe f.inst 0x020A
  | 0x0307 => (s.loop f.inst).tl.stale.any (fun e => decide (9 ≤ e.2))
  | 0x0501 => (s.loop f.inst).state == 4 || (s.loop f.inst).pr.inHiccup
  | 0x0502 => (s.loop f.inst).state == 6
  | 0x0504 => (s.loop f.inst).pr.otState == 2
  | 0x0508 => (s.loop f.inst).pr.uvReport
  | 0x0703 => (s.tile f.inst).laneLevelFault
  | 0x0801 => s.cal.failed != 0
  | 0x0804 => (s.tile f.inst).openSense != 0 || (s.tile f.inst).openVmon != 0
  | 0x0803 => (s.tile f.inst).convFault || (s.tile f.inst).bandFault || s.tileSafe f.inst 0x0803
  | 0x0901 | 0x0902 | 0x0906 => s.railBad f.inst
  | 0x0905 => s.railBad f.inst || s.reacting f.inst || ((s.rail f.inst).on && !(s.rail f.inst).good)
  | 0x0908 => s.seq.stuck || (s.seq.local_ && s.seq.dir == 3)
  | 0x0909 => !s.seq.tileState.isEmpty || s.stopping
  | 0x090A => s.stopping
  | 0x0C01 => !s.pins.safeIn || s.loopList.any (fun l => s.loopSafe l && (s.loop l).pr.cause == 0x0C01)
  | 0x0C02 => s.md.mode == .hold
  | 0x0E03 => if f.inst = 0 then s.net.errA == 2 else s.net.errB == 2
  | _ => false

/-- The faults active now (R390). -/
def State.activeFaults (s : State) : List Fault_ := s.ev.faults.filter s.faultHolds
/-- Highest active severity (R407). -/
def State.highest (s : State) : Nat := s.activeFaults.foldl (fun m f => Nat.max m f.sev) 0
/-- A severity-5 fault is active, or a loop is in STATE 7 through a severity-5 cause (R452). -/
def State.danger (s : State) : Bool :=
  decide (5 ≤ s.highest) || s.loopList.any (fun l => s.loopSafe l && (s.loop l).pr.safeSev == 5)

/-! ### The record (R385, R386) -/

/-- TILE_SEV (R385). -/
def Rec.tileSev (r : Rec) : Nat := 128 * b2n r.pre + 64 * b2n r.sat + 8 * r.sev + r.tile

/-- Bytes 0 to 27. -/
def Rec.body (r : Rec) : List Nat :=
  bytesLE 8 r.time ++ bytesLE 2 r.seq ++ [r.tileSev, r.code / 256] ++ bytesLE 2 r.code ++ bytesLE 2 r.inst ++
    bytesLE 2 r.rpt ++ bytesLE 4 r.delta ++ (r.data ++ List.replicate 6 0).take 6

/-- The 32 bytes of a record; a record with an SRAM error reads as unknown bytes (R450). -/
def Rec.bytes (r : Rec) : List Nat :=
  if r.bad then (List.range 32).map (fun i => Config.sramByte (32 * r.num + i) % 256)
  else r.body ++ bytesLE 4 (crc32c r.body)

/-- The record of a pending entry. -/
def Entry.toRec (e : Entry) (t src num : Nat) : Rec :=
  { time := e.time, seq := num % 65536, tile := t, sev := e.sev, code := e.code, inst := e.inst, data := e.data
    rpt := e.rpt, delta := e.delta, pre := e.pre, sat := e.sat, src := src, num := num }

/-- Pending entries of a tile, by source and report order. -/
def State.pendingOf (s : State) (t : Nat) : List (Nat × Entry) :=
  (List.range 132).flatMap (fun src => ((s.ev.slots.get {} (256 * t + src)).entries).map (src, ·))

/-- What an EMCY carries besides its error code and error register: on CAN A the whole record, on CAN B the five bytes of the
manufacturer field (R404, R503); nothing stated where there is no record. -/
def emcyBody (c : CanChan) (r : Option Rec) : List Nat :=
  match c, r with
  | _, none => []
  | .a, some r => r.bytes
  | .b, some r => r.tileSev :: (two r.code ++ two r.inst)

/-- The EMCY of a record, or of the end of the last fault. -/
def emcyFrame (c : CanChan) (code reg : Nat) (r : Option Rec) : Frame := .emcy c code reg (emcyBody c r)

/-- EMCY error code of a code (R404, R405). -/
def emcyCode (code : Nat) : Nat :=
  match code with
  | 0x0005 | 0x0508 => 0x3220
  | 0x0507 => 0x3210
  | 0x0501 | 0x0502 => 0x2310
  | 0x0503 | 0x0504 => 0x4210
  | c => 0xFF00 + c / 256

/-- The bit of the error register that an EMCY with this code sets (R404). -/
def emcyBit (code : Nat) : Nat :=
  match code with
  | 0x0501 | 0x0502 => 1
  | 0x0005 | 0x0507 | 0x0508 => 2
  | 0x0503 | 0x0504 => 3
  | c => if c / 256 = 2 ∨ c / 256 = 7 ∨ c / 256 = 14 then 4 else 7

end Sys2Proof.Machine
end

