-- ==== Sys2Proof/Machine/CellarOps.lean ====
section
/-! DEFINITION. Shared operations of the Cellar: pages and page pairs, the queue of cell operations, the tallies, and the
controller that carries the operations out (R410 to R418, R421, R423 to R425, R431). -/

namespace Sys2Proof.Machine

/-! ### The layout of a copy (R411, R412) -/

/-- The pairs of a tile in use (R411); pair 0 is the tile header. -/
def pairsOn (t : Nat) : List Nat := (List.range 15).filter (· != 6) ++ (if t = 0 then [19, 20, 21, 22, 23, 24, 25] else [])

/-- The DATA of pair i of tile t: the keys of the values that it holds with their sizes, in the order of its bytes. The spec lays
out the records of failures (RAIL first, R412's example) and the tallies (R423); the order of the others is the model's
(DESIGN CHOICE, log entry 31). Pair 0 is the tile header. -/
def pairKeys (t i : Nat) : List (Nat × Nat) :=
  if i = 0 then [(0, 1), (1, 1), (2, 4), (3, 1)]
  else if i ≤ 4 then (List.range 15).map (fun j => (okey (0x2030 + t) (15 * (i - 1) + j + 1), 2))
  else if i = 5 then (List.range 16).map (fun q => (okey (phaseIdx (16 * t + q) 1) 1, 1))
  else if 7 ≤ i ∧ i ≤ 14 then [(0, 4), (1, 2)]
  else match i with
    | 19 => [1, 2, 3, 4, 5, 9].map (fun n => (okey 0x2003 n, 1))
    | 20 => (okey 0x2400 9, 2) :: [1, 2, 3, 4, 5, 6, 7].map (fun n => (okey 0x2403 n, 1))
    | 21 => [(2, 1), (3, 1), (4, 1), (5, 8), (6, 6), (1, 1)].map (fun e => (okey 0x4302 e.1, e.2))
    | 22 => [(2, 1), (3, 1), (4, 1), (5, 8), (6, 6), (1, 1)].map (fun e => (okey 0x4303 e.1, e.2))
    | 23 => [(okey 0x4501 5, 32)]
    | 24 => [(0, 4), (6, 4), (7, 4), (8, 4), (9, 4)].map (fun e => (okey 0x2401 e.1, e.2))
    | 25 => [(okey 0x4810 1, 1)]
    | _ => []

/-- The object that lives in pair i of tile t, as a record of the pair names it (R411, R417); the tile header has none. -/
def pairObject (t i : Nat) : Nat :=
  if i = 0 then 0
  else if i ≤ 4 then 0x2030 + t
  else if i = 5 then phaseIdx (16 * t) 1
  else if 7 ≤ i ∧ i ≤ 14 then 0x4802
  else match i with
    | 19 => 0x2003 | 20 => 0x2403 | 21 => 0x4302 | 22 => 0x4303 | 23 => 0x4501 | 24 => 0x2401 | 25 => 0x4810
    | _ => 0

/-- The DATA bytes of some values. -/
def pairBytes (ks : List (Nat × Nat)) (vals : List (Nat × Nat)) : List Nat :=
  ks.flatMap (fun k => bytesLE k.2 (((vals.find? (fun e => e.1 == k.1)).map (·.2)).getD 0))

/-- The values that DATA bytes hold. -/
def pairValues : List (Nat × Nat) → List Nat → List (Nat × Nat)
  | [], _ => []
  | (k, n) :: ks, bs => (k, ofBytesLE (bs.take n)) :: pairValues ks (bs.drop n)

/-- A byte of the Cellar that the spec does not give: a free value. -/
def freeCell (n : Nat) : Nat := Config.cellByte n % 256

/-- SEQ, TAG, DATA and CRC of a page (R412); the format in the TAG is not given, nor is the content as delivered. `place` tells
the page from every other. -/
def pageBytes (place i seq : Nat) (data : Option (List Nat)) : List Nat :=
  let d := match data with
    | some bs => (bs ++ List.replicate 56 0).take 56
    | none => (List.range 56).map (fun n => freeCell (64 * place + 4 + n))
  let body := bytesLE 2 seq ++ bytesLE 2 (i % 1024 + freeCell (64 * place + 3) / 4 * 1024) ++ d
  body ++ bytesLE 4 (crc32c body)

/-- The 64 bytes of a copy of pair i as it stands (R412, R416). -/
def Page.bytes (place i : Nat) : Page → List Nat
  | .blank => List.replicate 64 0xFF
  | .whole sq d => pageBytes place i sq d
  | .moving old _ _ => old
  | .torn bs _ => bs

/-- The tests of R413 on the bytes of a copy and what the margin read of the last recovery found in it. -/
def copyPasses (i : Nat) (bs : List Nat) (marginal : Nat) : Bool :=
  crc32c (bs.take 60) == ofBytesLE (bs.drop 60) && ofBytesLE ((bs.drop 2).take 2) % 1024 == i &&
    bs.any (· != 0xFF) && marginal == 0

/-- Marginal cells of a copy (R416). -/
def Page.marginal : Page → Nat
  | .torn _ m => m
  | _ => 0

/-- A copy is valid (R413): a page that has been written to its end passes the four tests by its layout, which
the lemma `whole_passes` of Laws/Pages.lean shows; a page in writing is not valid. -/
def Page.valid (i : Nat) : Page → Bool
  | .blank => false
  | .whole _ _ => true
  | .moving _ _ _ => false
  | .torn bs m => m == 0 && copyPasses i bs m

/-- SEQ of a copy. -/
def Page.seq : Page → Nat
  | .whole sq _ => sq
  | .torn bs _ => ofBytesLE (bs.take 2)
  | _ => 0

/-- DATA of a copy; `none` for the content as delivered. -/
def Page.data : Page → Option (List Nat)
  | .whole _ d => d
  | .torn bs _ => some ((bs.drop 4).take 56)
  | _ => none

/-! ### Page pairs (R413, R414) -/

/-- Copy X is newer than copy Y (R414). -/
def newer (x y : Nat) : Bool :=
  let d := (x + 65536 - y) % 65536
  decide (1 ≤ d) && decide (d ≤ 32767)

/-- Copy A is the newest valid copy; `none` with no valid copy (R414). -/
def Pair.newestA (p : Pair) (i : Nat) : Option Bool :=
  match p.a.valid i, p.b.valid i with
  | true, true => some (!newer p.b.seq p.a.seq)
  | true, false => some true
  | false, true => some false
  | false, false => none

/-- The newest valid copy (R414). -/
def Pair.newest (p : Pair) (i : Nat) : Option Page :=
  match p.newestA i with
  | some true => some p.a
  | some false => some p.b
  | none => none

/-- The next write goes to copy A (R414). -/
def Pair.targetA (p : Pair) (i : Nat) : Bool := p.newestA i != some true

/-- SEQ of the next write (R414). -/
def Pair.nextSeq (p : Pair) (i : Nat) : Nat :=
  match p.newest i with
  | some c => (c.seq + 1) % 65536
  | none => 1

/-- Put the target copy of a pair. -/
def Pair.putTarget (p : Pair) (i : Nat) (f : Page → Page) : Pair :=
  if p.targetA i then { p with a := f p.a } else { p with b := f p.b }

/-- The page number of a pair's target copy (R411). -/
def Pair.targetPage (p : Pair) (i : Nat) : Nat := 2 * i + (if p.targetA i then 0 else 1)

/-- A page write begins: the target copy is in writing (R415). `place` is the pair's place. -/
def Pair.begin (p : Pair) (place i : Nat) (data : Option (List Nat)) : Pair :=
  p.putTarget i (fun c => .moving (c.bytes (place + (if p.targetA i then 0 else 1)) i) (p.nextSeq i) data)

/-- A page write has completed (R415). -/
def Pair.finish (p : Pair) (i : Nat) : Pair :=
  p.putTarget i (fun c => match c with | .moving _ sq d => .whole sq d | c => c)

/-- Bytes OR an unknown mask (R416). -/
def masked (bs : List Nat) (id : Nat) : List Nat := bs.mapIdx (fun n b => b ||| freeCell (1048576 + 64 * id + n))

/-- How many cells of an interrupted page are marginal: an unknown number, at least one (R416, R417). -/
def marginalCells (id : Nat) : Nat := 1 + freeCell (2097152 + id) % 255

/-- A page write is interrupted: in the erase phase the target copy has its old bytes OR an unknown mask, in the program phase its
new ones (R416). -/
def Pair.cut (p : Pair) (place i : Nat) (erasing : Bool) (id : Nat) : Pair :=
  p.putTarget i (fun c => match c with
    | .moving old sq d =>
      .torn (masked (if erasing then old else pageBytes (place + (if p.targetA i then 0 else 1)) i sq d) id) (marginalCells id)
    | c => c)

/-- Pair i of a tile. -/
def Cellar.pair (c : Cellar) (i : Nat) : Pair := c.pairs.get {} i

/-- The place of pair i of tile t among the free bytes. -/
def pairPlace (t i : Nat) : Nat := 1024 * t + 2 * i

/-- The values that pair i of tile t holds: none for the content as delivered, or with no valid copy. -/
def Cellar.values (c : Cellar) (t i : Nat) : List (Nat × Nat) :=
  match ((c.pair i).newest i).bind Page.data with
  | some d => pairValues (pairKeys t i) d
  | none => []

/-- The value that a pair of tile t holds for a key. -/
def Cellar.value (c : Cellar) (t i key : Nat) : Option Nat := ((c.values t i).find? (fun e => e.1 == key)).map (·.2)

/-! ### The queue (R410, R418) -/

/-- A page write joins the queue; one already queued for the pair takes the new value in its place (R418). -/
def enqueuePage (q : List CellOp) (pair : Nat) (data : Option (List Nat)) (obj : Nat) : List CellOp :=
  let same (o : CellOp) : Bool := match o with | .page i _ _ _ => i == pair | _ => false
  let put (o : CellOp) : CellOp := match o with
    | .page i d b acks => if i == pair then .page pair data obj acks else .page i d b acks
    | o => o
  if q.any same then q.map put else q ++ [.page pair data obj []]

/-- A page write of a pair of tile t with these DATA bytes is requested for an object. -/
def State.cellPage (s : State) (t pair : Nat) (data : Option (List Nat)) (obj : Nat) : State :=
  s.updCellar t (fun c => { c with queue := enqueuePage c.queue pair data obj })

/-- A page write of values of a pair of tile t is requested for an object. -/
def State.cellWrite (s : State) (t pair : Nat) (vals : List (Nat × Nat)) (obj : Nat) : State :=
  s.cellPage t pair (some (pairBytes (pairKeys t pair) vals)) obj

/-- A client waits until the page write that is queued for a pair is complete (R489). -/
def State.whenKept (s : State) (t pair : Nat) (ch : Chan) : State :=
  s.updCellar t (fun c =>
    { c with
      queue := c.queue.map (fun o => match o with
        | .page i d b acks => if i = pair then .page i d b (acks ++ [ch]) else o
        | o => o) })

/-- The DATA bytes of an operation that writes pair i. -/
def CellOp.dataOf (i : Nat) : CellOp → Option (List Nat)
  | .page j d _ _ => if j = i then d else none
  | _ => none

/-- The newest value given to a pair of tile t for a key: queued, in writing, or held. -/
def State.keptValue (s : State) (t i key : Nat) : Option Nat :=
  let c := s.cellar t
  match ((c.queue ++ c.busy.toList).filterMap (CellOp.dataOf i)).head? with
  | some d => ((pairValues (pairKeys t i) d).find? (fun e => e.1 == key)).map (·.2)
  | none => c.value t i key

/-! ### Tallies (R423, R424) -/

/-- Field page i of a tile. -/
def Cellar.field (c : Cellar) (i : Nat) : FieldPage := c.fields.get {} i

/-- The bytes of a field page (R423): the increment field, G and its complement. -/
def FieldPage.bytes (f : FieldPage) : List Nat :=
  f.torn.getD (bytesLE 16 (2 ^ 128 - 2 ^ f.bits) ++ bytesLE 2 f.g ++ bytesLE 2 (65535 - f.g) ++ List.replicate 44 0xFF)

/-- Programmed bits of a field page: bits that read 0. -/
def FieldPage.programmed (f : FieldPage) : Nat :=
  match f.torn with
  | none => f.bits
  | some bs => 128 - (bitsOf (ofBytesLE (bs.take 16)) 128).length

/-- The G that a field page reads. -/
def FieldPage.gen (f : FieldPage) : Nat :=
  match f.torn with
  | none => f.g
  | some bs => ofBytesLE ((bs.drop 16).take 2)

/-- G and its complement agree (R423, R425). -/
def FieldPage.agrees (f : FieldPage) : Bool :=
  match f.torn with
  | none => true
  | some bs => ofBytesLE ((bs.drop 16).take 2) + ofBytesLE ((bs.drop 18).take 2) == 65535

/-- Base and G of tally i: those of the newest valid copy of its base pair, 0 without one or as delivered (R425). -/
def Cellar.base (c : Cellar) (i : Nat) : Nat × Nat := ((c.value 0 (7 + i) 0).getD 0, (c.value 0 (7 + i) 1).getD 0)

/-- The value of a tally: base plus programmed bits (R423); while the field of a fold is being erased its bits are in the base. -/
def Cellar.tallyValue (c : Cellar) (i : Nat) : Nat :=
  (c.base i).1 + if c.busy = some (.foldErase i) then 0 else (c.field i).programmed

/-- An increment of tally i of a tile is requested; increments wait as a count, with one entry in the queue (R424). -/
def Cellar.want (c : Cellar) (i : Nat) : Cellar :=
  { c with
    waiting := c.waiting.upd 0 i (· + 1)
    queue := if c.waiting.get 0 i = 0 then c.queue ++ [.tally i] else c.queue }

/-- An increment of tally i on some tiles. -/
def State.tally (s : State) (ts : List Nat) (i : Nat) : State :=
  { s with cel := { s.cel with cellars := s.cel.cellars.updAll {} ts (fun _ c => c.want i) } }

/-- The next bit of a field is programmed (R424). -/
def FieldPage.program (f : FieldPage) : FieldPage := { f with bits := f.bits + 1 }

/-- Base and G after a fold, as DATA bytes of the base pair (R424). -/
def Cellar.foldData (c : Cellar) (i : Nat) : List Nat :=
  pairBytes (pairKeys 0 (7 + i)) [(0, (c.base i).1 + 128), (1, ((c.base i).2 + 1) % 65536)]

/-! ### Set images (R419, R421) -/

/-- The values that page k of the 103 data pages of an image holds: eight of them, the last page the rest. How many values a page
holds is not given (DESIGN CHOICE, log entry 31). -/
def imageShare (vals : List (Nat × Nat)) (k : Nat) : List (Nat × Nat) :=
  if k < 102 then (vals.drop (8 * k)).take 8 else vals.drop (8 * 102)

/-- The page of an image at a position. -/
def CfgImage.page (m : CfgImage) (k : Nat) : ImgPage := m.pages.getD k ImgPage.blank

/-- Put one page of an image. -/
def CfgImage.put (m : CfgImage) (k : Nat) (p : ImgPage) : CfgImage :=
  { pages := (m.pages ++ List.replicate (k + 1 - m.pages.length) ImgPage.blank).set k p }

/-- The values of the data pages of an image. -/
def CfgImage.vals (m : CfgImage) : List (Nat × Nat) :=
  (m.pages.take 103).flatMap (fun p => match p with | .data _ vs => vs | _ => [])

/-- An image is valid (R419): its 103 data pages and its header page are valid, and the header's CRC is that of the data. A CRC
over other values than those it was made from does not match (DESIGN CHOICE, log entry 31). -/
def CfgImage.valid (m : CfgImage) : Bool :=
  decide (m.pages.length = 104) && (m.pages.take 103).all (fun p => match p with | .data _ _ => true | _ => false) &&
    (match m.page 103 with
      | .header _ vs => vs == m.vals
      | _ => false)

/-- The generation of an image, from its header. -/
def CfgImage.gen (m : CfgImage) : Nat :=
  match m.page 103 with
  | .header g _ => g
  | _ => 0

/-- The older image of a set on a tile is its image A (R421). -/
def Cellar.olderIsA (c : Cellar) (n : Nat) : Bool :=
  let a := c.imgA.get {} n
  let b := c.imgB.get {} n
  match a.valid, b.valid with
  | true, true => newer b.gen a.gen
  | true, false => false
  | _, _ => true

/-- Change the older image of a set on a tile. -/
def Cellar.updOlder (c : Cellar) (n : Nat) (f : CfgImage → CfgImage) : Cellar :=
  if c.olderIsA n then { c with imgA := c.imgA.upd {} n f } else { c with imgB := c.imgB.upd {} n f }

/-- Page k of a save of set n with these values (R419, R421). -/
def Cellar.savedPage (c : Cellar) (k : Nat) : ImgPage :=
  if k < 103 then .data c.saveGen (imageShare c.snapshot k) else .header c.saveGen c.snapshot

/-! ### The controller (R410, R415, R421, R424, R431) -/

/-- Page k of a save begins: a page of the older image, and after the header page pair 5 with the trims in use; `trims` are its DATA
bytes (R421). -/
def Cellar.beginSaved (c : Cellar) (t n : Nat) (trims : List Nat) : Cellar :=
  if c.savePages < 104 then c.updOlder n (fun m => m.put c.savePages (.torn 0))
  else { c with pairs := c.pairs.upd {} 5 (fun p => p.begin (pairPlace t 5) 5 (some trims)) }

/-- Tile t takes an operation at an instant: a page write begins its erase phase, an increment of a full field the write of its base
pair (R410, R415, R421, R424). `n` is the set being saved. -/
def Cellar.take (c : Cellar) (t n : Nat) (trims : List Nat) (o : CellOp) (now : Nat) : Cellar :=
  match o with
  | .page i d _ _ => { c with busy := some o, opAt := now, pairs := c.pairs.upd {} i (fun p => p.begin (pairPlace t i) i d) }
  | .tally i =>
    if 128 ≤ (c.field i).programmed then
      { c with
        busy := some (.foldBase i), opAt := now
        pairs := c.pairs.upd {} (7 + i) (fun p => p.begin (pairPlace t (7 + i)) (7 + i) (some (c.foldData i))) }
    else { c with busy := some (.tally i), opAt := now }
  | .save => { c with busy := some .save, opAt := now }.beginSaved t n trims
  | o => { c with busy := some o, opAt := now }

/-- What is left of a tally's count takes its turn again at the head of the queue (R424). -/
def Cellar.requeue (c : Cellar) (i : Nat) : Cellar :=
  { c with queue := if c.waiting.get 0 i = 0 then c.queue else .tally i :: c.queue }

/-- How long the step in progress lasts, in ticks (R415, R424). -/
def Cellar.stepTicks (c : Cellar) : Nat := match c.busy with | some (.tally _) => 100000 | _ => 1500000

/-- The step in progress on tile t is complete: a page write; a bit; the two parts of a fold; one page of a save (R415, R421,
R424). -/
def Cellar.stepDone (c : Cellar) (t n : Nat) (trims : List Nat) : Cellar :=
  let at_ := c.opAt + c.stepTicks
  match c.busy with
  | some (.page i _ _ acks) =>
    { c with busy := none, pairs := c.pairs.upd {} i (fun p => p.finish i), kept := c.kept ++ acks }
  | some (.tally i) =>
    { c with
      busy := none, fields := c.fields.upd {} i FieldPage.program
      waiting := c.waiting.upd 0 i (· - 1) }.requeue i
  | some (.foldBase i) =>
    { c with busy := some (.foldErase i), opAt := at_, pairs := c.pairs.upd {} (7 + i) (fun p => p.finish (7 + i)) }
  | some (.foldErase i) =>
    { c with busy := none, fields := c.fields.set {} i { g := (c.base i).2 } }.requeue i
  | some .save =>
    let c1 : Cellar :=
      if c.savePages < 104 then c.updOlder n (fun m => m.put c.savePages (c.savedPage c.savePages))
      else { c with pairs := c.pairs.upd {} 5 (fun p => p.finish 5) }
    let c2 : Cellar := { c1 with savePages := c1.savePages + 1, opAt := at_ }
    if c2.savePages = 105 then { c2 with busy := none } else c2.beginSaved t n trims
  | none => c

/-- The next operation of the queue is taken when the controller is free. -/
def Cellar.next (c : Cellar) (t n : Nat) (trims : List Nat) (now : Nat) : Cellar :=
  match c.busy, c.queue with
  | none, o :: rest => { c with queue := rest }.take t n trims o now
  | _, _ => c

/-- The instant at which the controller ends the step in progress; the present one where it is free. -/
def Cellar.stepEnd (c : Cellar) (now : Nat) : Nat := if c.busy.isNone then now else c.opAt + c.stepTicks

/-- The controller works on until its save is complete: every step, and every operation that stands before it (R410, R421). The
Cellar, and the instant at which it is done. -/
def Cellar.runSave (c : Cellar) (t n : Nat) (trims : List Nat) (now : Nat) : Nat → Cellar × Nat
  | 0 => (c, now)
  | k + 1 =>
    if c.savePages = 105 then (c, now)
    else ((c.stepDone t n trims).next t n trims (c.stepEnd now)).runSave t n trims (c.stepEnd now) k

/-! ### What lives in page pairs (R411) -/

/-- The pair of tile 0 that holds a device-level value. -/
def pairOf (key : Nat) : Option Nat :=
  if ([1, 2, 3, 4, 5, 9].map (okey 0x2003)).contains key then some 19
  else if (okey 0x2400 9 :: [1, 2, 3, 4, 5, 6, 7].map (okey 0x2403)).contains key then some 20
  else none

/-- The active values of some keys. -/
def State.valuesOf (s : State) (ks : List Nat) : List (Nat × Nat) := ks.map (fun k => (k, s.obj.val s.T k))

/-- A written value that lives in a page pair of tile 0 joins the queue (R411, R418). -/
def State.keepPair (s : State) (key : Nat) : State :=
  match pairOf key with
  | some i => s.cellWrite 0 i (s.valuesOf ((pairKeys 0 i).map (·.1))) (key / 256)
  | none => s

/-- The trims of the phases of tile t, as the values of its pair 5 (R411). -/
def State.trimValues (s : State) (t : Nat) : List (Nat × Nat) := s.valuesOf ((pairKeys t 5).map (·.1))

/-- Pair 5 of tile t: the trims of its phases (R411). -/
def State.keepTrims (s : State) (t : Nat) : State := s.cellWrite t 5 (s.trimValues t) (phaseIdx (16 * t) 1)

/-- The trims of tile t as DATA bytes. -/
def State.trimBytes (s : State) (t : Nat) : List Nat := pairBytes (pairKeys t 5) (s.trimValues t)

end Sys2Proof.Machine
end

