-- ==== Sys2Proof/Machine/TelemOps.lean ====
section
/-! DEFINITION. The sequence tables of the telemetry converters: when an entry waits, is triggered, samples and is over
(R300 to R308, R311). -/

namespace Sys2Proof.Machine

/-! ### Converters and their entries -/

/-- First TADC clock at or after a device time (R300). -/
def clockAt (t : Nat) : Nat := (t + 9) / 10

/-- The sequence table of converter `v`. -/
def Tile.seq (ti : Tile) (v : Nat) : SeqConv := if v = 0 then ti.seq0 else ti.seq1

/-- Change the sequence table of converter `v`. -/
def Tile.updSeq (ti : Tile) (v : Nat) (f : SeqConv → SeqConv) : Tile :=
  if v = 0 then { ti with seq0 := f ti.seq0 } else { ti with seq1 := f ti.seq1 }

/-- The settings of the entry of converter `v` of tile t that waits or samples: those of the tables, or those under which it
was under way at their swap (R308). -/
def State.entryNow (s : State) (t v : Nat) : OldEntry :=
  let q := (s.tile t).seq v
  q.old.getD
    { word := s.ob (0x3A01 + 32 * t + v) (q.entry + 1), limit := s.ob (0x3A00 + 32 * t) 5
      period := s.ob (0x3A00 + 32 * t) 4, len := s.ob (0x3A00 + 32 * t) (2 + v) }

/-- Its word. -/
def State.entryWord (s : State) (t v : Nat) : Nat := (s.entryNow t v).word

/-- TADC clocks of delay of an entry word (R302). -/
def entryDelay (w : Nat) : Nat := let d := field w 16 10; if 64 < d then d + 40 else d

/-- The tables of a tile run: RUN, no calibration, no VMON open-wire set (R301, R314, R318). -/
def State.tablesRun (s : State) (t : Nat) : Bool :=
  s.ob (0x3A00 + 32 * t) 1 == 1 && s.cal.state != 1 && s.md.openWireSet != 2 && s.md.mode != .reset

/-! ### Sampling clocks (R302, R303, R305, R311) -/

/-- The last of `n` sampling clocks from clock `c` on: a check clock moves a sample and those after it (R311). -/
def lastClock : Nat → Nat → Nat
  | 0, c => c
  | n + 1, c =>
    let here := if c % 512 = 0 then c + 1 else c
    if n = 0 then here else lastClock n (here + 1)

/-- Check clocks from `a` up to but not including `b`. -/
def checkClocks (a b : Nat) : Nat := (b + 511) / 512 - (a + 511) / 512

/-- The end of the start-up before the first sampling clock of an entry with word `w`, as R302 fixes that clock; `none` while
the entry waits for its trigger. -/
def SeqConv.wakeClock (q : SeqConv) (w : Nat) : Option Nat :=
  if field w 29 2 = 0 then some (q.last + 1 + entryDelay w) else q.first

/-- The entry has the converter powered down before it samples (R303). -/
def powersDown (w : Nat) : Bool := decide (64 < field w 16 10)

/-- The first sampling clock of an entry: after a power-down the missed checks, and one that falls among them, come first
(R302, R303, R311). -/
def SeqConv.readyClock (q : SeqConv) (w : Nat) : Option Nat :=
  let c := q.wakeClock w
  if powersDown w then c.map (fun c => c + checkClocks (q.last + 1) (c + checkClocks (q.last + 1) c)) else c

/-- The converter is powered down at a TADC clock: from the clock after L until 40 clocks before the first sampling clock
(R303). -/
def State.poweredDown (s : State) (t v m : Nat) : Bool :=
  let q := (s.tile t).seq v
  let w := s.entryWord t v
  s.tablesRun t && powersDown w && decide (q.last < m) &&
    (match q.wakeClock w with | some c => decide (m + 40 < c) | none => true)

/-- The first sampling clock of the entry of converter `v`: paired entries start at the later of their clocks (R305); an entry
of old tables without its partner starts alone, where that clock has passed at the next one (R308). -/
def State.startClock (s : State) (t v : Nat) : Option Nat :=
  let q := (s.tile t).seq v
  let x := (s.tile t).seq (1 - v)
  let w := s.entryWord t v
  let y := s.entryWord t (1 - v)
  let floor_ := (q.old.map (·.notBefore)).getD 0
  if bit w 31 then
    if bit y 31 && q.pairs == x.pairs && q.old.isSome == x.old.isSome then
      match q.readyClock w, x.readyClock y with
      | some a, some b => some (Nat.max a b)
      | _, _ => none
    else none
  else (q.readyClock w).map (Nat.max floor_)

/-! ### The next entry (R301, R302, R307, R308) -/

/-- The entry with these settings has taken its last sample at clock L: its result waits to be written, and the table moves
on, after a swap to entry 0 of the new table. -/
def SeqConv.next (q : SeqConv) (n : OldEntry) (last : Nat) : SeqConv :=
  { q with
    entry := if q.old.isSome || decide (n.len ≤ q.entry + 1) then 0 else q.entry + 1
    last := last, first := none, late := false, old := none
    pairs := if q.old.isSome then 0 else q.pairs + b2n (bit n.word 31)
    done := q.done ++ [⟨q.entry, n.word, last, q.late, q.entry + 1 == n.len⟩] }

/-- The last sampling clock of the entry of converter `v`, where the clock after it has come at a device time. No more than
eight results wait to be written. -/
def State.overAt (s : State) (t v at_ : Nat) : Option Nat :=
  match s.startClock t v with
  | some c =>
    let last := lastClock (2 ^ field (s.entryWord t v) 8 4) c
    if 10 * (last + 1) ≤ at_ ∧ ((s.tile t).seq v).done.length < 8 then some last else none
  | none => none

/-- The entries of a tile that are over at a device time make way for the next ones: those wait from clock L + 1 on (R302). -/
def State.passEntries : Nat → State → Nat → Nat → State
  | 0, s, _, _ => s
  | n + 1, s, t, at_ =>
    if s.tablesRun t = false then s
    else
      let a := s.overAt t 0 at_
      let b := s.overAt t 1 at_
      if a.isNone && b.isNone then s
      else
        let go (v : Nat) (l : Option Nat) (ti : Tile) : Tile :=
          match l with
          | some last => ti.updSeq v (fun q => q.next (s.entryNow t v) last)
          | none => ti
        State.passEntries n (s.updTile t (fun ti => go 1 b (go 0 a ti))) t at_

/-- The tables of a tile as they stand at a device time. -/
def State.tablesAt (s : State) (t at_ : Nat) : State := State.passEntries 16 s t at_

/-! ### Triggers (R302, R304) -/

/-- A trigger at a device time fixes the first sampling clock of the entry of converter `v`, where that entry waits with this
kind of trigger: from clock L + 1 on, and within the wait limit. -/
def State.triggerOne (s : State) (t kind at_ : Nat) (here : Nat → Bool) (v : Nat) : State :=
  let q := (s.tile t).seq v
  let n := s.entryNow t v
  if s.tablesRun t && q.first.isNone && field n.word 29 2 == kind && here v && decide (10 * (q.last + 1) ≤ at_) &&
      decide (clockAt at_ ≤ q.last + 1 + n.limit) then
    s.updTile t (fun ti => ti.updSeq v (fun q => { q with first := some (clockAt at_ + entryDelay n.word) }))
  else s

/-- A trigger of a kind at a device time, for the converters of a tile that it reaches. -/
def State.triggerAt (s : State) (t kind at_ : Nat) (here : Nat → Bool) : State :=
  ([0, 1]).foldl (fun s v => s.triggerOne t kind at_ here v) (s.tablesAt t at_)

/-- A pulse of event tap i of a tile at a device time (R304). -/
def State.triggerTap (s : State) (t i at_ : Nat) : State :=
  let s1 := s.tablesAt t at_
  s1.triggerAt t 1 at_ (fun v => field (s1.entryWord t v) 26 3 == i)

/-! ### Swaps and restarts (R301, R308, R314) -/

/-- The entries under way at a swap of the tables complete under their old settings, those of the state before; a paired one
whose partner is not the entry that the other converter is at starts alone (R308). -/
def State.swapTables (s old : State) (t : Nat) : State :=
  let o := old.tablesAt t s.now
  let q0 := (o.tile t).seq 0
  let q1 := (o.tile t).seq 1
  let n0 := o.entryNow t 0
  let n1 := o.entryNow t 1
  let partners := bit n0.word 31 && bit n1.word 31 && q0.pairs == q1.pairs && q0.old.isSome == q1.old.isSome
  let kept (n : OldEntry) : OldEntry :=
    if bit n.word 31 && !partners then { n with word := clrBit n.word 31, notBefore := clockAt s.now } else n
  s.updTile t (fun ti =>
    { ti with
      seq0 := { q0 with pairs := 0, old := some (kept n0) }
      seq1 := { q1 with pairs := 0, old := some (kept n1) } })

/-- Both tables of a tile begin at entry 0, which follows the present clock (R301, R314, R318). -/
def State.restartTables (s : State) (t : Nat) : State :=
  let fresh (q : SeqConv) : SeqConv :=
    { q with
      entry := 0, last := clockAt s.now - 1, first := none, late := false, pairs := 0, old := none, done := [] }
  s.updTile t (fun ti => { ti with seq0 := fresh ti.seq0, seq1 := fresh ti.seq1 })

end Sys2Proof.Machine
end

