-- ==== Sys2Proof/Machine/PhaseOps.lean ====
section
/-! DEFINITION. The pulses of one phase and what its two balls show: settings, edge decisions and their forecast, the next
carrier zero, event taps, levels of PWMHq and PWMLq, and the blanking windows that their edges open (R135 to R138, R157 to
R180, R195, R219, R224, R228 to R231). Times within a carrier period are fine ticks after its carrier zero. -/

namespace Sys2Proof.Machine

/-! ### Settings (R72, R157) -/

/-- The carrier period of a loop in PWM clocks with the FREQ that is committed last: the one that a phase at its next carrier
zero takes (R157, R196). -/
def State.nextPeriod (s : State) (l : Nat) : Nat :=
  2 * halfOf (match s.obj.late (okey (loopIdx l 3) 1) with | some e => e.v | none => s.lo l 3 1)

/-- The settings of a phase that swap at its carrier zero, as it takes them now (R72, R157). -/
def State.phaseNow (s : State) (p : Nat) : PhaseCfg :=
  let z := s.obZero p
  let freq := match s.loopOf p with | some l => z (loopIdx l 3) 1 | none => z (phaseIdx p 0) 3
  let lead := match s.loopOf p with | some l => z (loopIdx l 3) 2 | none => z (phaseIdx p 0) 4
  let blank := 0x3801 + 16 * (p / 16)
  { loaded := true, half := halfOf freq, lead := lead, dead := z (phaseIdx p 2) 1, minPulse := z (phaseIdx p 2) 2,
    outMode := z (phaseIdx p 0) 1, raw := z (phaseIdx p 0) 2 == 1, trim := toInt 8 (z (phaseIdx p 1) 1)
    ocBlank := z blank 1, sfltBlank := z blank 2, tripBlank := z blank 3, safeBlank := z 0x3881 1 }

/-- H of a phase in fine ticks (R158). -/
def PhaseCfg.h (c : PhaseCfg) : Int := ((32 * c.half : Nat) : Int)

/-! ### What drives a phase (R93, R219) -/

/-- The loop whose duty a phase follows: that of its loop, but in SERVICE the phases are bench objects (R93). -/
def State.dutyLoop (s : State) (p : Nat) : Option Nat := if s.md.mode = .service then none else s.loopOf p

/-- PHASE_MANUAL acts on phase p: in RUN on a phase in no loop, and in SERVICE, where a safe state still has the higher rank
(R93, R219). -/
def State.manual (s : State) (p : Nat) : Bool :=
  match s.md.mode, s.loopOf p with
  | .run, none => true
  | .service, none => true
  | .service, some l => (s.loop l).state != 7
  | _, _ => false

/-- The loop's slots produce a command at this sample (R210, R219). -/
def Loop.computes (lp : Loop) : Bool :=
  (lp.state == 1 || lp.state == 2 || lp.state == 3 || lp.state == 5) && (lp.pp.burst != 2 || lp.pp.burstFrom.isSome)

/-- The action that meets a phase at a device time: 0 none, 1 Canopy, 2 overshoot (R228, R231). -/
def Phase.actAt (ph : Phase) (t : Nat) : Nat :=
  if decide (ph.actFrom ≤ t) && (match ph.actTo with | some e => decide (t < e) | none => true) then ph.actKind else 0

/-- Canopy drives phase p (R228). -/
def State.canopyOn (s : State) (p : Nat) : Bool := (s.phase p).actAt s.now == 1

/-- The loop drives phase p normally: no Canopy or overshoot, not asleep, no safe state or off-time (R219). -/
def State.normal (s : State) (l p : Nat) : Bool :=
  let lp := s.loop l
  lp.computes && lp.pp.burst != 2 && (s.phase p).actAt s.now == 0

/-- Phase p follows its loop duty or its manual duty, but for the wait of a release (R93, R219): no mechanism of a higher
rank drives it. The phases of a loop that has ended its soft stop run on to their carrier zeros (R225). -/
def State.follows (s : State) (p : Nat) : Bool :=
  let ph := s.phase p
  ph.on && ph.zeroSeen && !ph.frozen && !ph.reload && !s.md.halted && ph.tripOff == 0 && !ph.haltOff &&
    (match s.dutyLoop p with
      | some l => s.normal l p || ((s.loop l).state == 0 && ph.stopping)
      | none => s.manual p && s.pins.safeIn)

/-- Phase p decides its edges at this instant. -/
def State.driven (s : State) (p : Nat) : Bool := s.follows p && !(s.phase p).ed.wait && !(s.phase p).ed.offWait

/-! ### Commands in use (R17, R18, R288) -/

/-- The command in use at a device time, `lag` PWM clocks after its sample (R17, R18). -/
def LoopComp.dutyIn (c : LoopComp) (lag t : Nat) : Nat :=
  if ticksPerSample * c.dutyAt + lag ≤ t then c.duty
  else if ticksPerSample * c.dutyAt + lag ≤ t + ticksPerSample then c.duty1
  else c.duty2

/-- From a loop sample to the use of its command, PWM clocks: 14 ns on the anchor tile and 24 ns on a replica. The stages of R17
and R120 put the command 12 ns after a sample that is ready 2 ns after its instant, and R278, R280 and R122 put the error sample
at that same readiness (R17, R18; DESIGN CHOICE, log entry 94). -/
def State.dutyLag (s : State) (l t : Nat) : Nat := if s.anchor l = t then 7 else 12

/-- The compensator of loop l that tile t runs: a replica may have one that differs from the anchor's (R18, R280, R288). -/
def State.compOf (s : State) (l t : Nat) : LoopComp :=
  match (s.loop l).pr.own.get none t with
  | some r => r.cp
  | none => (s.loop l).cp

/-- The duty command of loop l in use on tile t at a device time; after a lost sample the tile holds the last one (R17, R18,
R288). -/
def State.dutyOn (s : State) (l t at_ : Nat) : Nat := (s.compOf l t).dutyIn (s.dutyLag l t) at_

/-- Preview offset in force on a phase of loop l on tile t, 2^-16 duty (R235); none of a preview whose flag the tile has lost (R280). -/
def State.previewDuty (s : State) (l t : Nat) : Nat :=
  match ((s.loop l).pv.fired.filter (fun f => f.applied && !bit f.missed t)).getLast? with
  | some f => f.offset
  | none => 0

/-! ### Edge decisions (R137, R161, R163, R167, R168) -/

/-- The exact code of a command (R161): 1 exact 0 %, 2 exact 100 %, 0 none. -/
def exactOf (d : Nat) : Nat := if d = 0 then 1 else if d = 0xFFFF then 2 else 0

/-- Offset of an edge in 2^-16 fine ticks before rounding, steps 1 to 4 of R137. -/
def edgeSum (d pv : Nat) (trim : Int) (h : Int) (residue : Nat) : Int :=
  ((d + pv : Nat) : Int) * h + trim * 32768 + residue

/-- The low-side window before a high-side pulse is too short (R167). -/
def PhaseCfg.omits (c : PhaseCfg) (window : Int) : Bool :=
  if c.outMode = 1 then decide (window - 2 * c.dead < c.minPulse) else decide (window < c.minPulse)

/-- Account the low-side window that ends at `rise` (fine ticks after zero) (R167); between two pulses that meet there is
none. -/
def Phase.window (ph : Phase) (rise : Int) : Phase :=
  let om := decide (0 < ph.ed.lastFall + rise) && ph.cfg.omits (ph.ed.lastFall + rise)
  { ph with
    ed := { ph.ed with omitLow := om }
    ct := if om then { ph.ct with lsOmitted := satAdd 32 ph.ct.lsOmitted 1, omitNow := true } else ph.ct }

/-- Rising-edge decision from an offset `o` and an exact code (R168). -/
def Phase.decideRise (ph : Phase) (exact : Nat) (o : Int) : Phase :=
  let h := ph.cfg.h
  let mp : Int := ph.cfg.minPulse
  if exact = 1 then
    { ph with ed := { ph.ed with skip := true, acc := 0, residue := 0, exact := 1, rise := none, falling := true } }
  else if exact = 2 then
    ({ ph with
      ed := { ph.ed with skip := false, acc := 0, residue := 0, exact := 2, x := h.toNat, rise := some 0, falling := true } } : Phase).window 0
  else
    let x := o + ph.ed.acc
    if 2 * x < mp then
      { ph with
        ed := { ph.ed with skip := true, acc := clampI x (-mp) mp, exact := 0, rise := none, falling := true }
        ct := { ph.ct with skipped := satAdd 32 ph.ct.skipped 1, skipNow := true } }
    else
      let xx := (min x h).toNat
      ({ ph with
        ed := { ph.ed with skip := false, acc := 0, exact := 0, x := xx, rise := some (h.toNat - xx), falling := true } } : Phase).window
          (h - xx)

/-- Falling-edge decision (R168); a rising half that was skipped and a falling half at exact 100 % give a pulse from the
top to carrier zero. A stretched or a negative half lies before the top. -/
def Phase.decideFall (ph : Phase) (exact : Nat) (o : Int) : Phase :=
  let h := ph.cfg.h
  let mp : Int := ph.cfg.minPulse
  if exact = 2 then
    let ph1 := if ph.ed.skip then ph.window h else ph
    { ph1 with
      ed := { ph1.ed with
        acc := 0, residue := 0, exact := 2, fall := some (2 * h.toNat), falling := false
        rise := if ph.ed.skip then some h.toNat else ph.ed.rise } }
  else if ph.ed.skip then
    { ph with
      ed := { ph.ed with
        acc := if exact = 1 then 0 else clampI (ph.ed.acc + o) (-mp) mp
        residue := if exact = 1 then 0 else ph.ed.residue
        exact := exact, fall := none, falling := false } }
  else
    let y0 := if exact = 1 then 0 else o
    let short := decide ((ph.ed.x : Int) + y0 < mp)
    let y1 := if short then mp - ph.ed.x else y0
    { ph with
      ed := { ph.ed with
        acc := if short && exact != 1 then clampI (ph.ed.x + y0 - mp) (-mp) mp else (if exact = 1 then 0 else ph.ed.acc)
        residue := if exact = 1 then 0 else ph.ed.residue
        exact := exact, fall := some (h + min y1 h).toNat, falling := false } }

/-- One decision with a command in fraction mode (R137, R161, R168, R202). -/
def Phase.edge (ph : Phase) (d pv : Nat) (trim : Int) : Phase :=
  let exact := exactOf d
  let sum := edgeSum d pv trim ph.cfg.h ph.ed.residue
  let o := floorDiv sum 65536
  let ph1 : Phase :=
    { ph with
      ed := { ph.ed with dutyInUse := d, residue := if exact = 0 then (sum - o * 65536).toNat else 0 } }
  if ph.ed.falling then ph1.decideFall exact o else ph1.decideRise exact o

/-- One decision in raw mode: on for the K fine ticks nearest the top; no minimum pulse (R163, R171). -/
def Phase.decideRaw (ph : Phase) (k : Nat) : Phase :=
  let h := (32 * ph.cfg.half : Nat)
  let b := decide (h ≤ k)
  let kk := Nat.min k h
  if ph.ed.falling then
    { ph with
      ed := { ph.ed with dutyInUse := k, beyond := b, fall := some (h + kk), falling := false, exact := if b then 2 else 0 } }
  else
    ({ ph with
      ed := { ph.ed with
        dutyInUse := k, beyond := b, x := kk, skip := false, rise := some (h - kk), falling := true
        exact := if b then 2 else 0 } } : Phase).window ((h - kk : Nat) : Int)

/-- A decision without a duty: no edge in this half period. -/
def Phase.decideNone (ph : Phase) : Phase :=
  if ph.ed.falling then { ph with ed := { ph.ed with exact := 0, fall := none, falling := false } }
  else { ph with ed := { ph.ed with skip := true, exact := 0, rise := none, falling := true } }

/-- The manual value in use: while a phase written 0 runs on to its carrier zero, the one before (R93, DESIGN CHOICE, log
entry 108). -/
def State.manualDuty (s : State) (p : Nat) (ph : Phase) : Nat :=
  if s.po p 7 1 = 0 then ph.ed.dutyInUse else s.po p 7 1

/-- The command of a phase in use at a device time, with its preview offset (R136, R137). -/
def State.commandOn (s : State) (p : Nat) (ph : Phase) (at_ : Nat) : Nat × Nat :=
  match s.dutyLoop p with
  | some l => (s.dutyOn l (p / 16) at_, s.previewDuty l (p / 16))
  | none => (s.manualDuty p ph, 0)

/-- The offset of the coming edge from the top in fine ticks, as steps 1 to 5 of R137 give it; H and 0 for the exact codes. -/
def Phase.offsetOf (ph : Phase) (d pv : Nat) (trim : Int) : Int :=
  match exactOf d with
  | 1 => 0
  | 2 => ph.cfg.h
  | _ => floorDiv (edgeSum d pv trim ph.cfg.h ph.ed.residue) 65536

/-- The instant of an edge that the decision has frozen, or that it has computed for an edge it skips (R136), fine ticks after
carrier zero: `new` is the phase after the decision, `o` the offset. -/
def Phase.instantOf (ph new : Phase) (o : Int) : Int :=
  match (if ph.ed.falling then new.ed.fall else new.ed.rise) with
  | some e => e
  | none => if ph.ed.falling then ph.cfg.h + o else if new.ed.exact = 1 then ph.cfg.h else ph.cfg.h - (o + ph.ed.acc)

/-- The next edge decision of a phase with a command and its preview offset (R136, R137). -/
def State.decideBy (s : State) (p : Nat) (ph : Phase) (c : Nat × Nat) : Phase :=
  let trim := if (s.loopOf p).isSome then ph.cfg.trim else 0
  let manual := (s.dutyLoop p).isNone
  let r : Phase × Int :=
    if manual && c.1 == 0 then (ph.decideNone, 0)
    else if manual && ph.cfg.raw then (ph.decideRaw c.1, min (c.1 : Int) ph.cfg.h)
    else (ph.edge c.1 c.2 trim, ph.offsetOf c.1 c.2 trim)
  { r.1 with ed := { r.1.ed with lastEdge := ph.instantOf r.1 r.2 } }

/-- The next edge decision of a phase with the command in use at a device time (R136, R137). A manual duty that a later commit has
put beyond MANUAL_DUTY_MAX is used as it stands (DESIGN CHOICE, log entry 145). -/
def State.decideOn (s : State) (p : Nat) (ph : Phase) (at_ : Nat) : Phase := s.decideBy p ph (s.commandOn p ph at_)

/-- The edge decision of phase p with the command in use at a device time (R136, R137). -/
def State.decideEdge (s : State) (p at_ : Nat) : Phase := s.decideOn p (s.phase p) at_

/-! ### Pulse and carrier zero (R135, R158, R174, R195) -/

/-- The high-side pulse of the present period as far as it is decided, fine ticks after carrier zero: it ends at its
falling edge or at a truncation (R135, R174). -/
def Phase.pulse (ph : Phase) : Option (Nat × Nat) :=
  match ph.ed.rise with
  | none => none
  | some r =>
    let f := ph.ed.fall.getD (64 * ph.cfg.half)
    let e := match ph.ed.cut with | some c => Nat.min f c | none => f
    if r < e then some (r, e) else none

/-- The counts that a negative move may skip in this period (R195): those after the falling edge, or from the start of the
move where that edge has passed; in a period without a pulse those of the down-count; none where the pulse runs on. -/
def Phase.skippable (ph : Phase) : Nat :=
  let z := ph.zeroAt + 2 * ph.cfg.half
  match ph.pulse with
  | some (_, e) => if e = 64 * ph.cfg.half then 0 else z - Nat.max (ph.zeroAt + Nat.max ph.cfg.half (e / 32 + 1)) ph.moveFrom
  | none => z - Nat.max (ph.zeroAt + ph.cfg.half) ph.moveFrom

/-- Device time of the next carrier zero, with the part of the move made before it (R158, R195). -/
def Phase.nextZero (ph : Phase) : Nat :=
  if ph.zeroSeen then
    let z := ph.zeroAt + 2 * ph.cfg.half
    if ph.move < 0 then z - Nat.min ph.skippable ph.move.natAbs else if ph.moveFrom ≤ z then z + ph.move.toNat else z
  else ph.zeroAt

/-- What is left of the move after that zero. -/
def Phase.restMove (ph : Phase) : Int :=
  if ph.zeroSeen = false then 0
  else if ph.move < 0 then ph.move + (Nat.min ph.skippable ph.move.natAbs : Nat)
  else if ph.moveFrom ≤ ph.zeroAt + 2 * ph.cfg.half then 0 else ph.move

/-- δ of a move, in the range −P/2 < δ ≤ P/2 (R195). -/
def moveDelta (target z period : Nat) : Int :=
  let d := (target + period - z % period) % period
  if 2 * d ≤ period then (d : Int) else (d : Int) - period

/-- End of the previous pulse, fine ticks before the zero at `z` (R167); the first low-side window of a phase that was off
begins at its zero (R160). -/
def Phase.fallBefore (ph : Phase) (z : Nat) : Int :=
  if ph.zeroSeen && !ph.ed.offWait then
    match ph.pulse with
    | some (_, e) => ((32 * (z - ph.zeroAt) : Nat) : Int) - e
    | none => ph.ed.lastFall + (32 * (z - ph.zeroAt) : Nat)
  else 0

/-- The pulse of the period that ends runs on to its zero. -/
def Phase.runsOn (ph : Phase) : Bool :=
  match ph.pulse with
  | some (_, e) => ph.ed.fall == some e && e == 64 * ph.cfg.half
  | none => false

/-- At its zero, a phase takes its carrier-zero settings; the flags of the period become those of the last period, and
a period without an over-current truncation clears the run (R72, R177, R184, R238). A phase that Canopy drives turns on
again where it was cut (R229). -/
def Phase.atZero (ph : Phase) (z : Nat) (cfg : PhaseCfg) (off : Nat) (moveTo : Option Nat) : Phase :=
  { ph with
    zeroAt := z, zeroSeen := true, cfg := cfg, offset := off, tapTo := 0
    move := match moveTo with | some o => moveDelta o z (2 * cfg.half) | none => ph.restMove
    moveFrom := if moveTo.isSome then z else ph.moveFrom
    actFrom := if ph.actCut.isSome then z else ph.actFrom
    actHigh := ph.actHigh && ph.actCut.isNone
    actCut := none
    ed := { ph.ed with
      lastFall := ph.fallBefore z, rise := none, fall := none, falling := false, skip := false, exact := 0
      tail := ph.zeroSeen && ph.runsOn, cut := none, offWait := false, ahead := none
      lastEdge := if ph.zeroSeen then ph.ed.lastEdge - 32 * ((z - ph.zeroAt : Nat) : Int) else 0
      wait := (match ph.actTo with | some e => decide (z < e) | none => false)
      beyond := cfg.raw && ph.ed.beyond }
    ct := { ph.ct with
      skipLast := ph.ct.skipNow, skipNow := false, omitLast := ph.ct.omitNow, omitNow := false
      truncLast := ph.ct.truncNow, truncNow := false, ocNow := false, badLast := ph.ct.badNow, badNow := false
      ocRun := if ph.zeroSeen && !ph.ct.ocNow then 0 else ph.ct.ocRun } }

/-- At its zero, a phase takes up the rising edge that was frozen before it (R136): with the settings that it takes there
(DESIGN CHOICE, log entry 136). -/
def State.zeroed (s : State) (p : Nat) (ph : Phase) (z : Nat) (cfg : PhaseCfg) (off : Nat) (moveTo : Option Nat) : Phase :=
  let a := ph.atZero z cfg off moveTo
  match ph.ed.ahead with
  | some c => if s.follows p && !a.ed.wait then s.decideBy p a c else a
  | none => a

/-! ### The low-side window and the next rise (R164, R167) -/

/-- Both edges of the present period are decided. -/
def Phase.decided (ph : Phase) : Bool := !ph.ed.falling && (ph.ed.fall.isSome || ph.ed.skip)

/-- The phase once the edges of its period that are still to come are decided with the present command. -/
def State.settled (s : State) (p : Nat) (ph : Phase) : Phase :=
  let ph1 := if ph.ed.falling || ph.decided then ph else s.decideOn p ph s.now
  if ph1.ed.falling then s.decideOn p ph1 s.now else ph1

/-- The rise of the next high-side pulse after `t`, fine ticks after the present carrier zero: the decided one, or else the
one that the present command gives (DESIGN CHOICE, log entry 109). -/
def State.nextRise (s : State) (p : Nat) (t : Int) : Option Int :=
  let ph := s.phase p
  let a := if s.driven p then s.settled p ph else ph
  let next : Option Int :=
    if ph.stopping || !s.follows p then none
    else
      let z := a.nextZero
      ((s.settled p (s.zeroed p a z (s.phaseNow p) ph.offset none)).pulse).map
        (fun e => ((e.1 : Nat) : Int) + ((32 * (z - ph.zeroAt) : Nat) : Int))
  match a.pulse with
  | some (r, _) => if t < r then some r else next
  | none => next

/-- Off (R94). -/
def PhaseCfg.ballsOff (c : PhaseCfg) : Balls := if c.outMode = 1 then (some false, some false) else (none, some false)

/-- The low-side window, `since` fine ticks after it began and `left` before it ends, where a pulse ends it (R164, R167). -/
def PhaseCfg.ballsLow (c : PhaseCfg) (since : Int) (left : Option Int) : Balls :=
  let omitted := match left with | some x => decide (0 < since + x) && c.omits (since + x) | none => false
  if c.outMode = 1 then
    let dead := decide (since < c.dead) || (match left with | some x => decide (x < c.dead) | none => false)
    (some false, some (!(omitted || dead)))
  else (if omitted then none else some false, some false)

/-- The balls of a phase follow its instants by 4 ns, 64 fine ticks (R159): the instant that they show now, fine ticks after
carrier zero. -/
def State.ballTime (s : State) (p : Nat) : Int := ((32 * s.now : Nat) : Int) - ((32 * (s.phase p).zeroAt : Nat) : Int) - 64

/-- The levels of a phase by its own pulses (R159, R160, R164, R224). -/
def State.pulseBalls (s : State) (p : Nat) (noSink : Bool) : Balls :=
  let ph := s.phase p
  let t := s.ballTime p
  let low (since : Int) : Balls :=
    if noSink then ph.cfg.ballsOff else ph.cfg.ballsLow since ((s.nextRise p t).map (· - t))
  let before : Balls :=
    if -ph.ed.lastFall ≤ t then low (ph.ed.lastFall + t)
    else if ph.ed.lastFall = 0 ∧ ¬ph.ed.tail then ph.cfg.ballsOff
    else (some true, some false)
  match ph.pulse with
  | some (r, e) =>
    if t < r then before
    else if t < e then (some true, some false)
    else low (t - e)
  | none => before

/-- The levels of a phase that Canopy drives (R228, R229): on, in complementary mode one DEAD_TIME after its low side went
off; after a truncation its low-side window. -/
def State.canopyBalls (s : State) (p : Nat) : Balls :=
  let ph := s.phase p
  match ph.actCut with
  | some x => ph.cfg.ballsLow ((32 * (s.now - x) : Nat) : Int) none
  | none =>
    if ph.cfg.outMode = 1 ∧ ¬ph.actHigh ∧ 32 * (s.now - ph.actFrom) < ph.cfg.dead then (some false, some false)
    else (some true, some false)

/-- The levels that a frozen phase keeps, but for a trip (R179, R180). -/
def State.haltedBalls (s : State) (p : Nat) : Balls :=
  let ph := s.phase p
  match ph.haltCut with
  | some x => ph.cfg.ballsLow ((32 * (s.now - x) : Nat) : Int) none
  | none => ph.haltBalls.getD ph.cfg.ballsOff

/-- What the balls of a phase follow (R219, R477): its boundary cells; nothing before the output mode is loaded; off; "low sides on" since an instant; the
levels of a halt; Canopy; or the pulses of the phase, with or without their low-side windows. -/
inductive BallSource where
  | boundary | unloaded | off | lowSides (since : Nat) | halted | canopy | pulses (noSink : Bool)
  deriving DecidableEq, Repr

/-- What the balls of phase p follow at the present time (R94, R176, R180, R219, R228, R231, R451); EXTEST has
them only while RESET# is held low (R477). -/
def State.ballSource (s : State) (p : Nat) : BallSource :=
  let ph := s.phase p
  let safe := match s.loopOf p with | some l => (s.loop l).state == 7 | none => false
  if s.md.mode = .reset ∧ s.md.lastCause = 1 ∧ s.pins.extest then .boundary
  else if s.md.mode = .reset ∨ ph.cfg.loaded = false then .unloaded
  else if safe then
    let pr := (s.loop ((s.loopOf p).getD 0)).pr
    if pr.lowSides then .lowSides pr.lowSince else .off
  else if ph.tripOff ≠ 0 ∨ ph.haltOff ∨ ph.ed.offWait ∨ s.pins.safeIn = false then .off
  else if ph.frozen then .halted
  else match s.dutyLoop p with
    | none => if s.manual p && ph.on && ph.zeroSeen && !ph.reload then .pulses false else .off
    | some l =>
      let lp := s.loop l
      if s.canopyOn p then .canopy
      else if lp.pp.burst = 2 ∨ ph.on = false ∨ ph.zeroSeen = false then .off
      else if lp.computes ∨ (lp.state = 0 ∧ ph.stopping) then .pulses (lp.state == 1 && lp.tg.noSink)
      else .off

/-- The balls of phase p follow its pulses. -/
def State.pulsing (s : State) (p : Nat) : Bool := match s.ballSource p with | .pulses _ => true | _ => false

/-- The levels that the part commands on PWMHq and PWMLq of phase p at the present time (R94, R176, R219). -/
def State.balls (s : State) (p : Nat) : Balls :=
  let c := (s.phase p).cfg
  match s.ballSource p with
  | .boundary => (some (bit s.pins.cells.1 p), some (bit s.pins.cells.2 p))
  | .unloaded => (none, none)
  | .off => c.ballsOff
  | .lowSides since => c.ballsLow ((32 * (s.now - since) : Nat) : Int) none
  | .halted => s.haltedBalls p
  | .canopy => s.canopyBalls p
  | .pulses noSink => s.pulseBalls p noSink

/-! ### Event taps (R178, R187) -/

/-- The events of the present period as decided so far: fine ticks after carrier zero, and the event: 1 top, 2 compare A, 3
compare B; B of a pulse that ran on to this zero counts where no pulse goes on from it. A and B count only where the balls follow the pulses (`shown`). -/
def Phase.events (ph : Phase) (shown : Bool) : List (Nat × Nat) :=
  if shown = false then [(32 * ph.cfg.half, 1)]
  else
  let meets := ph.ed.tail && decide ((ph.pulse.map (·.1)) = some 0)
  (if ph.ed.tail && !meets && (ph.ed.falling || ph.decided) then [(0, 3)] else []) ++ [(32 * ph.cfg.half, 1)] ++
    (match ph.pulse with
      | some (r, e) =>
        (if meets then [] else [(r, 2)]) ++ (if ph.ed.fall = some e ∧ e ≠ 64 * ph.cfg.half then [(e, 3)] else [])
      | none => [])

/-- The taps of a tile that watch an event of its phase q. -/
def tapsOf (words : List Nat) (q ev : Nat) : List Nat :=
  (List.range 8).filter (fun i => let w := words.getD i 0; bit w 4 && field w 6 2 == ev && field w 0 4 == q)

/-- One watched event reaches tap i with setting `w`; every PRESCALE-th gives a pulse. -/
def Tile.tapEvent (ti : Tile) (i w at_ : Nat) : Tile :=
  let n := ti.tapCount.get 0 i + 1
  if field w 8 8 + 1 ≤ n then
    { ti with
      tapCount := ti.tapCount.set 0 i 0, tapPulses := ti.tapPulses.upd 0 i (· + 1), tapAt := ti.tapAt.set 0 i at_ }
  else { ti with tapCount := ti.tapCount.set 0 i n }

/-- The tap settings of a tile. -/
def State.tapWords (s : State) (t : Nat) : List Nat := (List.range 8).map (fun i => s.ob (0x3802 + 16 * t) (i + 1))

/-- An event of phase p reaches the taps of its tile; a pulse triggers the entry that waits for it (R178, R304). -/
def State.tap (s : State) (p ev at_ : Nat) : State :=
  let t := p / 16
  let ws := s.tapWords t
  (tapsOf ws (p % 16) ev).foldl (fun s i =>
    let s1 := s.updTile t (fun ti => ti.tapEvent i (ws.getD i 0) at_)
    if field (ws.getD i 0) 8 8 ≤ (s.tile t).tapCount.get 0 i then s1.triggerTap t i at_ else s1) s

/-- Insert an event by its time: device time in fine ticks, phase, event. -/
def insertTap (e : Nat × Nat × Nat) : List (Nat × Nat × Nat) → List (Nat × Nat × Nat)
  | [] => [e]
  | x :: xs => if e.1 < x.1 then e :: x :: xs else x :: insertTap e xs

/-- The events of the phases of a tile up to the present time that have not reached the taps, in the order of their times. -/
def State.tapsDue (s : State) (t : Nat) : List (Nat × Nat × Nat) :=
  (((List.range 16).map (16 * t + ·)).flatMap (fun p =>
    let ph := s.phase p
    if ph.on && ph.zeroSeen && !ph.frozen then
      ((ph.events (s.pulsing p)).filter (fun e => decide (ph.tapTo ≤ e.1) && decide (e.1 ≤ 32 * (s.now - ph.zeroAt)))).map
        (fun e => (32 * ph.zeroAt + e.1, p, e.2))
    else [])).foldl (fun es e => insertTap e es) []

/-- The events of every phase of a tile up to the present time reach the taps. -/
def State.flushTile (s : State) (t : Nat) : State :=
  let s1 := (s.tapsDue t).foldl (fun s e => s.tap e.2.1 e.2.2 (e.1 / 32)) s
  { s1 with
    phases := s1.phases.updAll {} ((List.range 16).map (16 * t + ·)) (fun _ ph =>
      if ph.on && ph.zeroSeen && !ph.frozen then { ph with tapTo := Nat.max ph.tapTo (32 * (s.now - ph.zeroAt) + 1) } else ph) }

/-- The events of phase p up to the present time reach the taps, in order with those of its tile. -/
def State.flushTaps (s : State) (p : Nat) : State := s.flushTile (p / 16)

/-! ### Blanking windows (R173) -/

/-- Phases that SFLTk of tile t acts on: those of the tile held by the loop in slot k (R172). -/
def State.sfltPhases (s : State) (t k : Nat) : List Nat :=
  match s.heldAt t k with
  | some l => (s.phasesOf l).filter (fun p => p / 16 == t)
  | none => []

/-- The phases of a tile in a bitmap of local numbers. -/
def tilePhases (t mask : Nat) : List Nat := (bitsOf mask 16).map (16 * t + ·)

/-- The trip input TRIPn of tile t acts on these phases (R172). -/
def State.tripPhases (s : State) (t n : Nat) : List Nat := tilePhases t (s.ob (0x3800 + 16 * t) (5 + n))

/-- The phases that an input of tile t acts on (R172). -/
def State.inputPhases (s : State) (t : Nat) : TripInput → List Nat
  | .oc q => [16 * t + q]
  | .sflt k => s.sfltPhases t k
  | .trip n => s.tripPhases t n
  | .safeIn => s.phaseList

/-- The blanking value of an input that a phase has in use, fine ticks (R186, R188). -/
def PhaseCfg.blank (c : PhaseCfg) : TripInput → Int
  | .oc _ => ((32 * c.ocBlank : Nat) : Int)
  | .sflt _ => ((32 * c.sfltBlank : Nat) : Int)
  | .trip _ => ((32 * c.tripBlank : Nat) : Int)
  | .safeIn => ((32 * c.safeBlank : Nat) : Int)

/-- The number of an input's window. -/
def windowKey (t : Nat) : TripInput → Nat
  | .oc q => 16 * t + q
  | .sflt k => 128 + 4 * t + k
  | .trip n => 160 + 2 * t + n
  | .safeIn => 176

/-- The trip inputs that act on phase p, each with its tile. -/
def State.inputsOf (s : State) (p : Nat) : List (Nat × TripInput) :=
  let t := p / 16
  [(t, .oc (p % 16))] ++ ((List.range 4).filter (fun k => (s.sfltPhases t k).contains p)).map (fun k => (t, .sflt k)) ++
    (([0, 1]).filter (fun n => (s.tripPhases t n).contains p)).map (fun n => (t, .trip n)) ++ [(0, .safeIn)]

/-- The edges of the low-side window that begins at `a` and ends at `b`, where a pulse ends it, with the edge of the high side at
`a` where a pulse ended there (R160, R164, R167, R224). -/
def PhaseCfg.windowEdges (c : PhaseCfg) (noSink fell : Bool) (a : Int) (b : Option Int) : List Int :=
  let omitted : Bool := match b with | some r => c.omits (r - a) | none => false
  let high : List Int := if fell || (c.outMode != 1 && !noSink && !omitted) then [a] else []
  let low : List Int :=
    if c.outMode = 1 ∧ ¬noSink ∧ ¬omitted then (a + c.dead) :: (match b with | some r => [r - c.dead] | none => []) else []
  high ++ low

/-- The edges that the pulses of a phase make in its present carrier period, fine ticks after its carrier zero: those of the
low-side window before the pulse, of the pulse, and of the window after it; where two pulses meet there is none. -/
def State.pulseEdges (s : State) (p : Nat) (noSink : Bool) : List Int :=
  let ph := s.phase p
  let a := -ph.ed.lastFall
  let fell := decide (a ≠ 0) || ph.ed.tail
  match ph.pulse with
  | some (r, e) =>
    (if (r : Int) ≤ a then [] else ph.cfg.windowEdges noSink fell a (some r) ++ [(r : Int)]) ++
      (if s.nextRise p e = some (e : Int) then [] else ph.cfg.windowEdges noSink true e (s.nextRise p e))
  | none => ph.cfg.windowEdges noSink fell a (s.nextRise p a)

/-- The edges that Canopy makes on the balls of a phase, fine ticks of device time: on, in complementary mode one DEAD_TIME later,
and a truncation (R228, R229). -/
def Phase.canopyEdges (ph : Phase) : List Int :=
  let on : Int := ((32 * ph.actFrom : Nat) : Int)
  (if ph.actHigh then [] else [if ph.cfg.outMode = 1 then on + ph.cfg.dead else on]) ++
    (match ph.actCut with
      | some x => ((32 * x : Nat) : Int) :: (if ph.cfg.outMode = 1 then [((32 * x : Nat) : Int) + ph.cfg.dead] else [])
      | none => [])

/-- The edges of the two balls of a phase in its present carrier period, fine ticks of device time: the instant that the part
commands, and how long after it the balls follow: 4 ns for the edges of pulses, none through the asynchronous path (R159, R172,
R173, R177). While nothing drives the balls to switch there is none. -/
def State.edgePairs (s : State) (p : Nat) : List (Int × Int) :=
  let ph := s.phase p
  let base : Int := ((32 * ph.zeroAt : Nat) : Int)
  let own (noSink : Bool) : List (Int × Int) :=
    (s.pulseEdges p noSink).map (fun e =>
      if ph.ed.cut.map (fun c => (c : Int)) = some e ∧ ph.ed.fall.map (fun c => (c : Int)) ≠ some e then (base + e + 64, 0)
      else (base + e, 64))
  match s.ballSource p with
  | .pulses noSink => own noSink
  | .canopy =>
    (if ph.zeroSeen then (own false).filter (fun e => decide (e.1 + e.2 ≤ ((32 * ph.actFrom : Nat) : Int))) else []) ++
      ph.canopyEdges.map (·, 0)
  | _ => []

/-- The edges of the two balls of a phase as the balls show them, fine ticks of device time (R173). -/
def State.ballEdges (s : State) (p : Nat) : List Int := (s.edgePairs p).map (fun e => e.1 + e.2)

/-- Insert by time. -/
def insertEdge (e : Int × Int) : List (Int × Int) → List (Int × Int)
  | [] => [e]
  | x :: xs => if e.1 < x.1 then e :: x :: xs else x :: insertEdge e xs

/-- An edge with the blanking value of its phase (R173): none reopens a window for an edge within it or within 8 ns after
it. -/
def Window.edge (w : Window) (e blank : Int) : Window :=
  if blank ≤ 0 then w
  else match w.last with
    | some (o, len) => if e < o + len + 128 then w else { w with last := some (e, blank) }
    | none => { w with last := some (e, blank) }

/-- The window of an input as the edges up to a device time, fine ticks, leave it; edges at that very time count. -/
def State.windowAt (s : State) (t : Nat) (i : TripInput) (till : Int) : Window :=
  let w := s.windows.get {} (windowKey t i)
  let es := ((s.inputPhases t i).filter (fun p => decide (0 < (s.phase p).cfg.blank i))).flatMap (fun p =>
    ((s.ballEdges p).filter (fun e => decide (w.upTo < e) && decide (e ≤ till))).map (·, (s.phase p).cfg.blank i))
  { (es.foldl (fun es e => insertEdge e es) []).foldl (fun w e => w.edge e.1 e.2) w with upTo := max w.upTo till }

/-- The end of the window of an input that is open at a device time (R173), in PWM clocks; `none` when none is open. -/
def State.openUntil (s : State) (t : Nat) (i : TripInput) (at_ : Nat) : Option Nat :=
  match (s.windowAt t i ((32 * at_ : Nat) : Int)).last with
  | some (o, len) => if ((32 * at_ : Nat) : Int) < o + len then some ((o + len + 31).toNat / 32) else none
  | none => none

/-- The input condition comes inside an open blanking window (R173). -/
def State.blanked (s : State) (t : Nat) (i : TripInput) : Bool := (s.openUntil t i s.now).isSome

/-- The windows of the inputs that act on some phases are brought up to a device time; where the balls of a phase change
then, `now` says so, and that edge counts (R173). -/
def State.noteEdgesAt (s : State) (ps : List Nat) (at_ : Nat) (now : Nat → Bool) : State :=
  let inputs := (ps.flatMap s.inputsOf).eraseDups
  let t : Int := ((32 * at_ : Nat) : Int)
  { s with
    windows := inputs.foldl (fun ws i =>
      let w := s.windowAt i.1 i.2 t
      ws.set {} (windowKey i.1 i.2)
        ((ps.filter (fun p => now p && (s.inputPhases i.1 i.2).contains p)).foldl
          (fun w p => w.edge t ((s.phase p).cfg.blank i.2)) w)) s.windows }

/-- The windows of the inputs that act on some phases are brought up to the present time. -/
def State.noteEdges (s : State) (ps : List Nat) (now : Nat → Bool) : State := s.noteEdgesAt ps s.now now

/-- The balls of a phase are not off: an asynchronous turn-off makes an edge on them. -/
def State.ballsLive (s : State) (p : Nat) : Bool := s.balls p != (s.phase p).cfg.ballsOff && (s.balls p) != (none, none)

end Sys2Proof.Machine
end

