-- ==== Sys2Proof/Machine/Ops.lean ====
section
/-! DEFINITION. Shared operations on phases and loops: start and stop of phases, the end of lower-ranked mechanisms,
soft start, soft stop, trim-learning abort, and the queue of reactions (R160, R219 to R225, R208, R387 to R389). -/

namespace Sys2Proof.Machine

/-- A phase goes off and its counter stops; its run of truncated periods ends (R73, R94, R389). DUTY_IN_USE keeps the value of
the latest decision (R184). -/
def Phase.off (ph : Phase) : Phase :=
  { ph with
    on := false, stopping := false, zeroSeen := false, move := 0, reload := false, actKind := 0, actTo := none, actHigh := false
    actCut := none, tapTo := 0
    ed := { ph.ed with
      rise := none, fall := none, falling := false, skip := false, exact := 0, beyond := false, cut := none, tail := false
      wait := false, offWait := false, ahead := none }
    ct := { ph.ct with ocNow := false, ocRun := 0, badNow := false, badLast := false } }

/-- A phase starts switching: its first carrier zero is the next time congruent to its offset (R160); residue and
accumulator are cleared (R138, R168). -/
def Phase.start (ph : Phase) (now : Nat) (cfg : PhaseCfg) (offset : Nat) : Phase :=
  { ph with
    on := true, stopping := false, zeroSeen := false, offset := offset, move := 0, reload := false, tapTo := 0
    zeroAt := nextCongruent now offset (2 * cfg.half)
    cfg := cfg
    ed := { ph.ed with
      residue := 0, acc := 0, rise := none, fall := none, falling := false, skip := false, exact := 0, lastFall := 0
      beyond := false, cut := none, tail := false, wait := false, offWait := false, ahead := none, lastEdge := 0 }
    ct := { ph.ct with stuck := false, badNow := false, badLast := false, ocNow := false, ocRun := 0 } }

/-- A switching phase goes off at its first carrier zero from a time on (R93, R194, R225). -/
def Phase.stopFrom_ (ph : Phase) (t : Nat) : Phase := { ph with stopping := ph.on, stopFrom := t }

/-- No pulse before the next carrier zero, from which the phase starts with accumulator and residue cleared; the pulse of
this period, where there was one, has ended at `t`, fine ticks after carrier zero, at the latest. -/
def Phase.restart (ph : Phase) (t : Nat) : Phase :=
  { ph with
    ed := { ph.ed with
      residue := 0, acc := 0, rise := none, fall := none, falling := false, skip := false, exact := 0, cut := none
      tail := false, wait := true, ahead := none
      lastFall := match ph.pulse with
        | some (r, e) => if r ≤ t then -((Nat.min e t : Nat) : Int) else ph.ed.lastFall
        | none => ph.ed.lastFall } }

/-- Phases go off, their balls at an instant; what these did until then has reached blanking windows and event taps. -/
def State.phasesOffAt (s : State) (ps : List Nat) (at_ : Nat) : State :=
  let s1 := ps.foldl State.flushTaps (s.noteEdgesAt ps at_ s.ballsLive)
  { s1 with phases := s1.phases.updAll {} ps (fun _ ph => ph.off) }

/-- Phases go off at the present time. -/
def State.phasesOff (s : State) (ps : List Nat) : State := s.phasesOffAt ps s.now

/-- The active phases of a loop with a count, each with its offset on the grid of the committed period (R193, R196). -/
def State.spreadList (s : State) (l n : Nat) : List (Nat × Nat) :=
  (List.range (s.activeSet l n).length).map
    (fun i => ((s.activeSet l n).getD i 0, s.offsetOf l (s.nextPeriod l) i (s.activeSet l n).length))

/-- The part is in a mode in which outputs may switch (R94). -/
def State.running (s : State) : Bool := s.md.mode == .run

/-- The loop's phases start for a count (R160, R193), the others of the loop being off. -/
def State.startPhases (s : State) (l n : Nat) : State :=
  { s with
    phases := (s.spreadList l n).foldl
      (fun ps e => ps.upd {} e.1 (fun ph => ph.start s.now (s.phaseNow e.1) e.2)) s.phases }

/-- A count that bounds nothing: every phase of the part. -/
def noCap : Nat := 128

/-- min(C_level, BUDGET) for a level count (R191). -/
def State.capFor (s : State) (l c : Nat) : Nat := if s.lo l 0xC 7 = 0 then c else Nat.min c (s.lo l 0xC 7)

/-- N for min(C_level, BUDGET) and a thermal mark (R191). -/
def State.capCount (s : State) (l cap : Nat) (th : Option Nat) : Nat :=
  Nat.max 1 (Nat.min cap (s.enabledPhases l).length - b2n th.isSome)

/-- N for a level count and a thermal mark (R191). -/
def State.countFor (s : State) (l c : Nat) (th : Option Nat) : Nat := s.capCount l (s.capFor l c) th

/-- Soft-start count: min(BUDGET, E) − s_th, at least 1 (R192). -/
def State.softCount (s : State) (l : Nat) (th : Option Nat) : Nat := s.countFor l noCap th

/-- A decision of a count from min(C_level, BUDGET) and a thermal mark (R191, R199). -/
def State.decision (s : State) (l cap : Nat) (th : Option Nat) (before : Int) (start : Nat) (shed : Bool) : Decision :=
  { cap := cap, count := s.capCount l cap th, before := before, thermal := th, start := start, shed := shed }

/-- f limits of the clamp of u, 24 fraction bits: umin = DUTY_MIN / f rounded up, umax = DUTY_MAX / f rounded down, the
values of the format that lie within the limits (R123, DESIGN CHOICE, log entry 20). -/
def uMin (dmin f : Nat) : Int := ((dmin * 2 ^ 22 + (f - 1)) / f : Nat)
/-- Upper limit of u. -/
def uMax (dmax f : Nat) : Int := (dmax * 2 ^ 22 / f : Nat)

/-- u limited to the range of R123. -/
def State.clampU (s : State) (l : Nat) (u : Int) : Int :=
  let f := Nat.max 1 (s.loop l).cp.ff
  max (uMin (s.lo l 7 1) f) (min (uMax (s.lo l 7 2) f) u)

/-- Histories preset to u, errors and residue cleared (R222, R230). -/
def LoopComp.preset (c : LoopComp) (u : Int) : LoopComp :=
  { c with u1 := u, u2 := u, u3 := u, e1 := 0, e2 := 0, res := 0 }

/-- d of a value of u (R123), 2^-16 duty. -/
def dutyOfU (u : Int) (f dmin dmax : Nat) : Nat := (clampI (floorDiv (u * f + 2 ^ 21) (2 ^ 22)) dmin dmax).toNat

/-- Until the first command of a start is in use, the phases take that of the preset (R222, DEDUCED, log entry 94). -/
def LoopComp.startDuty (c : LoopComp) (dmin dmax : Nat) (u : Int) : LoopComp :=
  let d := dutyOfU u (Nat.max 1 c.ff) dmin dmax
  { c with duty := d, duty1 := d, duty2 := d }

/-- Mean of the latest samples times 1.5625, rounded down, in 0.25 mV (R222 step 1, R323). -/
def vMean (sum n : Nat) : Nat := if n = 0 then 0 else sum * 25 / (16 * n)

/-- V_pb of a loop (R222). -/
def State.prebias (s : State) (l : Nat) : Nat :=
  vMean ((s.loop l).sn.hist.foldl (· + ·) 0) (s.loop l).sn.hist.length

/-- V_bus in mV (R222 step 3). -/
def State.vBus (s : State) (l : Nat) : Nat := if s.lo l 0 0xC = 0 then s.lo l 0 0xA else 10 * s.lo l 0 0xC

/-- V_pb / V_bus at 24 fraction bits, ties away from zero (R222). -/
def State.uPreset (s : State) (l vpb : Nat) : Int :=
  s.clampU l (roundAway ((vpb * 2 ^ 24 : Nat) : Int) (4 * Nat.max 1 (s.vBus l)))

/-- Ramp step in 2^-16 units of 0.25 mV (R223): max(1, round(TARGET × 1,048.576 / RAMP)). -/
def rampStepOf (target rampUs : Nat) : Nat := Nat.max 1 (roundUp (target * 1048576) (1000 * Nat.max 1 rampUs))

/-- Trims of the learning phases from before the learning are in force again (R207, R208). -/
def State.restoreTrims (s : State) (l : Nat) : State :=
  { s with
    obj := (s.loop l).pp.learnPhases.foldl
      (fun o p => o.put (okey (phaseIdx p 1) 1) (ofInt 8 (s.phase p).tl.trimBefore)) s.obj }

/-- Learning runs on the loop (R206). -/
def State.learning (s : State) (l : Nat) : Bool := (s.loop l).pp.learn == 1 || (s.loop l).pp.learn == 2

/-- Learning aborts and restores the former trims (R208). -/
def State.abortLearn (s : State) (l : Nat) : State :=
  if s.learning l then
    let s1 := s.restoreTrims l
    let s2 := s1.updLoop l (fun lp => { lp with pp := { lp.pp with learn := 4, learnNo := false } })
    s2.loopReport srcReg l 0x030A 1 [4, (s.loop l).pp.learnIter]
  else s

/-- Ranks of the mechanisms in force on a loop that a mechanism of rank `rank` ends (R219): hiccup off-time, Canopy or
overshoot, a fired preview, burst. -/
def State.endedRanks (s : State) (l rank : Nat) : List Nat :=
  let lp := s.loop l
  ([(3, lp.state == 4), (5, lp.ac.action != 0), (6, !lp.pv.fired.isEmpty), (7, lp.pp.burst != 0)]).filterMap
    (fun e => if e.2 && decide (rank < e.1) then some e.1 else none)

/-! ### Burst exit (R213) -/

/-- The used levels of LOOP_SHED: number, threshold, count (R197). -/
def State.levels (s : State) (l : Nat) : List (Nat × Nat × Nat) :=
  (List.range 8).filterMap (fun i =>
    let v := s.lo l 0xC (8 + i)
    if v % 256 = 0 then none else some (i, v / 65536, v % 256))

/-- The highest used level, or −1 (R192). -/
def State.topLevel (s : State) (l : Nat) : Int :=
  (s.levels l).foldl (fun m e => max m (e.1 : Int)) (-1)

/-- Count of a level (R197): MIN_ACTIVE for −1; with the levels disabled every phase. -/
def State.levelCount (s : State) (l : Nat) (lam : Int) : Nat :=
  if s.lo l 0xC 1 = 0 then noCap
  else if lam < 0 then s.lo l 0xC 2
  else s.lo l 0xC (8 + lam.toNat) % 256

/-- The lowest used level whose count is at least EXIT_PHASES, or −1 (R213). -/
def State.exitLevel (s : State) (l : Nat) : Int :=
  match (s.levels l).find? (fun e => decide (s.lo l 0xD 0xA ≤ e.2.2)) with
  | some e => e.1
  | none => -1

/-- "Shed level change", where the level has changed (R405). -/
def State.levelRecord (s : State) (l : Nat) (old new : Int) (n : Nat) : State :=
  if old = new then s else s.loopReport srcReg l 0x0308 0 [ofInt 8 old, ofInt 8 new, n]

/-- Burst operation ends (R213): level of EXIT_PHASES, count at the next loop carrier boundary, record 0x0309. Exit
causes are coded in the order of R213: 1 preview, 2 Canopy, 3 ALLOW or ENABLE, 4 short sleeps, 5 higher precedence. A sleeping
phase switches again at once, within its running period (DESIGN CHOICE, log entry 147). -/
def State.endBurst (s : State) (l cause : Nat) : State :=
  if (s.loop l).pp.burst = 0 then s
  else
    let lam := s.exitLevel l
    let s1 := s.updLoop l (fun lp =>
      { lp with
        state := if lp.state = 3 then 2 else lp.state
        pp := { lp.pp with
          burst := 0, burstDwell := 0, burstFrom := none, shortSleeps := 0, level := lam, dwell := 0
          decided := [s.decision l (s.capFor l (s.levelCount l lam)) lp.pp.mark lp.pp.level s.now false] } })
    let s2 := s1.levelRecord l (s.loop l).pp.level lam (s.countFor l (s.levelCount l lam) (s.loop l).pp.mark)
    s2.loopReport srcReg l 0x0309 0 [2, cause]

/-- One "mechanism ended" record for each (R220). -/
def State.recordEnded (s : State) (l rank : Nat) : State :=
  (s.endedRanks l rank).foldl (fun s r => s.loopReport srcTrans l 0x0408 1 [rank, r]) s

/-- Canopy, overshoot, previews and burst of a loop are no more; no release action is carried out (R220, R225, R233). -/
def Loop.quiet (lp : Loop) : Loop :=
  { lp with
    ac := { lp.ac with action := 0, preset := none, actCfg := none }
    pv := { lp.pv with armed := none, fired := [] }
    pp := { lp.pp with burst := 0, burstDwell := 0, burstFrom := none, decided := [], entry := false, keep := false } }

/-- The loop leaves STATE 2 and 3 (or 1, 4, 5) for a state in which its phases are off. -/
def Loop.halt (lp : Loop) (st : Nat) : Loop :=
  { lp.quiet with
    state := st
    tg := { lp.tg with moving := false, holdAbove := false }
    pr := { lp.pr with uvCond := false, uvReport := false, inHiccup := false, own := [] }
    pp := { lp.quiet.pp with active := 0 } }

/-- Plausibility of a loop stops: its comparators are held inactive and its timer is cleared (R321). -/
def State.plausStop (s : State) (l : Nat) : State :=
  let j := s.lo l 0x13 7
  if j = 0xFF then s
  else
    let off (k : Comp) : Comp := { k with output := false }
    ((s.updComp (s.anchor l) (24 + 2 * j) off).updComp (s.anchor l) (25 + 2 * j) off).updLoop l (fun lp =>
      { lp with pr := { lp.pr with plaus := if lp.pr.plaus = 3 then 3 else 0, plausSince := 0 } })

/-- Every phase of the loop goes off, its balls at an instant, and the loop enters a state (R225, R239, R240, R243, R440). -/
def State.loopOffAt (s : State) (l st at_ : Nat) : State :=
  let s1 := ((s.abortLearn l).plausStop l).phasesOffAt (s.phasesOf l) at_
  s1.updLoop l (fun lp => lp.halt st)

/-- The same at the present time. -/
def State.loopOff (s : State) (l st : Nat) : State := s.loopOffAt l st s.now

/-- The loops of a tile whose lane level is wrong are owned by the dictionary (R49). -/
def State.dictOwns (s : State) (t : Nat) : State :=
  (s.loopList.filter (fun l => s.anchor l == t && s.lo l 0 8 == 1)).foldl (fun s l => s.put (loopIdx l 0) 8 0) s

/-- The loops of every tile with a wrong lane level are owned by the dictionary (R49). -/
def State.ownersLook (s : State) : State :=
  (s.tileList.filter (fun t => (s.tile t).laneLevelFault)).foldl State.dictOwns s

/-- Soft start of a loop: STATE 1, pre-bias, preset, ramp, phases (R222, R223, R192). -/
def State.softStart (s : State) (l : Nat) : State :=
  let s0 := s.updLoop l (fun lp =>
    { lp with
      origin := s.syncFor l
      cp := { lp.cp with ff := 0x4000, ffSeen := false, ffLatched := none, ffActive := false } })
  let vpb := s0.prebias l
  let target := s0.lo l 1 1
  let u := s0.uPreset l vpb
  let th := (s.loop l).pp.mark
  let n := s0.softCount l th
  let s1 := s0.updLoop l (fun lp =>
    { lp.quiet with
      state := 1
      tg := { lp.tg with
        target := target, prebias := vpb, ref := Nat.min vpb target * 65536, moving := true
        holdAbove := decide (target < vpb), startAt := s.now, rampStep := rampStepOf target (s.lo l 9 1)
        onRamp := s.lo l 9 1, noSink := s.lo l 9 4 == 1, rateInUse := s.lo l 2 1 }
      cp := (lp.cp.preset u).startDuty (s0.lo l 7 1) (s0.lo l 7 2) u
      pp := { lp.quiet.pp with active := n, cap := s0.capFor l noCap, thermal := th } })
  s1.startPhases l n

/-- Fine ticks from the carrier zero of a phase to the instant of its pulses that its balls show at a device time (R159). -/
def Phase.ballTicks (ph : Phase) (t : Nat) : Nat := 32 * (t - ph.zeroAt) - 64

/-- An action ends without its release (R220, R225): no preset; accumulator and residue stay. -/
def Phase.endAct (ph : Phase) (at_ : Nat) : Phase :=
  if ph.actAt at_ = 1 then
    { ph with
      actTo := some at_
      ed := { ph.ed with
        rise := none, fall := none, falling := false, skip := false, cut := none, tail := false, wait := true, ahead := none
        lastFall := -((ph.ballTicks (ph.actCut.getD at_) : Nat) : Int) } }
  else { ph with actTo := some at_ }

/-- Soft stop of a loop (R225): STATE 5 with a ramp, or off at once with OFF_MODE 1; a Canopy, overshoot or preview in
force ends with one record of rank 0. A waiting automatic restart is cancelled (R244). A loop in its hiccup off-time goes to
STATE 0 at once, whatever OFF_MODE is (DESIGN CHOICE, log entry 122). -/
def State.softStop (s : State) (l : Nat) : State :=
  let lp := s.loop l
  if lp.state = 0 ∨ lp.state = 6 ∨ lp.state = 7 then
    s.updLoop l (fun lp => { lp with pr := { lp.pr with otRestart := false } })
  else
    let ended := (s.endedRanks l 4).filter (· != 7)
    let s1 := if ended.isEmpty then s else s.loopReport srcTrans l 0x0408 1 [0, ended.headD 0]
    if s.lo l 9 2 = 1 ∨ lp.state = 4 then s1.loopOffAt l 0 (s.now + 1)
    else
      let s2 := (((s1.abortLearn l).plausStop l).endBurst l 5).noteEdges (s.phasesOf l) s.canopyOn
      let s3 : State := { s2 with phases := s2.phases.updAll {} (s.phasesOf l) (fun _ ph => ph.endAct s.now) }
      s3.updLoop l (fun lp =>
        { lp.quiet with
          state := 5
          pp := { lp.quiet.pp with decided := lp.pp.decided }
          tg := { lp.tg with
            holdAbove := false, moving := true
            rampStep := rampStepOf (lp.tg.target) (s.lo l 9 3) }
          pr := { lp.pr with uvCond := false, uvReport := false, inHiccup := false } })

/-! ### The queue of reactions (R387 to R389) -/

/-- The target number of a loop: its loop rail (R387). -/
def loopTarget (l : Nat) : Nat := 128 + l

/-- A target. -/
def State.target (s : State) (n : Nat) : Target := s.ev.targets.get {} n

/-- Change a target. -/
def State.updTarget (s : State) (n : Nat) (f : Target → Target) : State :=
  { s with ev := { s.ev with targets := s.ev.targets.upd {} n f } }

/-- A reaction may start now: none is in progress, or it has the higher severity (R388). -/
def State.admits (s : State) (n sev : Nat) : Bool :=
  match (s.target n).cur with
  | none => true
  | some c => decide (c.sev < sev)

/-- The reaction is in progress. -/
def State.begin (s : State) (n sev code : Nat) : State := s.updTarget n (fun t => { t with cur := some ⟨sev, code⟩ })

/-- The reaction in progress has ended. -/
def State.finish (s : State) (n : Nat) : State := s.updTarget n (fun t => { t with cur := none })

/-- A hiccup in progress on a target ends where it stands, and its remaining steps are not carried out (R387, R388). -/
def State.endHiccup (s : State) (n : Nat) : State :=
  match (s.target n).cur, railLoop n with
  | some r, some l =>
    if r.code = 0x0501 then
      (s.updLoop l (fun lp =>
        { lp with state := if lp.state = 4 then 0 else lp.state, pr := { lp.pr with inHiccup := false } })).finish n
    else s
  | _, _ => s

/-- Insert by severity, highest first, later reactions behind earlier ones (R389). -/
def insertReaction (r : Reaction) : List Reaction → List Reaction
  | [] => [r]
  | q :: qs => if q.sev < r.sev then r :: q :: qs else q :: insertReaction r qs

/-- A reaction joins the queue of four; with a full queue it merges into the last entry (R389). -/
def enqueue (q : List Reaction) (r : Reaction) : List Reaction :=
  if q.length < 4 then insertReaction r q
  else match q.getLast? with
    | none => [r]
    | some z => insertReaction (if z.sev < r.sev then r else z) q.dropLast

/-- A reaction is queued. -/
def State.queueReaction (s : State) (n sev code : Nat) : State :=
  s.updTarget n (fun t => { t with queue := enqueue t.queue ⟨sev, code⟩ })

/-- "Reaction dropped" (R389). -/
def State.dropped (s : State) (n code : Nat) : State :=
  match railLoop n with
  | some l => s.loopReport srcProt l 0x0A05 0 (two code)
  | none => s.railReport n 0x0A05 0 (two code)

/-- A reaction that ends the target's activity empties the queue with one record per entry (R389). -/
def State.flush (s : State) (n : Nat) : State :=
  let s1 := (s.target n).queue.foldl (fun s r => s.dropped n r.code) s
  s1.updTarget n (fun t => { t with queue := [] })

end Sys2Proof.Machine
end

