-- ==== Sys2Proof/Machine/RailOps.lean ====
section
/-! DEFINITION. Shared operations of the rail sequencer: good and discharge conditions, turning a rail on and off,
failure, kept-off dependants, the work of a state, reversal and the shutdown's end (R345 to R369). -/

namespace Sys2Proof.Machine

/-! ### Conditions -/

/-- The loop rail's good condition: STATE 2 or 3 and V_f within the window around ref (R348). -/
def State.loopGood (s : State) (l : Nat) : Bool :=
  let lp := s.loop l
  let n := 128 + l
  (lp.state == 2 || lp.state == 3) && decide (lp.tg.ref ≤ (lp.sn.vf + s.rr n 2 2) * 65536) &&
    decide (lp.sn.vf * 65536 ≤ lp.tg.ref + s.rr n 2 1 * 65536)

/-- The good condition of a rail (R348): of a loop rail, that of the last sequencer tick. -/
def State.goodCond (s : State) (n : Nat) : Bool :=
  if 128 ≤ n then (s.rail n).tickGood
  else
    let g := s.rr n 0 5
    if g % 4 = 0 then decide ((s.rail n).rampEnd ≤ s.now)
    else
      (!bit g 0 || s.pins.pg.get false n) &&
      (!bit g 1 || (!(s.comp (n / 16) (24 + 2 * (n % 16))).output && !(s.comp (n / 16) (25 + 2 * (n % 16))).output))

/-- State number and direction of a tile (R349, R355). -/
def State.tilePos (s : State) (t : Nat) : Nat × Nat := (s.seq.tileState.get none t).getD (s.seq.state, s.seq.dir)

/-- The state number of a tile. -/
def State.tileSt (s : State) (t : Nat) : Nat := (s.tilePos t).1

/-- The direction of a tile: 0 none, 1 upward, 3 downward. -/
def State.tileDir (s : State) (t : Nat) : Nat := (s.tilePos t).2

/-- The tile of a rail goes downward (R349, R353). -/
def State.railDown (s : State) (n : Nat) : Bool := s.tileDir (s.railTile n) == 3

/-- The discharge condition of a rail that is off (R364); going down, a loop rail whose loop is in STATE 6 or 7 counts as
discharged (R367). -/
def State.dischargeCond (s : State) (n : Nat) : Bool :=
  match railLoop n with
  | some l =>
    let lp := s.loop l
    (s.railDown n && (lp.state == 7 || lp.state == 6)) || (lp.state == 0 && decide (lp.sn.vf < s.rr n 2 3))
  | none =>
    let g := s.rr n 0 5
    if bit g 1 then (s.comp (n / 16) (25 + 2 * (n % 16))).output
    else if bit g 0 then !s.pins.pg.get false n
    else true

/-- The rails a tile's sequencer handles (R345). -/
def State.railsOf (s : State) (t : Nat) : List Nat := s.railList.filter (fun n => s.sequenced n && s.railTile n == t)

/-- The sequence is in its upward direction (R350). -/
def State.upward (s : State) : Bool := s.seq.dir == 1

/-- A tile is in the upward direction at TOP_STATE (R350). -/
def State.topAt (s : State) (t : Nat) : Bool := s.tileDir t == 1 && decide (s.ob 0x4300 1 ≤ s.tileSt t)

/-- A rail of the state in which its tile is (R351, R357, R367). -/
def State.inTurn (s : State) (n : Nat) : Bool := s.sequenced n && s.rr n 0 2 == s.tileSt (s.railTile n)

/-- The work of one rail in the present state and direction of its tile is done (R351); a group shutdown leaves none, since
it does not move TRELLIS (R363). -/
def State.railDone (s : State) (n : Nat) : Bool :=
  let r := s.rail n
  if s.tileDir (s.railTile n) = 1 then
    r.status == 4 || r.status == 5 || r.status == 8 || r.status == 9 || r.status == 10 || r.groupOf.isSome
  else r.discharged && !r.on

/-- The work of tile t in its present state is done (R351). A failed tile has none (DESIGN CHOICE, log entry 128). -/
def State.workDone (s : State) (t : Nat) : Bool :=
  (s.tile t).state == 2 || (s.railList.filter (fun n => s.inTurn n && s.railTile n == t)).all s.railDone

/-- A tile holds TRELLIS low whatever its work: outside RUN and a teardown, during a local shutdown, in recovery, and at
state 0 of a system reset (R25, R92, R356, R366). -/
def State.mustHold (s : State) (t : Nat) : Bool :=
  !(s.md.mode == .run || (s.md.mode == .hold && !s.md.tornDown)) || s.seq.local_ || (s.tile t).state == 1 ||
    s.seq.sysreset == 2 || s.seq.sysreset == 3

/-- The rising edge of the line: the instant from which neither the part's tiles nor another participant hold it low, where
the tiles have released it (R349). -/
def State.edgeAt (s : State) : Option Nat := s.seq.freeAt.map (Nat.max · s.seq.others)

/-- The line has risen with tile t at TOP_STATE: the sequence is up there, and no retry moves TRELLIS any more (R350,
R362). -/
def State.wentUp (s : State) (t : Nat) : Bool :=
  s.topAt t && !s.seq.reversing && (match s.edgeAt with | some e => decide (e ≤ s.now) | none => false)

/-- A tile holds TRELLIS low; a requested reversal stops its hold for upward work (R351, R352). -/
def State.tileHolds (s : State) (t : Nat) : Bool :=
  s.mustHold t ||
    (if s.tileDir t = 1 then !s.seq.reversing && !s.workDone t && !s.wentUp t else s.tileSt t != 0 && !s.workDone t)

/-- Every tile of the part has released the line, its marks and the hold of a reversal apart. -/
def State.released (s : State) : Bool := s.tileList.all (fun t => !s.tileHolds t)

/-- Tile 0 is at TOP_STATE in the upward direction (R350, R376). -/
def State.atTop (s : State) : Bool := s.topAt 0

/-- The start of the hold of the reversal that the part has requested, where it is known (R352): the request at TOP_STATE;
below it 0.5 µs after the rising edge, or the request where that lies up to 1.5 µs after the edge (the instant within the
spec's ranges is a DESIGN CHOICE, log entry 129). -/
def State.holdAt (s : State) : Option Nat :=
  if s.seq.reversing = false then none
  else if s.atTop then some s.seq.revAt
  else match s.edgeAt with
    | none => none
    | some e =>
      if s.seq.revAt < e then some (e + 250)
      else if s.seq.revAt ≤ e + 750 then some (Nat.max s.seq.revAt (e + 250))
      else none

/-- The part holds the line low for its reversal (R352). -/
def State.holding (s : State) : Bool := match s.holdAt with | some h => decide (h ≤ s.now) | none => false

/-- Tile t drives TRELLIS low: its hold, the mark of 2 µs from 0.5 µs after an advance, or the hold of a reversal (R349,
R351, R352). -/
def State.tileLow (s : State) (t : Nat) : Bool :=
  s.mustHold t || (!decide (s.now + 1000 < s.seq.markEnd) && (s.tileHolds t || decide (s.now < s.seq.markEnd) || s.holding))

/-- SEQ_STATE:04 (R376). -/
def State.holdingTiles (s : State) : Nat := bitmap (s.tileList.filter s.tileLow)

/-- TRELLIS is high: every participant releases it (R349). -/
def State.lineHigh (s : State) : Bool := s.holdingTiles == 0 && decide (s.seq.others ≤ s.now)

/-- The sequence is up: the line is high at TOP_STATE (R350). -/
def State.isUp (s : State) : Bool :=
  s.md.mode == .run && s.atTop && !s.seq.reversing && s.lineHigh && decide (s.seq.markEnd ≤ s.now)

/-- The tiles' work and holds are looked at: when the work was done, and since when the part releases the line (R351). -/
def State.noteLine (s : State) : State :=
  { s with
    seq := { s.seq with
      doneAt := s.seq.doneAt.updAll none s.tileList (fun t d => if s.workDone t then some (d.getD s.now) else none)
      freeAt := if s.released then some (s.seq.freeAt.getD (Nat.max s.now s.seq.markEnd)) else none } }

/-- A rail counts as failed for its children: failed, kept off, off by group shutdown, or not sequenced (R345, R357, R363). -/
def State.parentFailed (s : State) (n : Nat) : Bool :=
  !s.sequenced n || (s.rail n).status == 8 || (s.rail n).status == 9 || (s.rail n).status == 10

/-- The parent is declared good, and known so on the rail's tile (R357). -/
def State.parentGood (s : State) (n p : Nat) : Bool :=
  (s.rail p).declared && (s.railTile p == s.railTile n || (s.rail n).knownGood.contains (p, (s.rail p).goodAt))

/-- The management path from the parent's tile to the rail's tile is faulty (R283, R357). -/
def State.pathFault (s : State) (n p : Nat) : Bool := bit s.link.mgmtFault (8 * s.railTile n + s.railTile p)

/-! ### Failure records (R369) -/

/-- The record of a failure. -/
def State.failRec (s : State) (rail st cause : Nat) : FailRec :=
  { valid := true, rail := rail, state := st, cause := cause, time := s.now, timeRx := s.clk.timeRx }

/-- The fields of a failure record as objects (R377). -/
def FailRec.values (r : FailRec) (idx : Nat) : List (Nat × Nat) :=
  [(okey idx 1, b2n r.valid), (okey idx 2, r.rail), (okey idx 3, r.state), (okey idx 4, r.cause), (okey idx 5, r.time),
   (okey idx 6, r.timeRx)]

/-- A failure is written to SEQ_LAST_FAIL, and to SEQ_FIRST_FAIL when that is empty; both live in tile 0's Cellar (R369,
R418). -/
def State.failed (s : State) (rail st cause : Nat) : State :=
  let r := s.failRec rail st cause
  let s1 : State :=
    { s with seq := { s.seq with last := r, first := if s.seq.first.valid then s.seq.first else r } }
  let s2 := s1.cellWrite 0 22 (r.values 0x4303) 0x4303
  if s.seq.first.valid then s2 else s2.cellWrite 0 21 (r.values 0x4302) 0x4302

/-! ### Turning rails on and off (R347) -/

/-- The turn-on of a rail; a loop rail starts its loop unless that is latched off or in its safe state; a soft stop that
still runs ends (R222, R240, R347, R357, R358; the last is a DESIGN CHOICE, log entry 128). -/
def State.railOn (s : State) (n : Nat) : State :=
  let was := s.goodCond n && (s.rr n 0 5 % 4 != 0 || decide (128 ≤ n))
  let retry := (s.rail n).retryStep == 3 || (s.rail n).retryStep == 4
  let s1 := s.updRail n (fun r =>
    { r with
      on := true, onAt := s.now, declared := false, settling := false, settled := false, good := was, discharged := false
      rampEnd := s.railEnd n s.now (s.rr n 1 3), otWait := false, filtering := false, dropDue := 0, badEnd := none
      deadlineEnd := s.railEnd n s.now (s.rr n 1 5), noDeadline := false
      status := if retry then 6 else 2
      lastCause := if was then 11 else r.lastCause
      retryStep := if retry then 4 else 0 })
  let s2 := if was then s1.railReport n 0x0903 2 [] else s1
  match railLoop n with
  | some l =>
    if (s.loop l).state = 0 then s2.softStart l
    else if (s.loop l).state = 5 then (s2.loopOff l 0).softStart l
    else s2
  | none => s2

/-- A rail that goes off now is discharged at once: one without a good source, and going down a loop rail whose loop is in
STATE 6 or 7 (R364, R367). -/
def State.emptyAtOnce (s : State) (n : Nat) : Bool :=
  match railLoop n with
  | some l => s.railDown n && ((s.loop l).state == 6 || (s.loop l).state == 7)
  | none => s.rr n 0 5 % 4 == 0

/-- A rail goes off: EN low, or the loop's soft stop; `st` is the status it shows (R347, R364). -/
def State.railOff (s : State) (n st : Nat) : State :=
  if (s.rail n).on then
    let s1 := s.updRail n (fun r =>
      { r with
        on := false, offAt := s.now, declared := false, settling := false, settled := false, good := false
        discharged := s.emptyAtOnce n
        dischargedAt := if s.emptyAtOnce n then s.now else r.dischargedAt
        dischargeEnd := s.railEnd n s.now (s.rr n 1 6)
        status := st, dropEnds := [], dropDue := 0, badEnd := none, filtering := false })
    match railLoop n with
    | some l => (s1.endHiccup n).softStop l
    | none => s1
  else s.updRail n (fun r => { r with status := st, declared := false, settling := false, settled := false })

/-- The rail is kept off with a cause; one that is on is shut down (R359, R357). -/
def State.keptOff (s : State) (n cause : Nat) : State :=
  let s1 := s.railOff n 9
  s1.updRail n (fun r => { r with lastCause := cause, retryStep := 0, retryOf := none })

/-- A rail is to be kept off: EN of a tile whose processor recovers holds its level, so there it waits (R25, R370). -/
def State.keepOff (s : State) (n cause : Nat) : State :=
  if (s.tile (s.railTile n)).state = 1 then
    s.updTile (s.railTile n) (fun ti => { ti with waiting := ti.waiting ++ [.keepOff n cause] })
  else s.keptOff n cause

/-- Every dependant of a rail, transitively, is kept off (R359). -/
def State.keepDependants (s : State) (n : Nat) : State := (s.dependants n).foldl (fun s m => s.keepOff m 2) s

/-- The reaction that the failure of a rail ends: not the safe state or the latch-off of its loop, which last until they are
cleared (R387). -/
def State.railEnds (s : State) (n : Nat) : State :=
  match railLoop n with
  | some l => if (s.loop l).state = 6 ∨ (s.loop l).state = 7 then s else s.finish n
  | none => s.finish n

/-- A rail fails: off, status 8, its cause, its dependants kept off, the reaction of its target ended (R359, R362). -/
def State.failRail (s : State) (n cause code : Nat) (data : List Nat) : State :=
  let s1 := s.railOff n 8
  let s2 := s1.updRail n (fun r => { r with lastCause := cause, retryStep := 0, retryOf := none })
  let s3 := (s2.railReport n code 3 data).failed n (s.rr n 0 2) cause
  let s4 := (s3.keepDependants n).flush n
  (s4.railEnds n).noteLine

/-- At the deadline of a loop rail every phase of its loop goes off at once: STATE 0 (R241). -/
def State.loopDown (s : State) (n : Nat) : State :=
  match railLoop n with
  | some l => if (s.loop l).state = 6 ∨ (s.loop l).state = 7 then s else s.loopOff l 0
  | none => s

/-! ### Mode entries (R91, R101) -/

/-- Mode codes (R91). -/
def Mode.code : Mode → Nat
  | .reset => 0 | .configure => 1 | .standby => 2 | .run => 3 | .hold => 4 | .service => 5

/-- NMT state that a mode entry sets on both channels (R91). -/
def Mode.nmt : Mode → Nmt
  | .run => .operational
  | .hold => .stopped
  | .reset => .none
  | _ => .preOperational

/-- The boot-up message of a channel that is enabled (R91, R95, R110). -/
def NetGrp.bootUp (n : NetGrp) (c : CanChan) : NetGrp :=
  let on := match c with | .a => n.enA | .b => n.enB
  if on then { n with sent := .bootUp c :: n.sent } else n

/-- Enter a mode: mode, cause, substate, NMT (in CONFIGURE after a boot-up message) and the mode record (R91, R101,
R112). -/
def State.enterMode (s : State) (m : Mode) (cause sub : Nat) : State :=
  let s0 := if s.md.mode = .run then (s.loopList.filter s.enabled).foldl State.plausStop s else s
  let n := if m = .configure then (s.net.bootUp .a).bootUp .b else s.net
  let s1 : State :=
    { s0 with
      md := { s.md with mode := m, lastCause := cause, substate := sub }
      net := { n with nmtA := m.nmt, nmtB := m.nmt } }
  s1.report 0 srcMode 0x0001 0 0xFFFF [s.md.mode.code, m.code, cause]

/-- The phases that PHASE_MANUAL lets switch now (R93). -/
def State.manualPhases (s : State) : List Nat := s.phaseList.filter (fun p => s.manual p && s.po p 7 1 != 0)

/-- Manual phases that do not switch yet start at their first carrier zero (R93, R160). -/
def State.startManual (s : State) : State :=
  { s with
    phases := s.phases.updAll {} (s.manualPhases.filter (fun p => !(s.phase p).on))
      (fun p ph => ph.start s.now (s.phaseNow p) 0) }

/-- Every phase that switches by its manual duty goes off (R94). -/
def State.stopManual (s : State) : State := s.phasesOff (s.phaseList.filter (fun p => s.manual p && (s.phase p).on))

/-- After a change of LOOP_CFG: a phase that has come into a loop is manual no more and goes off, one that has left its loop
takes up its manual duty (R93). The loop was stopped, so no other phase of it switches. -/
def State.manualLook (s : State) : State :=
  (s.phasesOff (s.phaseList.filter (fun p =>
    (s.phase p).on && !s.manual p && (match s.loopOf p with
      | some l => (s.loop l).state == 0 && !(s.phase p).stopping
      | none => false)))).startManual

/-- No rail reaction is in progress on any target any more (R363, R366, R370). -/
def EvGrp.endRailReactions (e : EvGrp) (ns : List Nat) : EvGrp :=
  { e with
    targets := e.targets.updAll {} ns (fun _ t =>
      match t.cur with
      | some r => if r.code == 0x0905 then { t with cur := none } else t
      | none => t) }

/-- A loop rail whose loop is in STATE 7 through a severity-5 cause counts as failed (R443). -/
def State.railInSafe (s : State) (n : Nat) : Bool :=
  match railLoop n with
  | some l => (s.loop l).state == 7 && (s.loop l).pr.safeSev == 5
  | none => false

/-- The power-up of the sequence starts from state 0: failed, kept-off and group-off rails are off again (R357, R363), but
for the loop rails of loops in a severity-5 safe state (R443). -/
def State.seqStart (s : State) : State :=
  ({ s with
    seq := { s.seq with
      state := 0, dir := 1, local_ := false, reversing := false, sysreset := 0, tileState := []
      freeAt := none, doneAt := [], stuck := false, resetBy := none }
    md := { s.md with substate := 2, downCause := none }
    ev := s.ev.endRailReactions s.railList
    rails := s.rails.updAll {} s.railList (fun n r =>
      { r with
        status := if (r.status == 8 || r.status == 9 || r.status == 10) && !s.railInSafe n then 0 else r.status
        knownGood := [], groupOf := none, retryStep := 0, retryOf := none }) } : State).noteLine

/-- RUN begins: the sequencer starts from state 0, no participant being known to hold the line, and manual phases switch
(R104, R93). -/
def State.enterRun (s : State) (cause : Nat) : State :=
  let s1 := (s.enterMode .run cause 2).tally s.tileList 2
  ({ s1 with seq := { s1.seq with markEnd := s.now, others := 0 } } : State).seqStart.startManual

/-- The sequence is at rest in state 0: the line held low, every enable low, those of a failed tile too, and no RESET_OUT
pulse (R92, R94, R353). LOCAL keeps what the shutdown was (R356). -/
def State.seqRest (s : State) : State :=
  let s1 : State :=
    { s with
      seq := { s.seq with
        dir := 0, reversing := false, sysreset := 0, pulse := false, tileState := [], freeAt := none, doneAt := []
        stuck := false, resetBy := none }
      ev := s.ev.endRailReactions s.railList }
  (s1.railList.filter (fun n => (s1.rail n).on)).foldl (fun s n => s.railOff n 0) s1

/-- RUN is left for STANDBY (R106, R107). -/
def State.leaveRun (s : State) (cause sub : Nat) : State := (s.stopManual.enterMode .standby cause sub).seqRest

/-- What happens at state 0 of a shutdown, by its cause (R368, R366, R108, R105). -/
def State.atStateZero (s : State) : State :=
  let s1 : State :=
    { s with
      seq := { s.seq with state := 0, dir := 0, reversing := false, tileState := [], freeAt := none, doneAt := [] }
      md := { s.md with state0At := s.now } }
  match s.md.downCause with
  | some .hold => ({ s1 with md := { s1.md with tornDown := true, substate := 7 } } : State).seqRest
  | some .stop => s1.leaveRun 8 0
  | some .vinLoss =>
    let again := s.ob 0x2000 0x0A == 1
    let s2 := s1.leaveRun 9 (if again then 5 else 0)
    { s2 with md := { s2.md with restartWait := again } }
  | some .systemReset =>
    { s1 with
      seq := { s1.seq with sysreset := 2, sysresetAt := s.now, pulse := true, local_ := false }
      md := { s1.md with substate := 5 } }
  | some .extReversal => if s.ob 0x4300 4 = 1 then s1.leaveRun 8 0 else s1.seqStart
  | none => s1

/-- The OFF_DELAY of every rail of the state that a tile has entered downward begins (R367). -/
def State.offStart (s : State) : State :=
  { s with
    rails := s.rails.updAll {} (s.railList.filter (fun n => s.railDown n && s.inTurn n)) (fun n r => { r with offEnd := s.railEnd n s.now (s.rr n 1 2) }) }

/-- Every tile is at state 0 (R353). -/
def State.allZero (s : State) : Bool := s.tileList.all (fun t => s.tileSt t == 0)

/-- The rails of the state that a tile has entered upward wait for their turn-on: their ON_DELAY begins (R357, R374). A
requested reversal lets none wait (R352). -/
def State.waitAt (s : State) : State :=
  if s.seq.reversing then s
  else
    { s with
      rails := s.rails.updAll {} (s.railList.filter (fun n => s.tileDir (s.railTile n) == 1 && s.inTurn n)) (fun n r =>
        if r.status == 0 then { r with status := 1, onEnd := s.railEnd n s.now (s.rr n 1 1) } else r) }

/-- What an advance makes of a state number and a direction with a TOP_STATE (R350, R353). -/
def posNext (top : Nat) (p : Nat × Nat) : Nat × Nat :=
  if p.2 = 1 then (if top ≤ p.1 then p else (p.1 + 1, 1)) else if p.2 = 3 then (p.1 - 1, 3) else p

/-- Each tile steps from its own state in its own direction (R350, R353, R355). -/
def State.stepTiles (s : State) : State :=
  { s with
    seq := { s.seq with
      state := (posNext (s.ob 0x4300 1) (s.seq.state, s.seq.dir)).1, doneAt := [], freeAt := none
      tileState := s.seq.tileState.updAll none s.tileList (fun _ o => o.map (posNext (s.ob 0x4300 1))) } }

/-- A step of the sequence: with every tile at state 0 a shutdown ends; else the delays of the rails in turn begin (R353,
R357, R367). -/
def State.seqStep (s : State) : State :=
  let s1 := s.stepTiles
  if s1.allZero then s1.atStateZero else s1.offStart.waitAt

/-- A local shutdown steps down through every state whose work is done (R356). -/
def State.localSteps (s : State) : Nat → State
  | 0 => s
  | k + 1 =>
    if s.seq.local_ && s.seq.dir == 3 && s.tileList.all s.workDone then s.seqStep.localSteps k else s

/-- After a rail's work has moved on: a local shutdown steps, and the holds of the line are looked at. -/
def State.progress (s : State) : State := (if s.seq.local_ then s.localSteps 256 else s).noteLine

/-! ### Reversal (R352) -/

/-- How far a shutdown cause leaves the part stopped (R368). -/
def DownCause.rank : DownCause → Nat
  | .extReversal => 0 | .systemReset => 1 | .vinLoss => 2 | .stop => 3 | .hold => 4

/-- The cause that leaves the part most fully stopped (R368). -/
def worse (a : Option DownCause) (b : DownCause) : Option DownCause :=
  match a with
  | none => some b
  | some c => some (if c.rank < b.rank then b else c)

/-- The downward direction begins at the present state; waiting rails are off, retries and group shutdowns end (R352, R367,
R370). -/
def State.turnDown (s : State) : State :=
  ({ s with
    seq := { s.seq with
      dir := 3, reversing := false, stuck := false, markEnd := s.now, freeAt := none, doneAt := []
      tileState := s.seq.tileState.updAll none s.tileList (fun _ o => o.map (fun p => (p.1, 3))) }
    ev := s.ev.endRailReactions (s.railList.filter (fun n => s.seq.resetBy != some n))
    rails := s.rails.updAll {} s.railList (fun _ r =>
      { r with
        status := if r.status == 1 then 0 else if r.status == 6 && !r.on then (if r.discharged then 0 else 7) else r.status
        retryStep := 0, retryOf := none, groupOf := none }) } : State).offStart

/-- The part requests a shutdown: a reversal, or the end at once where the sequence is still at state 0; in the
downward direction only the cause joins (R352, R106, R107, R368). -/
def State.requestDown (s : State) (c : DownCause) : State :=
  let sub := if c = .hold then 6 else 4
  let s1 : State := { s with md := { s.md with downCause := worse s.md.downCause c, substate := sub } }
  if s.seq.state = 0 ∧ s.seq.dir ≤ 1 then s1.atStateZero
  else if s.seq.dir = 3 ∨ s.seq.dir = 0 then s1
  else if s.seq.reversing then s1
  else
    ({ s1 with
      seq := { s1.seq with reversing := true, revAt := s.now }
      rails := s1.rails.updAll {} s1.railList (fun _ r => if r.status == 1 then { r with status := 0 } else r) } : State).noteLine

/-- A stop (R106). -/
def State.requestStopSeq (s : State) : State := s.requestDown .stop

/-! ### Running faults and reactions (R360 to R366) -/

/-- Step 2 of a retry: the rail goes off (R362). -/
def State.retryRailOff (s : State) (n : Nat) : State :=
  (s.railOff n 6).updRail n (fun r =>
    { r with
      retryStep := if r.discharged then 3 else 2, status := 6, retries := satAdd 8 r.retries 1
      onEnd := s.railEnd n s.now (s.rr n 1 1) })

/-- Step 2 of a retry begins once every dependant is off and discharged (R362). -/
def State.retryOff (s : State) (n : Nat) : State :=
  if (s.dependants n).all (fun m => (s.rail m).retryOf != some n || (!(s.rail m).on && (s.rail m).discharged)) then
    s.retryRailOff n
  else s

/-- A retry starts at step 1, or the rail fails with its retries exhausted (R362). -/
def State.retry (s : State) (n : Nat) : State :=
  let used := (s.rail n).retries
  if s.rr n 0 9 ≤ used then s.failRail n 7 0x0906 [used]
  else
    let deps := (s.dependants n).filter (fun m => (s.rail m).on)
    let s1 : State :=
      { s with
        rails := s.rails.updAll {} deps (fun m r =>
          { r with retryOf := some n, status := 6, offEnd := s.railEnd m s.now (s.rr m 1 2) }) }
    let s2 := s1.updRail n (fun r => { r with retryStep := 1, status := 6 })
    (s2.retryOff n).noteLine

/-- The rails that the group shutdown of rail g still has to discharge (R363). -/
def State.groupRails (s : State) (g : Nat) : List Nat := s.railList.filter (fun n => (s.rail n).groupOf == some g)

/-- The highest state among them (R363). -/
def State.groupState (s : State) (g : Nat) : Nat := (s.groupRails g).foldl (fun m n => Nat.max m (s.rr n 0 2)) 0

/-- A local step of a group shutdown begins: the OFF_DELAY of its rails of the highest state; with none left the reaction
ends (R363, R387). -/
def State.groupStep (s : State) (g : Nat) : State :=
  let ns := (s.groupRails g).filter (fun n => s.rr n 0 2 == s.groupState g)
  if ns.isEmpty then { s with ev := s.ev.endRailReactions [g] }
  else { s with rails := s.rails.updAll {} ns (fun n r => { r with offEnd := s.railEnd n s.now (s.rr n 1 2) }) }

/-- Group shutdown: every rail of the group and its dependants; retries among them end where they stand, and rails that are
off and discharged are off by the group at once; a hiccup among them ends too (R363, R388). -/
def State.groupShutdown (s : State) (n : Nat) : State :=
  let group := s.railList.filter (fun m => s.sequenced m && s.rr m 0 4 == s.rr n 0 4)
  let all := s.descend s.railList.length group
  let s0 := (all.filter (· != n)).foldl State.endHiccup s
  let s1 : State :=
    { s0 with
      ev := s0.ev.endRailReactions (all.filter (fun m => m != n && (s.rail m).groupOf.isNone))
      rails := s0.rails.updAll {} all (fun _ r =>
        if r.groupOf.isSome then r
        else if r.on || (!r.discharged && r.status != 8 && r.status != 9) then
          { r with groupOf := some n, retryStep := 0, retryOf := none }
        else if r.status == 8 || r.status == 9 then r
        else { r with status := 10, retryStep := 0, retryOf := none }) }
  (s1.groupStep n).noteLine

/-- System-reset reaction: a reversal, or the limit and a stop (R366); while one is in progress another is the same one. -/
def State.sysReset (s : State) (n : Nat) : State :=
  if s.seq.sysreset ≠ 0 then s
  else if s.seq.sysresets = s.ob 0x4300 6 then
    let s1 := s.report 0 srcSeq 0x090A 4 0xFFFF [s.seq.sysresets]
    s1.requestStopSeq
  else
    let s1 : State := { s with seq := { s.seq with sysresets := s.seq.sysresets + 1, sysreset := 1, resetBy := some n } }
    s1.requestDown .systemReset

/-- Severity of REACTION (R361). -/
def reactionSev (r : Nat) : Nat := match r with | 0 => 2 | 1 => 3 | _ => 4

/-- A shutdown, requested or under way, a teardown or a group shutdown is in progress (R365). -/
def State.goingDown (s : State) : Bool :=
  s.seq.reversing || s.tileList.any (fun t => s.tileDir t == 3) || s.md.mode == .hold || s.railList.any (fun n => (s.rail n).groupOf.isSome)

/-- The rail reaction of REACTION is carried out (R361). -/
def State.railReaction (s : State) (n : Nat) : State :=
  match s.rr n 0 8 with
  | 0 => s
  | 1 => s.retry n
  | 2 => s.groupShutdown n
  | _ => s.sysReset n

/-- A running fault: record, failure record, and the reaction by the nesting rule (R360, R361, R365, R369, R388, R389).
`direct` starts the reaction without queueing behind the loop's own fault; beside a latch-off that one stays the reaction in
progress, which lasts until it is cleared (R240, R243, R387). -/
def State.railFault (s : State) (n cause : Nat) (direct : Bool) : State :=
  let rx := s.rr n 0 8
  let sev := reactionSev rx
  let s1 := (s.railReport n 0x0905 sev [cause, rx]).updRail n (fun r => { r with lastCause := cause })
  let s2 := if rx = 0 then s1 else s1.failed n (s.rr n 0 2) cause
  if rx = 0 ∨ s.goingDown then s2
  else if direct then
    (match (s.target n).cur with
      | some r => if r.code = 0x0502 then s2 else (s2.endHiccup n).begin n sev 0x0905
      | none => s2.begin n sev 0x0905).railReaction n
  else if s.admits n sev then ((s2.endHiccup n).begin n sev 0x0905).railReaction n
  else s2.queueReaction n sev 0x0905

end Sys2Proof.Machine
end

