-- ==== Sys2Proof/Machine/SafeOps.lean ====
section
/-! DEFINITION. Shared operations of protection: the safe state, HOLD, severity-5 causes, hiccup, latch-off,
over-temperature shutdown (R440 to R445, R101, R105, R111, R221, R238 to R244, R572). -/

namespace Sys2Proof.Machine

/-- Causes that only RESET ends (R444): reference clock, device time, pair fault, failed tile. -/
def resetOnlyCause (code : Nat) : Bool := code == 0x0101 || code == 0x0208 || code == 0x0206 || code == 0x0202

/-- The causing code of the loss of a receive SRDO within the model. -/
def srdoLossCause : Nat := 0x10000

/-- The bit of HOLD_CAUSES that belongs to a causing code (R461). The catalogue has no code for an SRDO request or the loss of a
receive SRDO: their causing code is 0, and the model tells the loss from the request by bit 16 (R572, log entry 24). -/
def holdBit (code : Nat) : Option Nat :=
  match code with
  | 0x0507 => some 0
  | 0x0203 | 0x0205 => some 1
  | 0x0306 => some 2
  | 0x0803 => some 3
  | 0x0805 => some 4
  | 0x0602 => some 5
  | 0x0502 => some 6
  | 0x0202 => some 7
  | 0x0000 | 0x10000 => some 8
  | 0x020A => some 9
  | _ => none

/-- HOLD_CAUSES assigns the cause to HOLD (R445). -/
def State.assignedHold (s : State) (code : Nat) : Bool :=
  match holdBit code with
  | some b => bit (s.ob 0x2600 3) b
  | none => false

/-- The cause of a safe state of loop l is still present (R572). -/
def State.causePresent (s : State) (l code : Nat) : Bool :=
  if resetOnlyCause code then true
  else if code = 0x0507 then (s.comp (s.anchor l) (16 + 2 * s.anchorSlot l)).output
  else if code = 0x0C01 then !s.pins.safeIn
  else if code = 0x0000 then bit s.srdo.request l
  else if code = srdoLossCause then s.srdo.lost != 0
  else if code = 0x0803 then (s.tilesOf l).any (fun t => (s.tile t).convFault || (s.tile t).bandFault)
  else false

/-- The loop rail of a loop in a severity-5 safe state counts as failed; its REACTION is not applied (R443). -/
def State.railSafe (s : State) (l : Nat) : State :=
  let n := 128 + l
  if s.sequenced n then
    let s1 := s.updRail n (fun r =>
      { r with
        status := 8, lastCause := 12, on := false, declared := false, settling := false, settled := false, good := false
        offAt := if r.on then s.now else r.offAt, discharged := true, retryStep := 0, retryOf := none, groupOf := none, dropDue := 0, badEnd := none, filtering := false })
    s1.keepDependants n
  else s

/-- A safe state entry chooses "low sides on" (R440). -/
def State.lowSidesFor (s : State) (l code : Nat) : Bool := code == 0x0507 && bit (s.ob 0x2600 2) l

/-- The loop enters STATE 7 with a severity and a causing code (R440, R442, R219, R220). -/
def State.toSafe (s : State) (l sev code : Nat) : State :=
  let s1 := ((s.recordEnded l 1).endBurst l 5).loopOff l 7
  let s2 := s1.updLoop l (fun lp =>
    { lp with
      pr := { lp.pr with
        safeSev := sev, cause := code, resetOnly := resetOnlyCause code
        lowSides := s.lowSidesFor l code, lowSince := s.now, lowTotal := 0
        ovSeen := lp.pr.ovSeen || code == 0x0507 }
      cp := { lp.cp with chkFault := lp.cp.chkFault || code == 0x0306 } })
  let s3 := ((s2.loopReport srcProt l 0x0505 sev (two code)).latch l 9).tally (if s.loopSafe l then [] else [s.anchor l]) 7
  let s4 := (s3.flush (loopTarget l)).begin (loopTarget l) sev code
  if sev = 5 then s4.railSafe l else s4

/-- A further overvoltage detection in a safe state turns the low sides on, within LS_DISCHARGE_MAX (R441). -/
def State.moreLow (s : State) (l code : Nat) : State :=
  let pr := (s.loop l).pr
  if s.lowSidesFor l code ∧ ¬pr.lowSides ∧ pr.lowTotal < s.ob 0x2600 5 * 500000 then
    s.updLoop l (fun lp => { lp with pr := { lp.pr with lowSides := true, lowSince := s.now, ovSeen := true } })
  else if code = 0x0507 then s.updLoop l (fun lp => { lp with pr := { lp.pr with ovSeen := true } })
  else s

/-- A cause takes an enabled loop to its safe state; in a safe state of the same or higher severity it joins the
queue (R388, R389, R442), as it does behind a latch-off, whose loop stays in STATE 6 (R240). -/
def State.enterSafe (s : State) (l sev code : Nat) : State :=
  if s.enabled l = false then s
  else
    let lp := s.loop l
    if lp.state = 7 ∧ sev ≤ lp.pr.safeSev then
      (s.moreLow l code).queueReaction (loopTarget l) sev code
    else if lp.state = 6 then s.queueReaction (loopTarget l) sev code
    else s.toSafe l sev code

/-- A number of loops, in ascending number. -/
def State.enterSafeAll (s : State) (ls : List Nat) (sev code : Nat) : State :=
  ls.foldl (fun s l => s.enterSafe l sev code) s

/-- The part's error register with the bit of one code (R404). -/
def State.errRegFor (s : State) (code : Nat) : Nat := b2n (!s.activeFaults.isEmpty) + 2 ^ emcyBit code

/-- EMCY on a channel is wanted: EMCY_CHANNELS, the channel enabled, and NMT pre-operational or operational (R404, R488). -/
def State.emcyOn (s : State) (c : CanChan) : Bool :=
  match c with
  | .a => bit (s.ob 0x4500 5) 0 && s.net.enA && (s.net.nmtA == .operational || s.net.nmtA == .preOperational)
  | .b => bit (s.ob 0x4500 5) 1 && s.net.enB && (s.net.nmtB == .operational || s.net.nmtB == .preOperational)

/-- 0x1003: newest first, eight entries (R505). -/
def pushHistory (h : List Nat) (v : Nat) : List Nat := (v :: h).take 8

/-- The record of the cause of a HOLD entry: its pending report with the tile's next sequence number, else one of this instant. -/
def State.holdRecord (s : State) (tile code inst : Nat) : Rec :=
  let num := s.ev.seq.get 0 tile
  match (s.pendingOf tile).find? (fun e => e.2.is code inst) with
  | some e => e.2.toRec tile e.1 num
  | none => ({ code := code, inst := inst, sev := 5, data := [], time := s.now } : Entry).toRec tile srcSafety num

/-- The EMCY frames of the cause that a HOLD entry sends before NMT is stopped (R111, R404); tile 0's processor forms them
(R23). -/
def State.holdEmcy (s : State) (tile code inst : Nat) : NetGrp :=
  if s.procRuns 0 ∧ s.ob 0x4500 3 ≤ 5 ∧ bit (s.ob 0x4500 4) (code / 256) then
    let r := s.holdRecord tile code inst
    let fs := ([CanChan.b, CanChan.a]).filterMap (fun c =>
      if s.emcyOn c then some (emcyFrame c (emcyCode code) (s.errRegFor code) (some r)) else none)
    if fs.isEmpty then s.net
    else { s.net with sent := fs ++ s.net.sent, history := pushHistory s.net.history (emcyCode code + 65536 * inst) }
  else s.net

/-- The part enters HOLD (R101, R105, R109, R111): from CONFIGURE, STANDBY and RUN; the EMCY of the cause goes out, NMT
is stopped, restart and start are cancelled, and the sequence is torn down. In HOLD a further cause is only noted (R390). -/
def State.enterHold (s : State) (tile code inst : Nat) : State :=
  if s.md.mode = .configure ∨ s.md.mode = .standby ∨ s.md.mode = .run then
    let s1 : State := { s with net := s.holdEmcy tile code inst }
    let s2 := s1.stopManual.enterMode .hold 11 7
    let s3 : State :=
      { s2 with
        md := { s2.md with starting := none, restartWait := false, tornDown := s.md.mode != .run } }
    let s4 := s3.report 0 srcSafety 0x0C02 5 0xFFFF (two code)
    let s5 : State := { s4 with md := { s4.md with heldBy := [code] } }
    if s.md.mode = .run then s5.requestDown .hold else s5
  else if s.md.mode = .hold then { s with md := { s.md with heldBy := code :: s.md.heldBy.erase code } }
  else s

/-- A dangerous fault during a stop or a VIN shutdown ends in HOLD (R109). -/
def State.preempts (s : State) : Bool :=
  s.md.mode == .run && (s.md.downCause == some .stop || s.md.downCause == some .vinLoss)

/-- A severity-5 cause: the loops concerned go to their safe states, and the part to HOLD where the cause is assigned
to it (R445). -/
def State.dangerous (s : State) (ls : List Nat) (tile code inst : Nat) (always : Bool) : State :=
  let s1 := s.enterSafeAll ls 5 code
  if always || s.assignedHold code || s.preempts then s1.enterHold tile (code % 65536) inst else s1

/-- A reset-only HOLD (R66, R291, R292, R27). -/
def State.markResetOnly (s : State) : State := { s with md := { s.md with resetOnly := true } }

/-- A tile is declared failed: cause, record, safe states of its loops (R27, R63, R97, R291). -/
def State.failTile (s : State) (t cause : Nat) : State :=
  let s1 := s.updTile t (fun ti => { ti with state := 2, failCause := cause, failAt := s.now })
  let s2 := s1.report 0 srcProc 0x0202 5 t [cause]
  let s3 := s2.dangerous (s.loopsOn t) 0 0x0202 t false
  { s3 with link := { s3.link with failed := setBit s3.link.failed t } }

/-! ### Hiccup, latch-off, over-temperature -/

/-- The running fault that a latch-off or an over-temperature shutdown reports on a loop rail that is on, waiting to be
declared or not (R240, R243); its reaction waits while the processor of the rail's tile recovers (R25). -/
def State.loopFault (s : State) (n : Nat) : State :=
  if (s.rail n).on = false then s
  else if (s.tile (s.railTile n)).state = 1 then
    s.updTile (s.railTile n) (fun ti => { ti with waiting := ti.waiting ++ [.loopFault n] })
  else s.railFault n 6 true

/-- Latch-off: STATE 6, severity-5 record, the rail's reaction, the end of its deadline, HOLD where assigned (R240, R241,
R361, R445). The records of the mechanisms that it ends name rank 3 (DESIGN CHOICE, log entry 117). -/
def State.latchOff (s : State) (l : Nat) : State :=
  let s1 := ((s.recordEnded l 3).endBurst l 5).loopOff l 6
  let s2 := (s1.loopReport srcProt l 0x0502 5 (bytesLE 4 (s.loop l).pr.hiccupTotal)).latch l 8
  let s3 := ((s2.flush (loopTarget l)).begin (loopTarget l) 5 0x0502).updRail (128 + l) (fun r => { r with noDeadline := true })
  let s4 := s3.loopFault (128 + l)
  if s.assignedHold 0x0502 || s.preempts then s4.enterHold (s.anchor l) 0x0502 l else s4

/-- Step 1 of a hiccup by phase p: off-time, count, record (R239); lower ranks end (R219, R245). A queued hiccup was recorded when it
was queued (R389). -/
def State.hiccupOff (s : State) (l p : Nat) (queued : Bool) : State :=
  let s1 := ((s.recordEnded l 3).endBurst l 5).loopOff l 4
  let s2 := s1.updLoop l (fun lp =>
    { lp with
      pr := { lp.pr with
        hiccups := satAdd 8 lp.pr.hiccups 1, hiccupTotal := satAdd 32 lp.pr.hiccupTotal 1, inHiccup := true
        offUntil := s.now + 500 * s.lo l 0xE 2 } })
  let s3 := if queued then s2 else s2.loopReport srcProt l 0x0501 3 [(s2.loop l).pr.hiccups, p]
  ((s3.latch l 7).tally [s.anchor l] 3).begin (loopTarget l) 3 0x0501

/-- A hiccup trigger acts: a hiccup, or the latch-off at HICCUP_MAX (R239 step 4). -/
def State.hiccup (s : State) (l p : Nat) (queued : Bool) : State :=
  if s.lo l 0xE 3 ≤ (s.loop l).pr.hiccups then s.latchOff l else s.hiccupOff l p queued

/-- Over-temperature shutdown: every phase off, STATE 0, the rail's running fault (R243, R244, R360). The records of the
mechanisms that it ends name rank 3 (DESIGN CHOICE, log entry 117). -/
def State.otShutdown (s : State) (l : Nat) : State :=
  let rx := s.rr (128 + l) 0 8
  let s1 := ((s.recordEnded l 3).endBurst l 5).loopOff l 0
  let s2 := s1.updLoop l (fun lp =>
    { lp with pr := { lp.pr with otRestart := s.lo l 0xF 6 == 1 && rx == 0 && (s.rail (128 + l)).on } })
  (s2.updRail (128 + l) (fun r => { r with otWait := r.on && rx == 1 })).loopFault (128 + l)

/-- The condition of a queued reaction of target n holds (R389). -/
def State.reactionHolds (s : State) (n : Nat) (r : Reaction) : Bool :=
  match railLoop n with
  | none => (s.rail n).on && !s.goodCond n
  | some l =>
    if r.code = 0x0501 then (s.phasesOf l).any (fun p => decide (s.lo l 0xE 1 ≤ (s.phase p).ct.ocRun))
    else if r.code = 0x0504 then
      (match (s.loop l).pr.temp with | some x => decide (10 * toInt 16 (s.lo l 0xF 4) ≤ x) | none => false) ||
        (s.tilesOf l).any (fun t => match s.link.die.get none t with | some d => decide (1450 ≤ d) | none => false)
    else if r.code = 0x0905 then (s.rail n).on && !s.goodCond n
    else s.causePresent l r.code

/-- A queued reaction starts (R389). -/
def State.startReaction (s : State) (n : Nat) (r : Reaction) : State :=
  let s1 := s.begin n r.sev r.code
  match railLoop n with
  | none => s1.railReaction n
  | some l =>
    if r.code = 0x0501 then
      s.hiccup l (((s.enabledPhases l).find? (fun p => decide (s.lo l 0xE 1 ≤ (s.phase p).ct.ocRun))).getD 0) true
    else if r.code = 0x0504 then s.otShutdown l
    else if r.code = 0x0905 then s1.railReaction n
    else s.toSafe l r.sev r.code

/-- Take queued reactions in order until one starts (R389); a rail reaction waits while the processor of its tile recovers (R25). -/
def State.takeQueued (s : State) (n : Nat) : List Reaction → State
  | [] => s.updTarget n (fun t => { t with queue := [] })
  | r :: qs =>
    if r.code = 0x0905 ∧ (s.tile (s.railTile n)).state = 1 then s.updTarget n (fun t => { t with queue := r :: qs })
    else if s.reactionHolds n r then (s.updTarget n (fun t => { t with queue := qs })).startReaction n r
    else (s.dropped n r.code).takeQueued n qs

/-! ### Outputs (R37, R40, R42, R43, R49, R94, R294, R403, R452)

The levels that the part gives its output balls are functions of the state; those of a phase are `State.balls` (R39, R94,
R176). -/

/-- A control byte with DANGER is the last that tile 0 has received from some tile (R281, R452). -/
def State.dangerHeard (s : State) : Bool := s.tileList.any (fun t => bit (s.link.safeReq.get 0 t) 0)

/-- SAFE_OUT# is low (R42, R452). -/
def State.safeOutLow (s : State) : Bool :=
  s.md.mode == .reset || s.md.mode == .hold || s.md.mode == .service || s.danger || s.dangerHeard ||
    (s.ob 0x2600 4 == 1 && s.loopList.any (fun l => (s.loop l).pr.uvReport))

/-- RESET_OUT is high (R43, R366). -/
def State.resetOutHigh (s : State) : Bool := s.md.mode == .reset || (s.md.mode == .run && s.seq.pulse)

/-- LPGk of tile t is released: its loop is declared good by its loop rail and not in its safe state (R37). -/
def State.lpg (s : State) (t k : Nat) : Bool :=
  match s.heldAt t k with
  | some l => s.md.mode == .run && (s.rail (128 + l)).declared && ((s.loop l).state == 2 || (s.loop l).state == 3)
  | none => false

/-- The level of ENj of external rail n; `none` where an open-drain output is released. Before the rail record is loaded,
and while the rail is off, it is low (R40, R347, R94). -/
def State.enBall (s : State) (n : Nat) : Option Bool :=
  if s.md.mode = .reset ∨ (s.rail n).on = false then some false
  else if s.rr n 0 6 = 1 then none
  else some true

/-- The part holds TRELLIS low (R94, R350, R351). -/
def State.trellisLow (s : State) : Bool := s.md.mode == .reset || s.holdingTiles != 0

/-- LCK of tile t runs: the lane is enabled and its level is right (R49, R94, R252). -/
def State.lckRuns (s : State) (t : Nat) : Bool :=
  s.md.mode != .reset && !(s.tile t).laneLevelFault && s.ob (0x5000 + t) 1 == 1

/-- LDIO of tile t as the part drives it (R253, R257, R258): the bits of the POLL and of the response, most significant
first, and released in every other clock, with the lane disabled, at a wrong level and in RESET (R36, R49, R274). -/
def State.ldio (s : State) (t : Nat) : Option Bool :=
  let ln := s.lane t
  let k := (s.now + 1180 - ln.transEnd) / 10
  if !s.lckRuns t || decide (ln.transEnd ≤ s.now) then none
  else if k < 40 then some (bit ln.poll (39 - k))
  else if 84 ≤ k ∧ k < 116 then ln.response.map (fun r => bit r (115 - k))
  else none

/-- CAN transmit outputs are recessive, that is high, but for the bits of a frame; a frame is sent whole between two
commands (R41, log entry 107). -/
def State.canTxHigh (_s : State) (_c : CanChan) : Bool := true

/-- SPI_SDO is driven only while SPI_CS# is low; a transfer is whole within its command, so it is at high impedance between
commands (R41, log entry 107). -/
def State.spiSdo (_s : State) : Option Bool := none

/-- TDO is at high impedance but for the bits of a shift, which a command makes whole, and always on a FIELD-fused part (R41,
R47, log entry 107). -/
def State.tdo (_s : State) : Option Bool := none

/-- ALERT# is low (R403). -/
def State.alertLow (s : State) : Bool := s.ev.alert

/-- SYNC_OUT is high from 4 ns after the carrier boundary, for 16 ns (R294). -/
def State.syncOutHigh (s : State) : Bool :=
  s.clk.running && decide (s.now < s.clk.syncOutUntil) && decide (s.clk.syncOutUntil ≤ s.now + 8)

end Sys2Proof.Machine
end

