-- ==== Sys2Proof/Machine/MonOps.lean ====
section
/-! DEFINITION. Histogram units: which values they count and their frame boundary (R533 to R537). -/

namespace Sys2Proof.Machine

/-- A unit's settings by index. -/
def State.hset (s : State) (i sub : Nat) : Nat := s.ob (0x4C00 + i) sub

/-- The instance produces the source on tile t (R533). -/
def State.histSource (s : State) (t src inst : Nat) : Bool :=
  match src with
  | 1 => decide (inst < 4 * s.T) && s.partakes inst t
  | 2 | 3 | 6 | 7 => decide (inst < 4 * s.T) && s.enabled inst && s.anchor inst == t
  | 4 => decide (inst < 16 * s.T) && inst / 16 == t
  | 5 => decide (inst < 16 * s.T) && inst / 16 == t && (s.loopOf inst).isSome
  | 8 => t == 0 && (decide (inst < 3) || inst == 0xFFFF)
  | 9 => decide (inst < 64) && s.ob (0x4400 + inst) 1 == t
  | 10 => inst == 0xFFFF
  | _ => false

/-- One value joins the live bins (R534). -/
def Bins.add (b : Bins) (offset : Int) (width : Nat) (v : Int) : Bins :=
  let i := (clampI (floorDiv (v - offset) (Nat.max 1 width)) 0 63).toNat
  { bins := b.bins.upd 0 i (fun c => satAdd 32 c 1)
    min := if b.count = 0 then v else Min.min b.min v
    max := if b.count = 0 then v else Max.max b.max v
    count := satAdd 32 b.count 1 }

/-- The units that count a value of source `src`, instance `inst`, on tiles `ts`. -/
def State.histUnits (s : State) (ts : List Nat) (src inst : Nat) : List Nat :=
  (ts.flatMap (fun t => (List.range 16).map (16 * t + ·))).filter (fun i =>
    s.hset i 1 == src && (s.hset i 2 == inst || ((src == 8 || src == 10) && s.hset i 2 == 0xFFFF)) &&
      s.histSource (i / 16) src (s.hset i 2))

/-- A value of a source is counted (R533, R534). -/
def State.histValue (s : State) (ts : List Nat) (src inst : Nat) (v : Int) : State :=
  { s with
    hists := s.hists.updAll {} (s.histUnits ts src inst) (fun i h =>
      { h with live := h.live.add (toInt 32 (s.hset i 3)) (s.hset i 4) v }) }

/-- The frame boundary of every unit: clear or snapshot (R535, R536, R537). -/
def State.histFrameEnd (s : State) : State :=
  { s with
    hists := s.hists.updAll {} (List.range (16 * s.T)) (fun _ h =>
      if h.clear then {} else { h with snap := h.live, bad := false })
    histFrame := s.frame }

end Sys2Proof.Machine
end

