-- ==== Sys2Proof/Machine/RegOps.lean ====
section
/-! DEFINITION. Shared operations of the regulation loop: targets and slewing, the error sample, the compensator, the
checker lane, Canopy and overshoot, burst exit, and all that one loop sample does (R119 to R149, R210, R213, R222 to
R232, R441). Voltages compared with loop samples are in 1/16 of 0.25 mV: a loop sample counts 25 of them, a comparator
code 100. -/

namespace Sys2Proof.Machine

/-! ### Targets (R139 to R145) -/

/-- Step of ref for a slew rate, 2^-16 units of 0.25 mV (R139). -/
def slewStep (rate : Nat) : Nat := roundUp (rate * 4194304) 100000

/-- One step of ref toward the target (R139, R223). -/
def stepRef (ref target step : Nat) : Nat :=
  if ref ≤ target then (if target - ref ≤ step then target else ref + step)
  else (if ref - target ≤ step then target else ref - step)

/-- The records of an acceptance: superseded first, then accepted (R141, R145). -/
def State.acceptRecords (s : State) (l v src : Nat) (sup : Bool) : State :=
  let s1 := if sup then (s.loopReport srcReg l 0x0303 0 (two (s.loop l).tg.target)).latch l 1 else s
  s1.loopReport srcReg l 0x0301 0 (two v ++ [src])

/-- A target is accepted (R140, R141, R145): `src` 0 dictionary, 1 lane. In the hiccup off-time, as in every state without
a reference, it is stored (DESIGN CHOICE, log entry 113). RATE_IN_USE of a soft start and of a loop at rest is the
LOOP_SLEW:01 of its start or of the latest acceptance (DESIGN CHOICE, log entry 114). -/
def State.acceptTarget (s : State) (l v src : Nat) : State :=
  let lp := s.loop l
  let s0 := s.put (loopIdx l 1) 1 v
  if lp.state = 1 ∨ lp.state = 2 ∨ lp.state = 3 then
    (s0.acceptRecords l v src lp.tg.moving).updLoop l (fun lp =>
      { lp with
        tg := { lp.tg with
          target := v, moving := true, rateInUse := s.lo l 2 1
          accepted := wrapAdd 32 lp.tg.accepted 1
          superseded := if lp.tg.moving then wrapAdd 32 lp.tg.superseded 1 else lp.tg.superseded } })
  else s0.updLoop l (fun lp => { lp with tg := { lp.tg with accepted := wrapAdd 32 lp.tg.accepted 1 } })

/-- ref has become equal to the target (R143). -/
def State.reached (s : State) (l : Nat) : State :=
  let s1 := s.updLoop l (fun lp =>
    { lp with tg := { lp.tg with moving := false, reached := wrapAdd 32 lp.tg.reached 1 } })
  (s1.loopReport srcReg l 0x0302 0 (two (s.loop l).tg.target)).latch l 0

/-! ### Canopy and overshoot (R226 to R232) -/

/-- The settings that a Canopy or overshoot action keeps (R74, R228, R232). -/
def State.canopyCfg (s : State) (l : Nat) : CanopyCfg :=
  { depth := s.lo l 0xA 2, osDepth := s.lo l 0xA 0xB, phases := s.enabledPhases l, hyst := s.lo l 0xA 3
    presetMode := s.lo l 0xA 8, presetStep := s.lo l 0xA 9, maxTime := s.lo l 0xA 6, rearm := s.lo l 0xA 7 }

/-- The settings in force for the Canopy threshold and the overshoot level: those that a running action keeps (R74). -/
def State.canopyNow (s : State) (l : Nat) : CanopyCfg := (s.loop l).ac.actCfg.getD (s.canopyCfg l)

/-- Canopy and the overshoot action are armed (R226, R231, R232). -/
def State.canopyArmed (s : State) (l : Nat) : Bool :=
  let lp := s.loop l
  (lp.state == 2 || lp.state == 3) && s.lo l 0xA 1 != 0 && lp.ac.action == 0 && decide (lp.ac.rearmUntil ≤ s.now)

/-- A preview that has fired ends, its offset with it: "preview overtaken" (R236). -/
def State.overtake (s : State) (l by_ : Nat) : State :=
  if (s.loop l).pv.fired ≠ [] then
    let s1 := s.updLoop l (fun lp => { lp with pv := { lp.pv with fired := [] } })
    s1.loopReport srcTrans l 0x0407 1 [by_]
  else s

/-- A cancelled shed keeps its thermal mark: the count in use with the mark's change (R198, R201). -/
def LoopPop.unshed (pp : LoopPop) (d : Decision) : Decision :=
  { d with shed := false, cap := pp.cap, count := Nat.max 1 (pp.active + b2n pp.thermal.isSome - b2n d.thermal.isSome) }

/-- The frame of a Canopy or preview trigger clears the shed dwell and cancels a decided, unapplied shed; the level in
use returns to the one before it (R198). -/
def Loop.cancelShed (lp : Loop) : Loop :=
  let last := lp.pp.decided.getLast?
  { lp with
    pp := { lp.pp with
      dwell := 0, trigFrame := true
      level := match last with
        | some d => if d.shed then (match lp.pp.decided.find? (·.shed) with | some e => e.before | none => d.before)
                    else lp.pp.level
        | none => lp.pp.level
      decided := (lp.pp.decided.map (fun d => if d.shed then lp.pp.unshed d else d)).filter
        (fun d => d.count != lp.pp.active || d.thermal != lp.pp.thermal) } }

/-- The pulse of a phase ends at an instant, and no further one begins before the next carrier zero. -/
def Phase.suppress (ph : Phase) (at_ : Nat) : Phase :=
  let c := ph.ballTicks at_
  let none_ : Phase := { ph with ed := { ph.ed with rise := none, fall := none, skip := true } }
  match ph.pulse with
  | some (r, e) => if r ≤ c then { ph with ed := { ph.ed with cut := some (Nat.min c e) } } else none_
  | none => none_

/-- An action meets a phase at an instant (R228, R231): its own pulse is over. Canopy turns the high side on, or holds it off
after a truncation of this carrier period (R219, R229). -/
def Phase.meet (ph : Phase) (kind at_ : Nat) (high : Bool) : Phase :=
  { ph.suppress at_ with
    actKind := kind, actFrom := at_, actTo := none, actHigh := high && kind == 1, edBefore := ph.ed
    actCut := if kind = 1 then ph.ed.cut.map (fun c => ph.zeroAt + (c + 64) / 32) else none }

/-- The instant at which the next sample slot after a device time brings its flags to a replica tile: 10 ns after the start
of its link cycle (R278, R280). -/
def delivery (t : Nat) : Nat := (t + 6) / 8 * 8 + 6

/-- The instant at which an action of the present time begins or ends on tile t (R228, R280). -/
def State.actTime (s : State) (l t : Nat) : Nat := if s.anchor l = t then s.now else delivery s.now

/-- An action meets phases of one tile at an instant (R228, R231). -/
def State.actTile (s : State) (kind : Nat) (ps : List Nat) (at_ : Nat) : State :=
  let u := s.reach at_
  let high (p : Nat) : Bool := (u.balls p).1 == some true
  let s1 := s.noteEdgesAt ps at_ (fun p => if kind = 1 then !high p else high p)
  { s1 with phases := s1.phases.updAll {} ps (fun p ph => ph.meet kind at_ (high p)) }

/-- An action meets the phases of its loop: Canopy the enabled ones (R228, R231). -/
def State.actOn (s : State) (l kind : Nat) : State :=
  let ps := if kind = 1 then s.enabledPhases l else s.phasesOf l
  (s.tilesOf l).foldl (fun s t => s.actTile kind (ps.filter (fun p => p / 16 == t)) (s.actTime l t))
    ((s.phasesOf l).foldl State.flushTaps s)

/-- A Canopy (kind 1) or overshoot (kind 2) action begins (R228, R231, R232). -/
def State.beginAction (s : State) (l kind trig : Nat) (ut : Int) : State :=
  let s1 := ((s.actOn l kind).abortLearn l).overtake l 1
  let s2 := s1.endBurst l 2
  let s3 := s2.updLoop l (fun lp =>
    { lp.cancelShed with
      ac := { lp.ac with
        action := kind, actTrig := trig, actAt := s.now, actU := ut, actCfg := some (s.canopyCfg l)
        actEnd := s.now + s.lo l 0xA 6
        preset := none, canopyCount := wrapAdd 32 lp.ac.canopyCount 1 } })
  s3.latch l (if kind = 1 then 5 else 6)

/-- A Canopy trigger arrives (R226, R228, R232): 1 comparator, 2 slope; `ut` is the u before it (R230). -/
def State.canopyTrigger (s : State) (l trig : Nat) (ut : Int) : State :=
  let lp := s.loop l
  if s.canopyArmed l then s.beginAction l 1 trig ut
  else if (lp.state = 2 ∨ lp.state = 3) ∧ s.lo l 0xA 1 ≠ 0 ∧ lp.ac.action = 0 then
    let s1 := s.updLoop l (fun lp => { lp with ac := { lp.ac with rearmRejects := satAdd 32 lp.ac.rearmRejects 1 } })
    s1.loopReport srcTrans l 0x0403 1 []
  else s

/-- The u that a release presets, at the sample that follows it (R230, R231). -/
def State.presetU (s : State) (l : Nat) (p : ActionPreset) : Int :=
  let stp := roundAway ((p.step * 2 ^ 22 : Nat) : Int) (Nat.max 1 (s.loop l).cp.ff)
  if p.mode = 1 then p.u else s.clampU l (if p.action = 1 then p.u + stp else p.u - stp)

/-- An action releases a phase at an instant (R230, R231): it resumes from its next carrier zero; the pulse that Canopy gave it
has ended then, or at its truncation. A shed phase is off again. -/
def Phase.released (ph : Phase) (at_ : Nat) : Phase :=
  if ph.on = false then { ph with actTo := some at_, ct := { ph.ct with ocRun := 0, ocNow := false } }
  else
    let ph1 := ph.restart (ph.ballTicks at_)
    let fell : Int := -((ph.ballTicks (ph.actCut.getD at_) : Nat) : Int)
    { ph1 with
      actTo := some at_, ed := { ph1.ed with lastFall := if ph.actKind = 1 then fell else ph1.ed.lastFall } }

/-- Phases of one tile are released at an instant (R230, R231). -/
def State.releaseTile (s : State) (ps : List Nat) (at_ : Nat) : State :=
  let u := s.reach at_
  let s1 := s.noteEdgesAt ps at_ (fun p => u.canopyOn p)
  { s1 with phases := s1.phases.updAll {} ps (fun _ ph => if ph.actKind = 0 ∨ ph.actTo.isSome then ph else ph.released at_) }

/-- The action is released: record, re-arm time, preset at the next sample, the thresholds of the next trigger; every phase resumes from its next carrier
zero with accumulator and residue cleared (R230 to R232). -/
def State.releaseAction (s : State) (l : Nat) : State :=
  let lp := s.loop l
  let c := lp.ac.actCfg.getD (s.canopyCfg l)
  let dur := Nat.min (s.now - lp.ac.actAt) 0xFFFF
  let s1 := (s.tilesOf l).foldl
    (fun s t => s.releaseTile ((s.phasesOf l).filter (fun p => p / 16 == t)) (s.actTime l t)) s
  let s2 := s1.updLoop l (fun lp =>
    { lp with
      ac := { lp.ac with
        action := 0, actCfg := none, canopyLast := dur, relAt := some s.now
        canopyThr := lp.ac.nextThr, osLevel := lp.ac.nextOs
        preset := if c.presetMode = 0 then none else some ⟨lp.ac.action, c.presetMode, c.presetStep, lp.ac.actU⟩
        rearmUntil := s.now + 50 * c.rearm
        recoverFrom := if lp.ac.action = 1 then lp.ac.recoverFrom ++ [lp.ac.actAt] else lp.ac.recoverFrom } })
  let s2 := s2.updComp (s.anchor l) (17 + 2 * s.anchorSlot l) (fun k =>
    if k.manager = 3 ∧ k.managed.isSome then { k with managed := some (lp.ac.nextThr / 100).toNat } else k)
  if lp.ac.action = 1 then
    (s2.histValue [s.anchor l] 6 l (s.now - lp.ac.actAt : Nat)).loopReport srcTrans l 0x0401 1 (two dur ++ [lp.ac.actTrig, c.phases.length])
  else s2.loopReport srcTrans l 0x0402 1 (two dur)

/-- ref at the end of the coming frame (R227, R231), 2^-16 of 0.25 mV. -/
def Loop.refEnd (lp : Loop) : Nat :=
  let reach := samplesPerFrame * slewStep lp.tg.rateInUse
  if lp.tg.moving then
    (if lp.tg.target * 65536 ≤ lp.tg.ref then Nat.max (lp.tg.target * 65536) (lp.tg.ref - reach)
    else Nat.min (lp.tg.target * 65536) (lp.tg.ref + reach))
  else lp.tg.ref

/-- Comparator code of a voltage in 2^-16 of 0.25 mV, rounded down to the DAC step of 1.5625 mV (R211, R227); the code
has 10 bits (R328), and no rule states it for a voltage outside them. -/
def dacFloor (v : Int) : Nat := fitN 10 (floorDiv (v * 4) (25 * 65536))

/-- Canopy threshold of the coming frame with a DEPTH, as a comparator code (R227). -/
def Loop.canopyCode (lp : Loop) (depth : Nat) : Nat := dacFloor ((Nat.min lp.tg.ref lp.refEnd : Nat) - (depth * 65536 : Nat))

/-- Overshoot level of the coming frame with an OS_DEPTH, 1/16 of 0.25 mV (R231). -/
def Loop.overLevel (lp : Loop) (depth : Nat) : Int := ((Nat.max lp.tg.ref lp.refEnd / 4096 + 16 * depth : Nat) : Int)

/-- Canopy threshold and overshoot level of the coming frame: those of an action in progress with the settings it keeps, and those
of the next trigger (R227, R231, R232, R245). -/
def State.setLevels (s : State) (l : Nat) : State :=
  let kept := s.canopyNow l
  let next := s.canopyCfg l
  s.updLoop l (fun lp =>
    { lp with
      ac := { lp.ac with
        canopyThr := (100 * lp.canopyCode kept.depth : Nat), osLevel := lp.overLevel kept.osDepth
        nextThr := (100 * lp.canopyCode next.depth : Nat), nextOs := lp.overLevel next.osDepth } })

/-! ### Error and compensator (R121 to R126) -/

/-- e[n] in 1/16 LSB from ref (2^-16 of 0.25 mV), the sample and v_d in 1/16 LSB (R121). -/
def errorSample (ref : Nat) (sample : Nat) (vd : Int) : Int :=
  clampI (roundAway (1024 * (ref : Int) - (16 * (sample : Int) + vd) * 6553600) 6553600) (-32768) 32767

/-- The six coefficients of the bank in use (R129). -/
def State.coefs (s : State) (l : Nat) : List Int :=
  let off := if s.lo l 6 1 = 1 then 5 else 4
  (List.range 6).map (fun i => toInt 32 (s.lo l off (i + 1)))

/-- acc at 53 fraction bits (R123). -/
def LoopComp.acc (c : LoopComp) (k : List Int) (e0 : Int) : Int :=
  k.getD 0 0 * c.u1 + k.getD 1 0 * c.u2 + k.getD 2 0 * c.u3 +
    (k.getD 3 0 * e0 + k.getD 4 0 * c.e1 + k.getD 5 0 * c.e2) * 2 ^ 18 + c.res

/-- The compensator for one error sample (R123, R124): histories, residue, command and clamp flags. -/
def LoopComp.next (c : LoopComp) (k : List Int) (dmin dmax : Nat) (e0 : Int) : LoopComp :=
  let f := Nat.max 1 c.ff
  let acc := c.acc k e0
  let u0 := floorDiv acc (2 ^ 29)
  let hi := decide (uMax dmax f < u0)
  let u1 := if hi then uMax dmax f else u0
  let lo := decide (u1 < uMin dmin f)
  let u := if lo then uMin dmin f else u1
  let d0 := floorDiv (u * f + 2 ^ 21) (2 ^ 22)
  { c with
    u1 := u, u2 := c.u1, u3 := c.u2, e1 := e0, e2 := c.e1, uPrev := c.u1
    u4 := c.u3, e3 := c.e2, resPrev := c.res
    res := if hi || lo then 0 else acc - u0 * 2 ^ 29
    duty := (clampI d0 dmin dmax).toNat, duty1 := c.duty, duty2 := c.duty1
    atMin := lo || decide (d0 < dmin)
    atMax := hi || decide ((dmax : Int) < d0) }

/-- The command of sample n is the newest; after a gap the one before it has long been in use. -/
def LoopComp.dated (c : LoopComp) (n : Nat) : LoopComp :=
  { c with dutyAt := n, duty2 := if c.dutyAt + 1 = n then c.duty2 else c.duty1 }

/-- The compensator as it was before its latest sample (R288). -/
def LoopComp.without (c : LoopComp) : LoopComp :=
  { c with
    u1 := c.u2, u2 := c.u3, u3 := c.u4, e1 := c.e2, e2 := c.e3, res := c.resPrev
    duty := c.duty1, duty1 := c.duty2, dutyAt := c.dutyAt - 1 }

/-- Feedforward factor from VIN_NOM and VIN, both in mV, 14 fraction bits, nearest (R127). -/
def ffFactor (nom vin : Nat) : Nat :=
  if 4 * vin < nom then 0xFFFF else Nat.min 0xFFFF (Nat.max 0x1000 (roundUp (nom * 16384) (Nat.max 1 vin)))

/-! ### Checker lane (R147) -/

/-- The occupied slots of a tile in ascending number (R15, R147). -/
def State.occupied (s : State) (t : Nat) : List Nat := (List.range 4).filter (fun k => (s.heldAt t k).isSome)

/-- LOOP_CHECKER:01 as it reads: 1 for a loop that SAFETY_CFG:01 names (R149). -/
def State.checkerOn (s : State) (l : Nat) : Bool := s.lo l 0x11 1 == 1 || bit (s.ob 0x2600 1) l

/-- At loop sample n, the tiles whose checker lane takes the slot of loop l. -/
def State.checkedOn (s : State) (l n : Nat) : List Nat :=
  (s.tilesOf l).filter (fun t =>
    let occ := s.occupied t
    occ.getD (n % Nat.max 1 occ.length) 9 == s.slotOf l t)

/-- The difference that a check finds: at most 8 counts in a fault-free datapath (R147). -/
def checkDiff (k : Nat) : Nat := if Config.datapathFault k then Config.checkerDiff k else Config.checkerDiff k % 9

/-- Account the differences that the checker lanes found for a loop, each with its tile (R147, R148). -/
def LoopComp.check (c : LoopComp) (tol : Nat) (diffs : List (Nat × Nat)) : LoopComp :=
  { c with
    chkFails := (diffs.filter (fun d => decide (tol < d.2))).foldl (fun m d => Tab.upd 0 m d.1 (· + 1)) c.chkFails
    chkMax := diffs.foldl (fun m d => Nat.max m d.2) c.chkMax }

/-! ### One loop sample (R119, R120, R139 to R148, R222 to R231, R441) -/

/-- s[n] from its four conversions (R120). -/
def sampleOf (c0 c1 c2 c3 : Nat) : Nat := (c0 + c1 + c2 + c3 + 2) / 4

/-- Out of range: 1 low, 2 high, 0 in range (R120). -/
def rangeKindOf (c0 c1 c2 c3 : Nat) : Nat :=
  if c0 = 0 ∧ c1 = 0 ∧ c2 = 0 ∧ c3 = 0 then 1
  else if c0 = 4095 ∧ c1 = 4095 ∧ c2 = 4095 ∧ c3 = 4095 then 2 else 0

/-- The sensed values after a sample (R120, R222, R227, R323). -/
def LoopSense.take (sn : LoopSense) (c0 c1 c2 c3 : Nat) : LoopSense :=
  let v := sampleOf c0 c1 c2 c3
  let k := rangeKindOf c0 c1 c2 c3
  { sn with
    sample := v, c0 := c0, c1 := c1, c2 := c2, c3 := c3, hist := (v :: sn.hist).take 256
    sumS := sn.sumS + v, cntS := sn.cntS + 1
    rangeKind := k, rangeRun := if k = 0 then 0 else if k = sn.rangeKind then sn.rangeRun + 1 else 1
    rangeFrames := if k = 0 then sn.rangeFrames else 2 }

/-- Peaks of the loop sample, in 0.25 mV rounded down, while the loop is not in STATE 0 (R325). -/
def Loop.peakSample (lp : Loop) (v : Nat) : Loop :=
  if lp.state = 0 then lp
  else { lp with tl := { lp.tl with vMax := Nat.max lp.tl.vMax (v * 25 / 16), vMin := Nat.min lp.tl.vMin (v * 25 / 16) } }

/-- The conversions of a loop at this sample: those given, corrected by the factors of the loop's converter (R317), else
the last ones (log entry 5). -/
def State.convOf (s : State) (cs : List Conv) (l : Nat) : Conv :=
  match cs.find? (fun c => c.l == l) with
  | some c =>
    let v := s.corrected (s.anchor l) (s.anchorSlot l)
    ⟨l, v c.c0, v c.c1, v c.c2, v c.c3⟩
  | none => ⟨l, (s.loop l).sn.c0, (s.loop l).sn.c1, (s.loop l).sn.c2, (s.loop l).sn.c3⟩

/-- Sensing of a loop: sample, peaks, out-of-range record at a run of 256 (R120, R325). -/
def State.senseLoop (s : State) (l : Nat) (c : Conv) : State :=
  let s1 := s.updLoop l (fun lp =>
    let sn := lp.sn.take c.c0 c.c1 c.c2 c.c3
    { lp.peakSample sn.sample with sn := sn })
  if (s1.loop l).sn.rangeRun = 256 ∧ (s1.loop l).sn.rangeKind ≠ 0 then
    s1.loopReport srcReg l 0x0304 2 [(s1.loop l).sn.rangeKind - 1]
  else s1

/-- The first loop sample below DISCHARGE ends "low sides on" (R441). -/
def State.dischargeEnd (s : State) (l : Nat) : State :=
  let lp := s.loop l
  if lp.state = 7 ∧ lp.pr.lowSides ∧ lp.sn.sample * 25 < s.rr (128 + l) 2 3 * 16 then
    s.updLoop l (fun lp =>
      { lp with pr := { lp.pr with lowSides := false, lowTotal := lp.pr.lowTotal + (s.now - lp.pr.lowSince) } })
  else s

/-- Step of ref at this sample: the ramp in STATE 1 and 5, the slew rate in STATE 2 and 3 (R139, R223, R225). -/
def Loop.refStep (lp : Loop) : Nat :=
  if lp.state = 1 ∨ lp.state = 5 then lp.tg.rampStep else slewStep lp.tg.rateInUse

/-- End point of ref: the target, or 0 in a soft stop (R139, R225). -/
def Loop.refGoal (lp : Loop) : Nat := if lp.state = 5 then 0 else lp.tg.target * 65536

/-- ref makes its step (R121 step 1, R139). -/
def State.advanceRef (s : State) (l : Nat) : State :=
  let lp := s.loop l
  if lp.tg.moving && (lp.state == 1 || lp.state == 2 || lp.state == 3 || lp.state == 5) then
    s.updLoop l (fun lp => { lp with tg := { lp.tg with ref := stepRef lp.tg.ref lp.refGoal lp.refStep } })
  else s

/-- The loop enters STATE 2 at the end of its soft start (R192, R223, R239). -/
def State.enterRegulating (s : State) (l : Nat) : State :=
  let s2 := s.updLoop l (fun lp =>
    { lp with
      state := 2
      tg := { lp.tg with holdAbove := false }
      pp := { lp.pp with level := s.topLevel l, dwell := 0, entry := true }
      pr := { lp.pr with inHiccup := false, cleanSince := s.now } })
  let s3 := (s2.setLevels l).levelRecord l (s.loop l).pp.level (s.topLevel l)
    (s.countFor l (s.levelCount l (s.topLevel l)) (s.loop l).pp.mark)
  match (s3.target (loopTarget l)).cur with
  | some r => if r.code = 0x0501 then s3.finish (loopTarget l) else s3
  | none => s3

/-- A soft stop has brought ref to 0: the phases go off at their next carrier zero, STATE 0 (R225). -/
def State.softStopEnd (s : State) (l : Nat) : State :=
  let s1 : State :=
    { s with phases := s.phases.updAll {} (s.phasesOf l) (fun _ ph => ph.stopFrom_ s.now) }
  s1.updLoop l (fun lp => lp.halt 0)

/-- The hold of a soft start above its target ends: with a loop sample at or below TARGET, or after ON_RAMP (R223). The loop
enters STATE 2 once ref is at the end point in force. -/
def State.holdEnds (s : State) (l : Nat) : State :=
  let s1 := s.updLoop l (fun lp => { lp with tg := { lp.tg with holdAbove := false } })
  if (s.loop l).tg.ref = (s.loop l).refGoal then s1.enterRegulating l else s1

/-- ref has arrived: target reached, soft start ended, or soft stop ended (R143, R223, R225). -/
def State.refArrived (s : State) (l : Nat) : State :=
  let lp := s.loop l
  let at_ := decide (lp.tg.ref = lp.refGoal)
  if lp.state = 5 then (if lp.tg.ref = 0 then s.softStopEnd l else s)
  else if lp.state = 1 ∨ lp.state = 2 ∨ lp.state = 3 then
    let s1 := if lp.tg.moving && at_ then s.reached l else s
    if lp.state = 1 ∧ (¬lp.tg.holdAbove ∨ lp.sn.sample * 25 ≤ lp.tg.target * 16) then s1.holdEnds l else s1
  else s

/-- A wake ends sleep (R212): the slots ungate at the next loop sample, and the next burst begins at the first carrier zero at
least one loop sample after that. -/
def State.wakeLoop (s : State) (l : Nat) : State :=
  let pp := (s.loop l).pp
  if pp.burst = 2 ∧ pp.burstFrom = none then
    let d := s.now - pp.sleepAt
    s.updLoop l (fun lp =>
      { lp with
        pp := { lp.pp with
          burstFrom := some ((s.now / ticksPerSample + 2) * ticksPerSample), wakeAt := some s.now
          lastSleep := Nat.min (d / 50) 0xFFFF
          shortSleeps := if d < 50 * s.lo l 0xD 8 then satAdd 8 lp.pp.shortSleeps 1 else 0 } })
  else s

/-- A loop sample below ref − WAKE_DEPTH wakes a sleeping loop (R212). -/
def State.sampleWake (s : State) (l : Nat) : State :=
  let lp := s.loop l
  if lp.pp.burst = 2 ∧ lp.sn.sample * 25 * 4096 + s.lo l 0xD 6 * 65536 < lp.tg.ref then s.wakeLoop l else s

/-- Slope trigger, comparator trigger in sleep, Canopy and overshoot release, overshoot trigger at this sample, after
its command was computed (R213, R227, R230, R231). An overshoot trigger within the re-arm time leaves no trace (DESIGN CHOICE, log
entry 149). -/
def State.sampleActions (s : State) (l : Nat) : State :=
  let lp := s.loop l
  let v : Int := (lp.sn.sample * 25 : Nat)
  let ut := if lp.computes then lp.cp.uPrev else lp.cp.u1
  match lp.ac.action with
  | 1 => if lp.ac.canopyThr + 16 * ((lp.ac.actCfg.map (·.hyst)).getD 0 : Nat) ≤ v then s.releaseAction l else s
  | 0 =>
    let w := s.lo l 0xA 4
    if bit (s.lo l 0xA 1) 1 && decide (lp.sn.sample + s.lo l 0xA 5 ≤ lp.sn.hist.getD w 0) && decide (w < lp.sn.hist.length)
        && (lp.state == 2 || lp.state == 3) then s.canopyTrigger l 2 ut
    else if lp.pp.burst = 2 ∧ bit (s.lo l 0xA 1) 0 ∧ v < lp.ac.canopyThr then s.canopyTrigger l 1 ut
    else if s.lo l 0xA 0xA = 1 ∧ s.canopyArmed l ∧ lp.ac.osLevel < v then s.beginAction l 2 0 ut
    else s
  | _ => if v ≤ lp.ac.osLevel - 16 * ((lp.ac.actCfg.map (·.hyst)).getD 0 : Nat) then s.releaseAction l else s

/-- The error sample of a loop at the present sample, with the LIFT of a burst (R121, R210). -/
def Loop.errorNow (lp : Loop) : Int :=
  errorSample (lp.tg.ref + (if lp.pp.burst = 1 then lp.pp.burstLift * 65536 else 0)) lp.sn.sample lp.cp.vd

/-- The error sample is formed at every loop sample, also while the compensator holds (R121, R210). -/
def State.noteError (s : State) (l : Nat) : State :=
  s.updLoop l (fun lp => { lp with sn := { lp.sn with err := lp.errorNow } })

/-- Preset, compensator and checker of a loop at sample n (R123, R147, R210, R230). -/
def State.computeLoop (s : State) (l n : Nat) : State :=
  let lp := s.loop l
  if lp.computes then
    let e := lp.errorNow
    let run (c : LoopComp) : LoopComp :=
      let c0 := match lp.ac.preset with | some p => c.preset (s.presetU l p) | none => c
      (c0.next (s.coefs l) (s.lo l 7 1) (s.lo l 7 2) e).dated n
    let c1 := run lp.cp
    let hits := if s.checkerOn l then s.checkedOn l n else []
    let diffs := hits.map (fun t => (t, checkDiff (s.diag.fresh + t)))
    let s1 := s.updLoop l (fun lp =>
      { lp with
        cp := c1.check (s.lo l 0x11 2) diffs
        pr := { lp.pr with
          own := lp.pr.own.map (fun e => (e.1, e.2.map (fun r =>
            if r.stopped then r else { r with cp := run { r.cp with ff := lp.cp.ff } }))) }
        ac := { lp.ac with preset := none } })
    { s1 with diag := { s1.diag with fresh := if hits.isEmpty then s1.diag.fresh else s1.diag.fresh + 8 } }
  else s

/-- The undervoltage condition of a loop (R448): the latest sample below ref − UV_DEPTH, or its unmanaged comparator. -/
def State.uvCondNow (s : State) (l : Nat) : Bool :=
  let lp := s.loop l
  let c := s.comp (s.anchor l) (17 + 2 * s.anchorSlot l)
  (lp.state == 2 || lp.state == 3) &&
    (decide (lp.sn.sample * 25 * 4096 + s.ob 0x2600 (0x20 + l) * 65536 < lp.tg.ref) ||
      (c.output && c.managed.isNone && !c.masked))

/-- The start of the present spell of the undervoltage condition, or of its absence, is noted (R448). -/
def State.uvLook (s : State) (l : Nat) : State :=
  if s.uvCondNow l = (s.loop l).pr.uvCond then s
  else s.updLoop l (fun lp => { lp with pr := { lp.pr with uvCond := s.uvCondNow l, uvSince := s.now } })

/-- Recovery times that end at this sample, 500,000 where 1 ms has passed (R533, source 7). -/
def State.recoverySample (s : State) (l : Nat) : State :=
  let lp := s.loop l
  if lp.ac.recoverFrom.isEmpty then s
  else
    let back := decide (lp.tg.ref ≤ lp.sn.sample * 25 * 4096 + s.lo l 0xA 3 * 65536)
    let due (t : Nat) : Bool := back || decide (500000 ≤ s.now - t)
    let s1 := (lp.ac.recoverFrom.filter due).foldl
      (fun s t => s.histValue [s.anchor l] 7 l (Nat.min (s.now - t) 500000 : Nat)) s
    s1.updLoop l (fun lp => { lp with ac := { lp.ac with recoverFrom := lp.ac.recoverFrom.filter (fun t => !due t) } })

/-- Loop error and output sample are counted (R533, sources 1 and 2). -/
def State.sampleValues (s : State) (l : Nat) (computed : Bool) : State :=
  let s1 := if computed then s.histValue (s.tilesOf l) 1 l (s.loop l).cp.e1 else s
  s1.histValue [s.anchor l] 2 l ((s.loop l).sn.sample : Int)

/-- The action byte of the state hash after a loop sample: 0 none, 1 Canopy, 2 overshoot, 3 gated in burst sleep (R286). -/
def State.hashAct (s : State) (l : Nat) : State :=
  s.updLoop l (fun lp =>
    { lp with ac := { lp.ac with hashAct := if lp.ac.action ≠ 0 then lp.ac.action else if lp.pp.burst = 2 then 3 else 0 } })

/-- Everything one loop sample does to one enabled loop (R121). -/
def State.sampleLoop (s : State) (cs : List Conv) (n l : Nat) : State :=
  let s1 := (s.senseLoop l (s.convOf cs l)).dischargeEnd l
  let s2 := (s1.advanceRef l).noteError l
  let s3 := (s2.computeLoop l n).sampleValues l (s2.loop l).computes
  (((((s3.recoverySample l).sampleActions l).sampleWake l).refArrived l).uvLook l).hashAct l

/-- Time of the next loop sample (R13). -/
def State.nextSample (s : State) : Nat :=
  if s.now % ticksPerSample = 0 ∧ s.clk.sampleDone < s.now / ticksPerSample then s.now
  else (s.now / ticksPerSample + 1) * ticksPerSample

end Sys2Proof.Machine
end

