-- ==== Sys2Proof/Machine/PwmOps.lean ====
section
/-! DEFINITION. Shared operations of the PWM generator: edge decisions, carrier zeros, moves, truncation, trips, event
taps, the debug halt, and the output that a phase shows (R135 to R138, R157 to R181, R193 to R196). -/

namespace Sys2Proof.Machine

/-- The present time and the later times at which a phase's command changes (R17, R18). -/
def State.dutyTimes (s : State) (p : Nat) : List Nat :=
  s.now :: (match s.dutyLoop p with
    | some l =>
      let a := ticksPerSample * (s.loop l).cp.dutyAt + s.dutyLag l (p / 16)
      [a - ticksPerSample, a].filter (s.now < ·)
    | none => [])

/-! ### Truncation and trips (R174, R175, R177) -/

/-- What a truncation counts (R174, R238); `oc` counts toward hiccup. -/
def PhaseCount.truncated (c : PhaseCount) (oc : Bool) : PhaseCount :=
  { c with
    truncNow := true
    ocNow := c.ocNow || oc
    ocRun := if oc && !c.ocNow then satAdd 8 c.ocRun 1 else c.ocRun
    truncations := if oc then satAdd 32 c.truncations 1 else c.truncations }

/-- A truncation ends the pulse in progress and holds the high side off until the next zero (R174): at once on the ball, so
at the instant of the pulse that the ball shows now. -/
def Phase.truncate (ph : Phase) (now : Nat) (oc : Bool) : Phase :=
  let c := 32 * (now - ph.zeroAt) - 64
  if ph.on && ph.zeroSeen then
    { ph with
      ed := { ph.ed with cut := some (match ph.ed.cut with | some x => Nat.min x c | none => c) }
      ct := ph.ct.truncated oc }
  else ph

/-- Phase p is truncated where it stands: under Canopy until its next carrier zero, or its release where its counter is
stopped (R228, R229); in a debug halt, where it neither counts nor ends before the halt (R180); else its pulse (R174). -/
def State.cutPhase (s : State) (p : Nat) (oc : Bool) : State :=
  let driven := s.canopyOn p
  s.updPhase p (fun ph =>
    if driven then { ph with actCut := some (ph.actCut.getD s.now), ct := ph.ct.truncated oc }
    else if ph.frozen then
      (if (s.haltedBalls p).1 = some true then { ph with haltCut := some s.now } else ph)
    else ph.truncate s.now oc)

/-- Loops that hold some of these phases. -/
def State.loopsHolding (s : State) (ps : List Nat) : List Nat :=
  s.loopList.filter (fun l => s.enabled l && ps.any (fun p => bit (s.phaseSet l) p))

/-- Phases are held off by a trip input of bit b (R175 value 2, SFLT action 1). -/
def State.tripOffSet (s : State) (ps : List Nat) (b : Nat) : State :=
  let s1 := ps.foldl State.flushTaps (s.noteEdges ps s.ballsLive)
  { s1 with phases := s1.phases.updAll {} ps (fun _ ph => { ph with tripOff := setBit ph.tripOff b }) }

/-- A phase that was held off stays off until its next carrier zero, and starts there as at a start (R175, R451); one whose
counter is stopped has none to wait for. -/
def Phase.resume (ph : Phase) (t : Nat) : Phase :=
  if ph.on then
    let ph1 := ph.restart t
    { ph1 with ed := { ph1.ed with offWait := true } }
  else ph

/-- Phases are released from a trip input: they switch again from their next carrier zero (R175). -/
def State.tripOffClear (s : State) (ps : List Nat) (b : Nat) : State :=
  { s with
    phases := s.phases.updAll {} ps (fun _ ph => if bit ph.tripOff b then
      { ph.resume (32 * (s.now - ph.zeroAt)) with tripOff := clrBit ph.tripOff b } else ph) }

/-- TRIPn of tile t is at its active level (R175, R185). -/
def State.tripLevel (s : State) (t n : Nat) : Bool := s.pins.trip.get false (8 * t + n) != (s.ob (0x3800 + 16 * t) (1 + n) == 1)

/-- A trip input of loop l that causes severity-3 safe states is active: TRIP action 3 on a phase of the loop, or SFLT
action 2 on its slot (R221). -/
def State.tripInputActive (s : State) (l : Nat) : Bool :=
  (s.tilesOf l).any (fun t =>
    ([0, 1]).any (fun n =>
      s.ob (0x3800 + 16 * t) (3 + n) == 3 && s.tripLevel t n && (s.tripPhases t n).any (fun p => bit (s.phaseSet l) p)) ||
    (s.ob (0x3800 + 16 * t) 7 == 2 && s.pins.sflt.get false (4 * t + s.slotOf l t)))

/-! ### What a phase shows (R184, R219) -/

/-- PHASE_STATUS:01. Where several apply, frozen comes before safe state, tripped, off, an exact code, and loop or manual; a
raw value at or beyond H shows as exact 100 % (DESIGN CHOICE, log entry 110). -/
def State.outputOf (s : State) (p : Nat) : Nat :=
  let ph := s.phase p
  let safe := match s.loopOf p with | some l => s.loopSafe l | none => s.manual p && ph.on && !s.pins.safeIn
  let asleep := match s.dutyLoop p with | some l => (s.loop l).pp.burst == 2 | none => false
  if ph.frozen then 7
  else if safe then 6
  else if ph.tripOff ≠ 0 ∨ ph.haltOff then 5
  else if s.canopyOn p then 1
  else if ph.on = false ∨ ph.reload ∨ ph.ed.offWait ∨ asleep then 0
  else if ph.ed.exact = 1 then 3
  else if ph.ed.exact = 2 then 4
  else if (s.dutyLoop p).isSome then 1 else 2

/-- A trip input acting on the phase is active (R184). -/
def State.tripActive (s : State) (p : Nat) : Bool :=
  let t := p / 16
  ([0, 1]).any (fun n => s.ob (0x3800 + 16 * t) (3 + n) != 0 && s.tripLevel t n && (s.tripPhases t n).contains p) ||
  (List.range 4).any (fun k => s.pins.sflt.get false (4 * t + k) && (s.sfltPhases t k).contains p) ||
  (s.comp t (p % 16)).output || !s.pins.safeIn

/-- PHASE_STATUS:02 (R184). -/
def State.phaseFlags (s : State) (p : Nat) : Nat :=
  let ph := s.phase p
  b2n (s.tripActive p) + 2 * b2n (ph.ct.truncNow || ph.ct.truncLast) + 4 * b2n (ph.ct.skipNow || ph.ct.skipLast) +
    8 * b2n (ph.ct.omitNow || ph.ct.omitLast) + 16 * b2n ph.ct.stuck + 32 * b2n ph.frozen + 64 * b2n ph.cfg.raw +
    128 * b2n ph.ed.beyond

end Sys2Proof.Machine
end

