-- ==== Sys2Proof/Machine/PopOps.lean ====
section
/-! DEFINITION. Shared operations of phase population: telemetry values used by the part, decided counts, shed levels,
thermal shed, share error, trim learning, burst and preview (R189 to R213, R233 to R236, R242, R307). -/

namespace Sys2Proof.Machine

/-! ### Values from telemetry (R307) -/

/-- Current of a phase in mA from its LATEST result in 0.1 mV (R307, R250); `none` before any result. -/
def State.phaseMa (s : State) (p : Nat) : Option Int :=
  ((s.tile (p / 16)).latest.get none (p % 16)).map
    (fun v => fitDiv 32 (((v : Int) - 10 * s.po p 3 3) * 100000) (s.po p 3 2))

/-- TMONk of a tile in mV (R307). -/
def State.tmonMv (s : State) (t k : Nat) : Option Nat := ((s.tile t).latest.get none (0x10 + k)).map (fun v => roundUp v 10)

/-- The channel that the FF_ENTRY of a loop names (R150, R307). -/
def State.ffChannel (s : State) (l : Nat) : Nat :=
  let e := s.lo l 0 0xB
  field (s.ob (0x3A01 + 32 * s.anchor l + field e 6 1) (field e 0 6 + 1)) 0 7

/-- VIN of a loop in mV, once its entry has given a result since the loop's start (R127, R307). -/
def State.vinMv (s : State) (l : Nat) : Option Nat :=
  if (s.loop l).cp.ffSeen then ((s.tile (s.anchor l)).latest.get none (s.ffChannel l)).map (fun v => roundUp v 10) else none

/-- Sum of the phase currents of a loop on one tile, mA (R133, R282). -/
def State.tileSum (s : State) (l t : Nat) : Int :=
  fitI 32 (((s.phasesOf l).filter (fun p => p / 16 == t)).foldl (fun a p => a + (s.phaseMa p).getD 0) 0)

/-- Loop temperature in 0.1 °C from a TMON result in mV (R242). -/
def State.tempOf (s : State) (l mv : Nat) : Int :=
  fitDiv 16 (((mv : Int) - s.lo l 0xF 2) * 10000) (s.lo l 0xF 1)

/-- The larger of two readings, where there are any. -/
def maxOpt (a b : Option Int) : Option Int :=
  match a, b with
  | some x, some y => some (max x y)
  | some x, none => some x
  | none, y => y

/-- Loop current from the frame slots that have arrived; `none` while one is missing (R133, R134, R323). -/
def State.slotCurrent (s : State) (l : Nat) : Option Int :=
  (s.tilesOf l).foldl (fun a t =>
    match a, s.link.isum.get none (4 * t + s.slotOf l t) with
    | some x, some y => some (x + y)
    | _, _ => none) (some 0)

/-- Loop temperature from the frame slots that have arrived (R242, R323). -/
def State.slotTemp (s : State) (l : Nat) : Option Int :=
  (s.tilesOf l).foldl (fun a t => maxOpt a ((s.link.tmon.get none (4 * t + s.slotOf l t)).map (s.tempOf l))) none

/-- Highest die temperature of a loop's tiles from the frame slots, 0.1 °C (R242). -/
def State.slotDie (s : State) (l : Nat) : Option Int :=
  (s.tilesOf l).foldl (fun a t => maxOpt a (s.link.die.get none t)) none

/-! ### Counts (R191 to R199) -/

/-- The count and thermal mark that hold once everything decided is applied. -/
def LoopPop.aim (pp : LoopPop) : Nat × Option Nat :=
  match pp.decided.getLast? with
  | some d => (d.count, d.thermal)
  | none => (pp.active, pp.thermal)

/-- A count is decided, to be applied from `start` on (R199); nothing where it is the one that holds already. -/
def LoopPop.decide_ (pp : LoopPop) (d : Decision) : LoopPop :=
  if pp.aim = (d.count, d.thermal) then pp else { pp with decided := pp.decided ++ [d] }

/-- min(C_level, BUDGET) by λ (R191, R197); while learning runs nothing bounds the count (R206), in a soft start BUDGET
alone (R192). -/
def State.wantCap (s : State) (l : Nat) (lam : Int) : Nat :=
  if s.learning l then noCap
  else if (s.loop l).state = 1 then s.capFor l noCap
  else s.capFor l (s.levelCount l lam)

/-- The place of a phase in the population. -/
def Phase.place (ph : Phase) : PopPlace :=
  ⟨ph.on, ph.zeroSeen, ph.zeroAt, ph.offset, ph.move, ph.moveFrom, ph.stopping, ph.stopFrom, ph.cfg⟩

/-- The count of a preview does not reach a phase (R280, R288): it stays as it was when the preview fired. -/
def Phase.missCount (ph : Phase) : Phase :=
  let b := ph.popBefore
  if b.on = false then (if ph.on then ph.off else ph)
  else if b.zeroSeen then
    { ph with offset := b.offset, move := b.move, moveFrom := b.moveFrom, stopping := b.stopping, stopFrom := b.stopFrom }
  else
    { ph with
      on := true, zeroSeen := false, zeroAt := b.zeroAt, cfg := b.cfg, offset := b.offset, move := b.move
      moveFrom := b.moveFrom, stopping := b.stopping, stopFrom := b.stopFrom }

/-- One phase meets a new count at B (R194, R195): it starts, moves, or goes off at its first carrier zero from B on. A phase
that still has the period of before moves at the swap of its period, by that one move (R196). -/
def Phase.repopulate (ph : Phase) (b : Nat) (cfg : PhaseCfg) (off : Option Nat) : Phase :=
  match off with
  | none => if ph.on then (if ph.zeroSeen then ph.stopFrom_ b else ph.off) else ph
  | some o =>
    if ph.on && ph.zeroSeen then
      if cfg.half ≠ ph.cfg.half ∨ (ph.offset = o ∧ ph.stopping = false) then { ph with stopping := false }
      else
        { ph with
          stopping := false, offset := o, moveFrom := b
          move := moveDelta o (ph.zeroAt + 2 * ph.cfg.half) (2 * ph.cfg.half) }
    else if ph.on && ph.offset == o && cfg.half == ph.cfg.half then ph
    else ph.start b cfg o

/-- A count, by min(C_level, BUDGET) and its thermal mark, takes effect at B on every phase of the loop (R190, R191, R193 to
R195). -/
def State.applyCount (s : State) (l cap : Nat) (th : Option Nat) (b : Nat) : State :=
  let s1 := s.updLoop l (fun lp => { lp with pp := { lp.pp with thermal := th, cap := cap } })
  let lst := s1.spreadList l (s.capCount l cap th)
  let s2 : State :=
    { s1 with
      phases := s1.phases.updAll {} (s1.phasesOf l)
        (fun p ph => ph.repopulate b (s1.phaseNow p) ((lst.find? (fun e => e.1 == p)).map (·.2))) }
  s2.updLoop l (fun lp => { lp with pp := { lp.pp with active := lst.length } })

/-- The loop's phases switch, or sleep between bursts: STATE 1, 2, 3 and 5. -/
def Loop.switches (lp : Loop) : Bool := lp.state == 1 || lp.state == 2 || lp.state == 3 || lp.state == 5

/-- At a loop carrier boundary, the decided counts that are due take effect, the latest of them last (R194, R199). -/
def State.applyDue (s : State) (l : Nat) : State :=
  let due := (s.loop l).pp.decided.filter (fun d => decide (d.start ≤ s.now))
  let s1 := s.updLoop l (fun lp =>
    { lp with pp := { lp.pp with decided := lp.pp.decided.filter (fun d => decide (s.now < d.start)) } })
  match due.getLast? with
  | none => s1
  | some d =>
    if (s.loop l).switches then s1.applyCount l d.cap d.thermal s.now
    else s1.updLoop l (fun lp => { lp with pp := { lp.pp with thermal := d.thermal } })

/-- The loop's level becomes λ and the count that follows is decided at this frame boundary (R191, R199). -/
def State.setLevel (s : State) (l : Nat) (lam : Int) (th : Option Nat) (shed : Bool) : State :=
  let before := (s.loop l).pp.level
  let d := s.decision l (s.wantCap l lam) th before ((s.frame + 1) * ticksPerFrame) shed
  let s1 := s.updLoop l (fun lp => { lp with pp := { lp.pp.decide_ d with level := lam, mark := th } })
  s1.levelRecord l before lam d.count

/-! ### Shed levels (R197, R198) -/

/-- I in use in mA, 0 before the first sum has arrived. -/
def State.current (s : State) (l : Nat) : Int := (s.loop l).sn.iNow.getD 0

/-- Highest of some levels, from `lo` on, whose threshold less `hyst` the current reaches (thresholds in 0.1 A, I in mA). -/
def State.levelFor (s : State) (l : Nat) (levels : List (Nat × Nat × Nat)) (lo : Int) (hyst : Nat) : Option Int :=
  (levels.filter (fun e => decide (lo ≤ (e.1 : Int)) &&
      decide (((e.2.1 : Int) - hyst) * 100 ≤ s.current l))).getLast?.map (fun e => (e.1 : Int))

/-- The level in use is no longer used (R197). -/
def State.levelGone (s : State) (l : Nat) : Bool :=
  let lam := (s.loop l).pp.level
  decide (0 ≤ lam) && s.lo l 0xC (8 + lam.toNat) % 256 == 0

/-- The settings under which a dwell would begin now (R74, R198). -/
def State.dwellNow (s : State) (l : Nat) : DwellCfg :=
  { len := s.lo l 0xC 4, hyst := s.lo l 0xC 3, min := s.lo l 0xC 2, levels := s.levels l }

/-- The settings of the dwell in progress, or of one that would begin now. -/
def State.dwellSet (s : State) (l : Nat) : DwellCfg :=
  if (s.loop l).pp.dwell = 0 then s.dwellNow l else (s.loop l).pp.dwellCfg

/-- λ after the evaluation of a frame boundary, and the dwell count it leaves (R198, R74). The dwell stops at DWELL; the
shed itself is the command SHED_DWELL_EXPIRY. While ENABLE is 0 no level is in use and λ stays, but for a dwell in progress
(DEDUCED, log entry 115). -/
def State.evalLevel (s : State) (l : Nat) : Int × Nat :=
  let pp := (s.loop l).pp
  let lam := pp.level
  let c := s.dwellSet l
  let low : Bool := match c.levels.find? (fun e => (e.1 : Int) == lam) with
    | some e => decide (s.current l < ((e.2.1 : Int) - c.hyst) * 100)
    | none => false
  match (if s.lo l 0xC 1 = 0 then none else s.levelFor l (s.levels l) (lam + 1) 0) with
  | some j => (j, 0)
  | none =>
    if (s.lo l 0xC 1 != 0 || pp.dwell != 0) && low && !pp.trigFrame then (lam, Nat.min (pp.dwell + 1) c.len)
    else (lam, 0)

/-- A level in use that is used no more is evaluated again (R197): λ, the dwell cleared, the record. -/
def State.levelLook (s : State) (l : Nat) : State :=
  if s.levelGone l then
    let lam := (s.levelFor l (s.levels l) 0 0).getD (-1)
    let s1 := s.updLoop l (fun lp => { lp with pp := { lp.pp with level := lam, dwell := 0, keep := false } })
    s1.levelRecord l (s.loop l).pp.level lam (s.capCount l (s.wantCap l lam) (s.loop l).pp.mark)
  else s

/-! ### Thermal shed (R201) -/

/-- Candidates for the mark: active phases that are not excluded. -/
def State.shedCandidates (s : State) (l : Nat) : List Nat :=
  (s.activeSet l (s.loop l).pp.active).filter (fun p => s.po p 4 1 == 0)

/-- TMON of a loop's slot on a tile as the frame slot brought it; below every reading where there is none. -/
def State.tmonOn (s : State) (l t : Nat) : Int :=
  match s.link.tmon.get none (4 * t + s.slotOf l t) with
  | some v => v
  | none => -1

/-- The hottest tile that holds a candidate, ties to the lower number. -/
def State.hotTile (s : State) (l : Nat) (cs : List Nat) : Option Nat :=
  ((s.tilesOf l).filter (fun t => cs.any (fun p => p / 16 == t))).foldl (fun b t =>
    match b with
    | none => some t
    | some u => if s.tmonOn l u < s.tmonOn l t then some t else some u) none

/-- The phase that a warning marks (R201). -/
def State.pickShed (s : State) (l : Nat) : Option Nat :=
  let cs := s.shedCandidates l
  if (s.enabledPhases l).length < 2 then none
  else match s.hotTile l cs with
    | none => none
    | some t => ((s.ranked l).filter (fun p => cs.contains p && p / 16 == t)).getLast?

/-- A mark would leave the loop without an active phase (R201). -/
def State.markEmpties (s : State) (l : Nat) (th : Option Nat) : Bool :=
  match th with
  | some p => (s.enabledPhases l).all (· == p)
  | none => false

/-- The mark after this frame boundary. -/
def State.thermalMark (s : State) (l : Nat) : Option Nat :=
  let lp := s.loop l
  if s.lo l 0xC 5 = 0 ∧ lp.pp.mark = none then none
  else if lp.pr.otState = 0 ∨ s.markEmpties l lp.pp.mark then none
  else match lp.pp.mark with
    | some p => some p
    | none => s.pickShed l

/-- THERMAL_SHEDS of a newly marked phase. -/
def State.countMark (s : State) (l : Nat) (th : Option Nat) : State :=
  match th with
  | some p =>
    if (s.loop l).pp.mark = none then
      s.updPhase p (fun ph => { ph with ct := { ph.ct with thermalSheds := satAdd 32 ph.ct.thermalSheds 1 } })
    else s
  | none => s

/-- A preview of the loop is pending or applied (R235). -/
def Loop.previewing (lp : Loop) : Bool := !lp.pv.fired.isEmpty

/-- min(C_level, BUDGET) and the thermal mark that hold from the next loop carrier boundary on: those of the latest decision that
is due there, or else those in use (R191, R199). A loop in burst operation keeps one active phase (R209; DESIGN CHOICE, log entry
137). -/
def State.capInUse (s : State) (l : Nat) : Nat × Option Nat :=
  let pp := (s.loop l).pp
  let e := match (pp.decided.filter (fun d => decide (d.start ≤ s.now))).getLast? with
    | some d => (d.cap, d.thermal)
    | none => (pp.cap, pp.thermal)
  if (s.loop l).state = 3 then (1, e.2) else e

/-- min(C_level, BUDGET) that the loop has at this frame boundary where no level is evaluated: that of its preview, of its state,
or of its level (R191, R192, R206, R235). -/
def State.capNow (s : State) (l : Nat) : Nat :=
  let lp := s.loop l
  if lp.state = 3 ∨ lp.state = 5 then (s.capInUse l).1
  else if lp.previewing || lp.pp.keep then s.capFor l noCap
  else s.wantCap l lp.pp.level

/-- A change of the enabled set, the order or the spread takes effect at the next loop carrier boundary (R72, R189, R190,
R193): with the level count, BUDGET and mark in use, since a change of those is applied under R199. A mark that would leave no
active phase ends there (R201). -/
def State.respreadNow (s : State) (l : Nat) : State :=
  let lp := s.loop l
  let e := s.capInUse l
  if lp.pp.respread && lp.switches then
    let d := s.decision l e.1 (if s.markEmpties l e.2 then none else e.2) lp.pp.level s.now false
    s.updLoop l (fun lp => { lp with pp := { lp.pp with respread := false, decided := lp.pp.decided ++ [d] } })
  else s.updLoop l (fun lp => { lp with pp := { lp.pp with respread := false } })

/-- A count is decided at this frame boundary without a change of the level (R199). -/
def State.decideCount (s : State) (l cap : Nat) (th : Option Nat) : State :=
  s.updLoop l (fun lp =>
    { lp with
      pp := { lp.pp.decide_ (s.decision l cap th lp.pp.level ((s.frame + 1) * ticksPerFrame) false) with mark := th } })

/-- Population at a frame boundary: the thermal mark, a level that is used no more, a changed spread, the entry to
regulation, the level and the count (R189 to R192, R197 to R201). After a preview its count, by the present BUDGET, E and
s_th, stays until the level changes (R200, R235). -/
def State.populate (s : State) (l : Nat) : State :=
  let th := s.thermalMark l
  let before := (s.loop l).pp.level
  let s0 := ((s.countMark l th).levelLook l).respreadNow l
  let lp := s0.loop l
  let clear (s : State) : State := s.updLoop l (fun lp => { lp with pp := { lp.pp with trigFrame := false } })
  let sameCount : State :=
    if th = lp.pp.mark then s0
    else s0.decideCount l (s0.capNow l) th
  if lp.state = 1 then clear (s0.setLevel l lp.pp.level th false)
  else if lp.state ≠ 2 ∨ lp.previewing then clear sameCount
  else if lp.pp.entry then
    let s1 := s0.setLevel l lp.pp.level th false
    clear (s1.updLoop l (fun lp => { lp with pp := { lp.pp with entry := false } }))
  else if s0.learning l then clear (s0.setLevel l lp.pp.level th false)
  else
    let e := s0.evalLevel l
    let c := s0.dwellSet l
    let s1 := s0.updLoop l (fun lp => { lp with pp := { lp.pp with dwell := e.2, dwellCfg := c } })
    if lp.pp.keep && e.1 == before then clear (s1.decideCount l (s0.capFor l noCap) th)
    else
      let s2 := s1.updLoop l (fun lp => { lp with pp := { lp.pp with keep := false } })
      clear (s2.setLevel l e.1 th (decide (e.1 < lp.pp.level)))

/-! ### Share error (R204, R205) -/

/-- e_p in 0.1 % (R204): the phase current against the mean of the active phases. -/
def shareError (ip total : Int) (n : Nat) : Int :=
  if total = 0 then Config.shareZero ip
  else if 0 < total then fitI 16 (roundAway ((ip * n - total) * 1000) total.natAbs)
  else fitI 16 (roundAway ((total - ip * n) * 1000) total.natAbs)

/-- Monitoring runs for the loop (R205). -/
def State.monitored (s : State) (l : Nat) : Bool :=
  s.lo l 0x10 3 != 0 && decide (((s.lo l 0x10 0xC * s.lo l 0x10 3 : Nat) : Int) ≤ s.current l) &&
    (s.loop l).sn.iNow.isSome

/-- Share error, run and window sum of one phase at a frame boundary (R204, R205, R326). -/
def State.sharePhase (s : State) (l : Nat) (act : List Nat) (p : Nat) (ph : Phase) : Phase :=
  if act.contains p then
    match s.phaseMa p, (s.loop l).sn.iNow with
    | some ip, some tot =>
      let e := shareError ip tot act.length
      let lim : Int := s.lo l 0x10 0xB
      let mon := s.monitored l
      { ph with
        tl := { ph.tl with
          share := some e
          shareRun := if mon && decide (lim < (e.natAbs : Int)) then ph.tl.shareRun + 1 else if mon then 0 else ph.tl.shareRun
          shareTold := ph.tl.shareTold && !(mon && decide ((e.natAbs : Int) < lim - 20))
          shareSum := if mon then ph.tl.shareSum + e else ph.tl.shareSum
          shareCnt := if mon then ph.tl.shareCnt + 1 else ph.tl.shareCnt } }
    | _, _ => { ph with tl := { ph.tl with share := none } }
  else { ph with tl := { ph.tl with share := none, shareRun := 0 } }

/-- Share errors of a loop (R204), counted in monitored frames (R533 source 5). -/
def State.shareLoop (s : State) (l : Nat) : State :=
  let act := if (s.loop l).pp.active = 0 then [] else s.activeSet l (s.loop l).pp.active
  let s1 : State := { s with phases := s.phases.updAll {} (s.phasesOf l) (fun p ph => s.sharePhase l act p ph) }
  if s.monitored l then
    act.foldl (fun s p => match (s.phase p).tl.share with
      | some e => s.histValue [p / 16] 5 p e
      | none => s) s1
  else s1

/-! ### Trim learning (R206 to R208) -/

/-- Writing 1 to LOOP_TRIM_LEARN:01 is accepted (R206). -/
def State.mayLearn (s : State) (l : Nat) : Bool :=
  let lp := s.loop l
  lp.state == 2 && lp.pp.burst == 0 && s.lo l 0x10 3 != 0 &&
    decide (((30 * s.lo l 0x10 3 : Nat) : Int) ≤ s.current l) && lp.pp.thermal.isNone && lp.pp.mark.isNone &&
    (s.lo l 0xC 7 == 0 || decide ((s.enabledPhases l).length ≤ s.lo l 0xC 7)) && !s.learning l

/-- Learning starts (R206, R207); the dwell counts of shedding and of the entry to burst operation begin again after it (DESIGN
CHOICE, log entry 146). -/
def State.startLearn (s : State) (l : Nat) : State :=
  let ps := s.enabledPhases l
  let s1 := s.updLoop l (fun lp =>
    { lp with
      pp := { lp.pp with
        learn := 1, learnI0 := s.current l, learnIter := 0, learnFrames := 0, learnWorst := 0, learnSaved := false
        learnPhases := ps, learnNo := false
        dwell := 0, burstDwell := 0 } })
  { s1 with
    phases := s1.phases.updAll {} ps (fun p ph =>
      { ph with tl := { ph.tl with trimBefore := toInt 8 (s.po p 1 1), learnSum := 0 } }) }

/-- The phases that learn: those enabled at its start that still are (R189, R207). -/
def State.learners (s : State) (l : Nat) : List Nat :=
  (s.loop l).pp.learnPhases.filter (fun p => (s.enabledPhases l).contains p)

/-- Learning at a frame boundary: abort on the current or a warning, else count the frame and add the currents (R207,
R208). -/
def State.learnFrame (s : State) (l : Nat) : State :=
  let lp := s.loop l
  if s.learning l = false then s
  else if lp.state ≠ 2 ∨ lp.pr.otState ≠ 0 ∨
      10 * (s.current l - lp.pp.learnI0).natAbs > lp.pp.learnI0.natAbs then s.abortLearn l
  else
    let settle := s.lo l 0x10 7
    let k := lp.pp.learnFrames + 1
    let st := if settle ≤ k then 2 else 1
    let s1 := s.updLoop l (fun lp =>
      { lp with pp := { lp.pp with learnFrames := k, learn := st, learnNo := lp.pp.learnNo && lp.pp.learn == st } })
    if settle < k then
      { s1 with
        phases := s1.phases.updAll {} (s.learners l) (fun p ph =>
          { ph with tl := { ph.tl with learnSum := ph.tl.learnSum + (s.phaseMa p).getD 0 } }) }
    else s1

/-- Frames of one learning iteration. -/
def State.learnLength (s : State) (l : Nat) : Nat := s.lo l 0x10 7 + s.lo l 0x10 6

/-- Mean currents of the iteration in 0.1 A (R207). -/
def State.learnMeans (s : State) (l : Nat) : List (Nat × Int) :=
  (s.learners l).map (fun p => (p, roundAway (s.phase p).tl.learnSum (100 * Nat.max 1 (s.lo l 0x10 6))))

/-- Trim step of one phase in fine ticks (R207). -/
def learnStep (ip avg : Int) (sens : Nat) : Int := clampI (roundAway (10 * (ip - avg)) (Nat.max 1 sens)) (-4) 4

/-- The new trims of an iteration (R207). -/
def newTrims (ips : List (Nat × Int)) (avg : Int) (sens : Nat) (old : Nat → Int) : List (Nat × Int) :=
  let t1 := ips.map (fun e => (e.1, old e.1 - learnStep e.2 avg sens))
  let m := meanAway (t1.foldl (fun a e => a + e.2) 0) t1.length
  t1.map (fun e => (e.1, clampI (e.2 - m) (-32) 32))

/-- An iteration ends (R207): success, another iteration with new trims, or no convergence. SAVED reads 1 once the Cellar
writes of a success are requested, until a new run starts (DESIGN CHOICE, log entry 116). -/
def State.learnIteration (s : State) (l : Nat) : State :=
  let ips := s.learnMeans l
  let avg := meanAway (ips.foldl (fun a e => a + e.2) 0) ips.length
  let worst : Int := ips.foldl (fun m e => max m (if avg = 0 then Config.shareZero e.2 else
    roundAway ((((e.2 - avg).natAbs : Nat) : Int) * 1000) avg.natAbs)) 0
  let it := (s.loop l).pp.learnIter + 1
  let note (s : State) (st : Nat) (saved : Bool) : State :=
    s.updLoop l (fun lp =>
      { lp with
        pp := { lp.pp with
          learn := st, learnIter := it, learnFrames := 0, learnNo := false, learnWorst := fitI 16 worst, learnSaved := lp.pp.learnSaved || saved } })
  if worst ≤ s.lo l 0x10 5 then
    let s1 := note s 3 true
    let s2 : State :=
      { s1 with
        phases := s1.phases.updAll {} (s.learners l) (fun p ph =>
          { ph with tl := { ph.tl with learned := toInt 8 (s.po p 1 1) } }) }
    let s3 := ((s.tilesOf l).filter (s.holds l)).foldl State.keepTrims s2
    s3.loopReport srcReg l 0x030A 1 [3, it]
  else if s.lo l 0x10 8 ≤ it then
    let s1 := note (s.restoreTrims l) 6 false
    s1.loopReport srcReg l 0x030A 1 [6, it]
  else
    let s1 := note s 1 false
    let trims := newTrims ips avg (s.lo l 0x10 4) (fun p => toInt 8 (s.po p 1 1))
    { s1 with
      obj := trims.foldl (fun o e => o.put (okey (phaseIdx e.1 1) 1) (ofInt 8 e.2)) s1.obj
      phases := s1.phases.updAll {} (s.learners l) (fun _ ph => { ph with tl := { ph.tl with learnSum := 0 } }) }

/-! ### Burst (R209 to R213) -/

/-- The loop qualifies for burst operation in this frame (R209). -/
def State.burstFit (s : State) (l : Nat) : Bool :=
  let lp := s.loop l
  lp.state == 2 && lp.pp.active == 1 && decide (s.current l < 100 * (s.lo l 0xD 3 : Int)) && s.lo l 0xD 1 == 1 &&
    s.lo l 0xD 2 == 1 && !s.learning l

/-- The entry dwell at a frame boundary (R209). -/
def State.burstFrame (s : State) (l : Nat) : State :=
  s.updLoop l (fun lp =>
    { lp with
      pp := { lp.pp with
        burstDwell := if s.burstFit l then Nat.min (lp.pp.burstDwell + 1) (s.lo l 0xD 4) else 0 } })

/-- The only active phase of a loop in burst operation. -/
def State.burstPhase (s : State) (l : Nat) : Nat := (s.activeSet l 1).headD 0

/-- First carrier zero of a running phase at or after `t` (R158, R160). -/
def Phase.zeroFrom (ph : Phase) (t : Nat) : Nat :=
  if t ≤ ph.zeroAt then ph.zeroAt else ph.zeroAt + (t - ph.zeroAt + 2 * ph.cfg.half - 1) / (2 * ph.cfg.half) * (2 * ph.cfg.half)

/-- A burst of the loop begins at the present carrier zero of its active phase, whose own command may be still to come (R209,
R210). -/
def State.beginBurst (s : State) (l : Nat) : State :=
  s.updLoop l (fun lp =>
    { lp with
      pp := { lp.pp with
        burst := 1, burstFrom := none, burstLift := s.lo l 0xD 7
        burstLeft := s.lo l 0xD 5 + b2n (decide ((s.phase (s.burstPhase l)).zeroAt < s.now)) } })

/-- The zero that ends the present burst, after PERIODS carrier periods of the active phase: the one that its counter has reached,
or the one it is to reach with its present and its next carrier period (R210). -/
def State.burstEnd (s : State) (l : Nat) : Nat :=
  let ph := s.phase (s.burstPhase l)
  match (s.loop l).pp.burstLeft with
  | 0 => ph.zeroAt
  | n + 1 => ph.nextZero + n * s.nextPeriod l

/-- ALLOW or ENABLE has become 0 during burst operation: it ends (R213). -/
def State.burstForbidden (s : State) (l : Nat) : State :=
  if (s.loop l).pp.burst ≠ 0 ∧ (s.lo l 0xD 1 = 0 ∨ s.lo l 0xD 2 = 0) then s.endBurst l 3 else s

/-! ### Preview (R233 to R236) -/

/-- Δd of a preview (R235), 2^-16 duty. -/
def State.previewStep (s : State) (l : Nat) (p : Preview) : Nat :=
  Nat.min (s.lo l 0xB 9) (roundUp (p.mag * s.lo l 0xB (2 + p.cls) * s.lo l 0xB 6 * (s.loop l).cp.fv) (2560 * 16384))

/-- Consumption: λ becomes the highest used level, the dwell is cleared, the preview count stays (R235). -/
def State.consume (s : State) (l : Nat) : State :=
  let lam := s.topLevel l
  let s1 := s.updLoop l (fun lp => { lp with pp := { lp.pp with level := lam, dwell := 0, keep := true } })
  s1.levelRecord l (s.loop l).pp.level lam (s.loop l).pp.active

/-- The preview count (R235 step 1). -/
def State.previewCount (s : State) (l : Nat) : Nat := s.softCount l (s.loop l).pp.mark

/-- A preview fires at the present instant (R235): burst ends, the shed is cancelled, the count applies at B; it does so while
Canopy acts, too (R234; DESIGN CHOICE, log entry 150). -/
def State.firePreview (s : State) (l : Nat) (p : Preview) : State :=
  let b := s.now + 12
  let s1 := (s.abortLearn l).endBurst l 1
  let s2 := s1.updLoop l (fun lp =>
    let lp := lp.cancelShed
    { lp with
      pp := { lp.pp with decided := [] }
      pv := { lp.pv with
        armed := none, lastFire := some s.now, firedCount := wrapAdd 32 lp.pv.firedCount 1
        fired := lp.pv.fired ++
          [⟨s.now, s.now + 50 * p.lead, s.now + 50 * p.lead + 50 * s.lo l 0xB 7, s.previewStep l p, false, 0⟩] } })
  let s3 := (s2.loopReport srcTrans l 0x0404 0 [p.cls, p.mag, p.lead]).latch l 2
  let s4 : State := { s3 with phases := s3.phases.updAll {} (s3.phasesOf l) (fun _ ph => { ph with popBefore := ph.place }) }
  s4.applyCount l (s4.capFor l noCap) (s.loop l).pp.mark b

end Sys2Proof.Machine
end

