-- ==== Sys2Proof/Machine/CompOps.lean ====
section
/-! DEFINITION. Shared operations of comparators, telemetry triggers, and the capture unit: managers, holds,
activations and releases (R302 to R305, R321, R327 to R333, R447, R571, R538 to R541). -/

namespace Sys2Proof.Machine

/-! ### Managers and thresholds (R327, R331) -/

/-- The loop whose LOCAL_SENSE is VMONj of tile t (R321). -/
def State.plausLoop (s : State) (t j : Nat) : Option Nat :=
  s.loopList.find? (fun l => s.enabled l && s.anchor l == t && s.lo l 0x13 7 == j)

/-- Plausibility runs for the loop (R321). -/
def State.plausible (s : State) (l : Nat) : Bool :=
  s.md.mode == .run && ((s.loop l).state == 2 || (s.loop l).state == 3) && s.lo l 0x13 7 != 0xFF

/-- Rail n manages the window comparators of its VMON input (R348). -/
def State.railManages (s : State) (n : Nat) : Bool := s.rr n 0 1 == 1 && bit (s.rr n 0 5) 1

/-- The manager of R327 that holds comparator c of tile t, 0 for none. -/
def State.managerHolds (s : State) (t c : Nat) : Nat :=
  let k := s.comp t c
  if c < 16 then 1
  else if k.managed.isSome then k.manager
  else if 24 ≤ c then
    (if (s.plausLoop t ((c - 24) / 2)).isSome then 5 else if s.railManages (16 * t + (c - 24) / 2) then 2 else 0)
  else 0

/-- MANAGER of comparator c of tile t: 6 during an open-wire check (R331, R343). -/
def State.managerOf (s : State) (t c : Nat) : Nat := if (s.comp t c).masked then 6 else s.managerHolds t c

/-- DAC code of a phase over-current comparator (R237). -/
def State.ocCode (s : State) (p : Nat) : Nat :=
  fitN 10 (((s.po p 3 3 * 10000 + s.po p 3 1 * s.po p 3 2 : Nat) : Int) / 15625)

/-- THRESHOLD_IN_USE of comparator c of tile t (R343). -/
def State.thresholdOf (s : State) (t c : Nat) : Nat :=
  let n := 16 * t + (c - 24) / 2
  if c < 16 then s.ocCode (16 * t + c)
  else match (s.comp t c).managed with
    | some v => v
    | none =>
      if 24 ≤ c ∧ s.railManages n then
        (if c % 2 = 0 then s.rr n 2 1 else if (s.rail n).on then s.rr n 2 2 else s.rr n 2 3)
      else s.ob (compIdx t c) 2

/-- The comparator is held inactive (R38, R321, R327): one of a plausibility check until its first thresholds in STATE 2 or
3. -/
def State.compHeld (s : State) (t c : Nat) : Bool :=
  s.md.mode == .reset ||
  (decide (16 ≤ c) && decide (c < 24) && (s.anchoredAt t ((c - 16) / 2)).isNone) ||
  (decide (24 ≤ c) && (match s.plausLoop t ((c - 24) / 2) with
    | some l => !s.plausible l || (s.comp t c).managed.isNone
    | none => false))

/-- HYST in use, mV (R321, R343). -/
def State.hystOf (s : State) (t c : Nat) : Nat :=
  if (s.comp t c).managed.isSome ∧ (s.comp t c).manager = 5 then 4 else 2 * s.ob (compIdx t c) 3

/-- The input level that a comparator's input must pass to activate it, 0.1 µV (R327, R328). -/
def State.activeLevel (s : State) (t c : Nat) : Int := ((s.thresholdOf t c * 15625 : Nat) : Int)

/-- The input level past which an active comparator releases, 0.1 µV (R328). -/
def State.releaseLevel (s : State) (t c : Nat) : Int :=
  if c < 16 ∨ c % 2 = 0 then s.activeLevel t c - ((10000 * s.hystOf t c : Nat) : Int)
  else s.activeLevel t c + ((10000 * s.hystOf t c : Nat) : Int)

/-! ### Activation and release (R327 to R333) -/

/-- Capture timers of a tile latch an edge of comparator c, the fixed input path subtracted (R333). -/
def State.captureEdge (s : State) (t c : Nat) (active : Bool) : State :=
  (List.range 8).foldl (fun s i =>
    let idx := compIdx t (56 + i)
    if s.ob idx 1 = c ∧ bit (s.ob idx 2) (if active then 0 else 1) then
      s.updComp t (56 + i) (fun k =>
        { k with
          lastActive := if active then s.now - Config.inputPath else k.lastActive
          lastRelease := if active then k.lastRelease else s.now - Config.inputPath
          edges := wrapAdd 32 k.edges 1 })
    else s) s

/-- The event that ROUTE selects for an edge (R332). -/
def State.routeEdge (s : State) (t c : Nat) (active : Bool) : State :=
  if bit (s.ob (compIdx t c) 5) (if active then 0 else 1) then s.report t (srcComp c) 0x0806 1 c [if active then 1 else 2] else s

/-- The wake line of a tile: the OR of the comparators routed to it (R332). -/
def State.wakeLine (s : State) (t : Nat) : Bool :=
  (List.range 56).any (fun c => (s.comp t c).output && bit (s.obAt t (compIdx t c) 5) 2)

/-- A rise of the wake line, which was `was`, triggers the entries that wait for it (R304, R332). -/
def State.wakeRises (s : State) (t : Nat) (was : Bool) : State :=
  if s.wakeLine t && !was then (s.flushTile t).triggerAt t 3 s.now (fun _ => true) else s

/-- The good condition of rail n is looked at (R348): a rise is noted; a fall, which counts as a
drop (R374), clears the settle count (R358), and of a running rail it is a drop that starts BAD_TIME and waits for the command RAIL_DROP (R360). -/
def State.railLook (s : State) (n : Nat) : State :=
  s.updRail n (fun r =>
    if s.goodCond n then { r with good := r.on }
    else if (r.declared || r.settled) && r.good then
      { r with good := false, settling := false, filtering := true, dropDue := r.dropDue + 1
               badEnd := some (s.railEnd n s.now (s.rr n 1 7)) }
    else
      { r with
        good := false, settling := false, drops := if r.on && r.good then satAdd 32 r.drops 1 else r.drops })

/-- Overvoltage detection on the loop anchored in slot k (R447). -/
def State.overvoltage (s : State) (t k : Nat) : State :=
  match s.anchoredAt t k with
  | some l =>
    if s.md.mode = .reset ∨ s.md.mode = .service then s
    else
      let s1 := s.loopReport srcProt l 0x0507 5 (two (s.loop l).sn.sample)
      let s2 := s1.updLoop l (fun lp => { lp with pr := { lp.pr with ovSeen := true } })
      (s2.latch l 12).dangerous [l] t 0x0507 l false
  | none => s

/-- Plausibility after a change of one of its comparators (R321). -/
def State.plausLook (s : State) (t j : Nat) : State :=
  match s.plausLoop t j with
  | some l =>
    let out := (s.comp t (24 + 2 * j)).output || (s.comp t (25 + 2 * j)).output
    if s.plausible l = false then s
    else s.updLoop l (fun lp =>
      { lp with
        pr := { lp.pr with
          plaus := if out then 2 else 1
          plausSince := if out && lp.pr.plaus != 2 then s.now else lp.pr.plausSince } })
  | none => s

/-- What depends on a loop or rail comparator is looked at after an edge (R348, R448, R321). -/
def State.compLook (s : State) (t c : Nat) : State :=
  if 24 ≤ c then
    let s1 := s.railLook (16 * t + (c - 24) / 2)
    s1.plausLook t ((c - 24) / 2)
  else if 16 ≤ c ∧ c % 2 = 1 then
    (match s.anchoredAt t ((c - 16) / 2) with | some l => s.uvLook l | none => s)
  else s

/-- An activation of comparator c of tile t (R327, R330, R332, R333, R447, R571). -/
def State.activate (s : State) (t c : Nat) : State :=
  let s1 := s.updComp t c (fun k => { k with beyond := true, output := true, activations := satAdd 32 k.activations 1 })
  let s2 := (((s1.captureEdge t c true).routeEdge t c true).wakeRises t (s.wakeLine t)).compLook t c
  if 16 ≤ c ∧ c < 24 ∧ c % 2 = 0 then s2.overvoltage t ((c - 16) / 2) else s2

/-- The comparator's filtered output may change now: not active already, not held, masked or settling (R319, R329, R571). -/
def State.mayActivate (s : State) (t c : Nat) : Bool :=
  !(s.comp t c).output && !s.compHeld t c && !(s.comp t c).masked && !(s.comp t c).settling

/-- The time from which a truncation can end the high side of phase p (R173, R174, R228): the high side is on there, and the
comparator is not blanked. -/
def State.highFrom (s : State) (p : Nat) : Option Nat :=
  let ph := s.phase p
  let free (t : Nat) : Nat := (s.openUntil (p / 16) (.oc (p % 16)) t).getD t
  if s.canopyOn p then
    if ph.actCut.isNone then
      some (free (Nat.max s.now (if ph.cfg.outMode = 1 ∧ ¬ph.actHigh then ph.actFrom + (ph.cfg.dead + 31) / 32 else ph.actFrom)))
    else none
  else match ph.pulse with
    | some (r, e) =>
      let t := free (Nat.max s.now (ph.zeroAt + (r + 64 + 31) / 32))
      if 32 * (t - ph.zeroAt) < e + 64 then some t else none
    | none => none

/-- A truncation aborts the trim learning of the phase's loop (R208). -/
def State.abortLearnOf (s : State) (p : Nat) : State :=
  match s.loopOf p with
  | some l => s.abortLearn l
  | none => s

/-- OC_TRUNCATION (R174, R180, R229, R238): the pulse in progress ends; in a debug halt the comparator takes the phase
off. -/
def State.ocTruncate (s : State) (p : Nat) : State :=
  let ph := s.phase p
  if s.hasPhase p = false then s
  else if s.md.halted then
    if ph.on ∧ s.obAt (p / 16) 0x3880 1 = 1 then s.updPhase p (fun ph => { ph with haltOff := true }) else s
  else if ph.frozen || ph.reload || ph.tripOff != 0 || ph.haltOff then s
  else match s.highFrom p with
    | some t => (((s.reach t).noteEdges [p] (fun _ => true)).abortLearnOf p).cutPhase p true
    | none => s

/-- What an activation acts on through its manager and the trip path: truncation, Canopy, the wake of a burst (R174,
R212, R228). -/
def State.compActs (s : State) (t c : Nat) : State :=
  if c < 16 then
    let p := 16 * t + c
    if s.md.halted then s.ocTruncate p
    else if s.highFrom p == some s.now then s.ocTruncate p else s
  else if c < 24 ∧ c % 2 = 1 then
    match s.anchoredAt t ((c - 16) / 2) with
    | some l =>
      match (s.comp t c).manager with
      | 3 => s.canopyTrigger l 1 (s.loop l).cp.u1
      | 4 => s.wakeLoop l
      | _ => s
    | none => s
  else s

/-- First evaluation after a hold, a mask, a settling or RESET: an activation like any other (R571). -/
def State.firstEval (s : State) (t c : Nat) : State :=
  if (s.comp t c).beyond && s.mayActivate t c then (s.activate t c).compActs t c else s


/-- A release of comparator c (R328, R332, R333). -/
def State.release (s : State) (t c : Nat) : State :=
  let s1 := s.updComp t c (fun k => { k with beyond := false, output := false })
  ((s1.captureEdge t c false).routeEdge t c false).compLook t c

/-- A change of MODE starts the settling time (R329): ticks by mode. -/
def settleTicks (mode : Nat) : Nat := match mode with | 0 => 50 | 1 => 50 | 2 => 1000 | _ => 25000

/-- Comparator c settles after a change to `mode`. -/
def State.settle (s : State) (t c mode : Nat) : State :=
  s.updComp t c (fun k => { k with settling := true, settleUntil := s.now + settleTicks mode })

/-- The mode in which a comparator runs: medium in burst operation, slow for plausibility, else its own (R211, R321, R331). -/
def modeUnder (manager own : Nat) : Nat := if manager = 4 then 1 else if manager = 5 then 2 else own

/-- A manager takes a comparator with a threshold; a hold that ends is evaluated (R331, R571). -/
def State.manage (s : State) (t c m v : Nat) : State :=
  let k := s.comp t c
  if k.managed = some v ∧ k.manager = m then s
  else
    let s1 := s.updComp t c (fun k => { k with managed := some v, manager := m })
    let old := modeUnder (if k.managed.isSome then k.manager else 0) (s.ob (compIdx t c) 1)
    let new := modeUnder m (s.ob (compIdx t c) 1)
    let s2 := if old = new then s1 else s1.settle t c new
    s2.firstEval t c

/-- A manager releases a comparator (R331). -/
def State.unmanage (s : State) (t c : Nat) : State :=
  let k := s.comp t c
  if k.managed.isNone then s
  else
    let s1 := s.updComp t c (fun k => { k with managed := none, manager := 0 })
    let own := s.ob (compIdx t c) 1
    if modeUnder k.manager own ≠ own then s1.settle t c own else s1

/-- A comparator of a plausibility check that no loop makes any more, since its LOCAL_SENSE or its ENABLE was written, is given
back (R331). -/
def State.plausFree (s : State) (t c : Nat) : State :=
  if decide (24 ≤ c) && (s.comp t c).managed.isSome && (s.comp t c).manager == 5 && (s.plausLoop t ((c - 24) / 2)).isNone
  then s.unmanage t c else s

/-- The window comparators of a part that are held now lose their outputs, and those held no more are evaluated (R321, R327,
R571). -/
def State.holdLook (s : State) : State :=
  (s.tileList.flatMap (fun t => (List.range 40).map (fun k => (t, 16 + k)))).foldl (fun s e =>
    let s := s.plausFree e.1 e.2
    if s.compHeld e.1 e.2 then
      (if (s.comp e.1 e.2).output then s.updComp e.1 e.2 (fun k => { k with output := false }) else s)
    else s.firstEval e.1 e.2) s

/-- The Canopy threshold of the present frame as a comparator code (R227). -/
def State.canopyCode (s : State) (l : Nat) : Nat := ((s.loop l).ac.canopyThr / 100).toNat

/-- Canopy serves the undervoltage comparator of a loop (R227). -/
def State.canopyServes (s : State) (l : Nat) : Bool :=
  ((s.loop l).state == 2 || (s.loop l).state == 3) && bit (s.lo l 0xA 1) 0

/-- Burst and Canopy thresholds of a loop's undervoltage comparator at a frame boundary (R211, R227, R331). -/
def State.manageLoop (s : State) (l : Nat) : State :=
  let t := s.anchor l
  let c := 17 + 2 * s.anchorSlot l
  let lp := s.loop l
  if lp.pp.burst ≠ 0 then s.manage t c 4 (dacFloor ((lp.tg.ref : Int) - s.lo l 0xD 6 * 65536))
  else if s.canopyServes l then s.manage t c 3 (s.canopyCode l)
  else s

/-- At a loop sample, a manager that no longer serves gives the comparator back (R211, R227). -/
def State.returnLoop (s : State) (l : Nat) : State :=
  let t := s.anchor l
  let c := 17 + 2 * s.anchorSlot l
  let k := s.comp t c
  if k.managed.isSome ∧ k.manager = 4 ∧ (s.loop l).pp.burst = 0 then
    (if s.canopyServes l then s.manage t c 3 (s.canopyCode l) else s.unmanage t c)
  else if k.managed.isSome ∧ k.manager = 3 ∧ s.canopyServes l = false then s.unmanage t c
  else s

/-- Plausibility thresholds around the frame mean (R321): C and the window in nV, from V_f in 0.25 mV and I in mA. -/
def State.plausCodes (s : State) (l : Nat) : Nat × Nat :=
  let c : Int := (s.loop l).sn.vf * 250000 + s.current l * s.lo l 0x13 9
  let w : Int := s.lo l 0x13 8 * 250000
  (fitN 10 (-(floorDiv (-(c + w)) 1562500)), fitN 10 (floorDiv (c - w) 1562500))

/-- Plausibility at a frame boundary (R321): thresholds while it runs, else both comparators held inactive. -/
def State.plausFrame (s : State) (l : Nat) : State :=
  let j := s.lo l 0x13 7
  let t := s.anchor l
  if j = 0xFF then s
  else if s.plausible l then
    let cs := s.plausCodes l
    let s1 := (s.manage t (24 + 2 * j) 5 cs.1).manage t (25 + 2 * j) 5 cs.2
    if (s1.loop l).pr.plaus ≠ 2 then s1.updLoop l (fun lp => { lp with pr := { lp.pr with plaus := 1 } }) else s1
  else
    ((s.unmanage t (24 + 2 * j)).unmanage t (25 + 2 * j)).plausStop l

/-! ### Transient capture (R538 to R541) -/

/-- Phase-count byte (R538). -/
def Loop.countByte (lp : Loop) : Nat :=
  if lp.state = 0 ∨ lp.state = 4 ∨ lp.state = 6 ∨ lp.state = 7 then 0xF0
  else if lp.pp.burst = 2 then 0xE0
  else if lp.ac.action = 1 then 0xC0
  else if lp.ac.action = 2 then 0xC1
  else lp.pp.active

/-- Sample entry (R538). -/
def Loop.sampleWord (lp : Loop) : Nat :=
  lp.sn.sample + 4096 * b2n (lp.sn.rangeKind != 0) + 8192 * b2n (lp.pp.burst == 2) +
    16384 * b2n (lp.pv.fired.any (·.applied)) + 32768 * b2n (lp.ac.action != 0)

/-- The capture unit takes one loop sample of its loop (R538, R540); duty and count are kept with every sample, and a read
shows those of every fourth position (R542). -/
def Capture.take (c : Capture) (lp : Loop) : Capture :=
  if c.state = 1 ∨ (c.state = 2 ∧ c.after + c.p < 65536) then
    { c with
      samples := (lp.sampleWord :: c.samples).take 65536
      duty := (lp.cp.duty :: c.duty).take 65536
      counts := (lp.countByte :: c.counts).take 65536
      taken := c.taken + 1
      after := if c.state = 2 then c.after + 1 else 0 }
  else c

/-- The capture unit of a tile records its loop at a loop sample. -/
def State.captureSample (s : State) (t : Nat) : State :=
  let c := s.caps.get {} t
  if c.state = 1 ∨ c.state = 2 then
    match s.anchoredAt t c.slot with
    | some l => { s with caps := s.caps.set {} t (c.take (s.loop l)) }
    | none => { s with caps := s.caps.set {} t { c with state := 0, valid := false } }
  else s

/-- Arm or restart the capture of a tile on a slot (R541). -/
def State.arm (s : State) (t slot : Nat) : State := { s with caps := s.caps.set {} t { state := 1, slot := slot } }

/-- P of R540. -/
def captureP (pre : Nat) : Nat := Nat.min (65536 * pre / 100) 65003

/-- A written record triggers an armed capture (R539): samples at or after TRIGGER_AT count as taken after it. -/
def State.captureTrigger (s : State) (t code inst time : Nat) : State :=
  let c := s.caps.get {} t
  let idx := 0x4D00 + t
  if c.state = 1 ∧ s.ob idx 3 = code ∧ s.ob idx 3 ≠ 0 ∧ (s.ob idx 4 = inst ∨ s.ob idx 4 = 0xFFFF) then
    let first := (time + 7) / 8
    let past := if first ≤ s.clk.sampleDone then s.clk.sampleDone + 1 - first else 0
    { s with
      caps := s.caps.set {} t
        { c with state := 2, trigAt := time, p := captureP (s.ob idx 5), after := Nat.min past c.taken } }
  else s

/-- The capture completes with a 0x0F01 record (R540). -/
def State.captureDone (s : State) (t : Nat) (p : Nat) : State :=
  let c := s.caps.get {} t
  let s1 : State := { s with caps := s.caps.set {} t { c with state := 3, p := p, valid := !c.damaged } }
  let s2 := s1.report t srcMon 0x0F01 0 t (two (s.ob (0x4D00 + t) 3))
  { s2 with
    net := { s2.net with
      domainPos := s2.net.domainPos.filter (fun e => decide (e.1 / 256 ≠ 0x4D00 + t)) } }

end Sys2Proof.Machine
end

