-- ==== Sys2Proof/Machine/CommitOps.lean ====
section
/-! DEFINITION. The commit scheduler: which tiles hold an object, which settings swap at carrier zero, the swap at frame
F and the end of the flight (R72 to R90). -/

namespace Sys2Proof.Machine

/-- Objects held on every tile of the part: filters and policies of recorder, faults and SAFE_IN#. -/
def Fam.everywhere (f : Fam) : Bool := f == .recCfg || f == .faultPolicy || f == .safeInCfg || f == .freezePolicy

/-- The tiles that hold an object, the deciding one first (R20, R79). -/
def State.homesOf (s : State) (f : Fam) (i : Nat) : List Nat :=
  if loopFams.contains f then s.anchor i :: (s.tilesOf i).filter (· != s.anchor i)
  else if phaseFams.contains f then [i / 16]
  else match f with
    | .railCfg | .railTiming | .railLimits | .railStatus => [s.railTile i]
    | .comparator | .captureTimer => [i / 64]
    | .histogram => [i / 16]
    | .tripCfg | .blanking | .tapCfg | .telemSeq | .telemTable0 | .telemTable1 | .telemCheck | .raw0 | .raw1 | .volts0
    | .volts1 | .latest | .calFactors | .eventEnable | .capture | .laneCfg => [i]
    | .laneStatus => [s.anchor i]
    | .ringCfg | .ringStream => [s.ob (0x4400 + i) 1]
    | _ => if f.everywhere then s.tileList else [0]

/-- The tiles that hold the object of a key. -/
def State.homes (s : State) (key : Nat) : List Nat :=
  match resolve s.T (key / 256) with
  | some (f, i) => s.homesOf f i
  | none => []

/-- Pending shadow values as a list (R75). -/
def ObjGrp.pending (o : ObjGrp) : List (Nat × Nat) := o.pend.filterMap (fun e => e.2.map (e.1, ·))

/-- The tiles that hold a pending value: those of the object, less the ones that a commit applied in part has swapped
(R79, R83). -/
def State.owing (s : State) (key : Nat) : List Nat :=
  match s.obj.owed.get 0 key with
  | 0 => s.homes key
  | m => (s.homes key).filter (bit m)

/-- The phases at whose carrier zero a setting swaps; empty for a frame-boundary setting (R72). -/
def State.zeroPhases (s : State) (e : Nat × Nat) : List Nat :=
  let sub := e.1 % 256
  match resolve s.T (e.1 / 256) with
  | some (.loopCarrier, l) => s.phasesOf l
  | some (.phaseCfg, p) => if sub ≤ 5 then [p] else []
  | some (.phaseTrim, p) => [p]
  | some (.phaseTiming, p) => [p]
  | some (.blanking, t) => (List.range 16).map (16 * t + ·)
  | some (.safeInCfg, _) => s.phaseList
  | some (.tapCfg, t) => [16 * t + field e.2 0 4]
  | _ => []

/-- The tiles whose phases still wait for the carrier zero of a committed value: there it is a shadow value yet (R81). -/
def State.lateTiles (s : State) : List Nat :=
  match s.obj.flight with
  | some fl => fl.late.flatMap (fun e =>
      (bitsOf e.tiles 8).filter (fun t => (s.zeroPhases (e.key, e.v)).any (fun p => p / 16 == t && fl.waiting.contains p)))
  | none => []

/-- PENDING_TILES (R81, R90), which, with no commit in flight, are the tiles that a commit names (R79). -/
def State.pendingTiles (s : State) : Nat := bitmap (s.obj.pending.flatMap (fun e => s.owing e.1) ++ s.lateTiles)

/-- The tiles of a pending value that swap: those that hold it, less those that missed a slot (R82, R83). -/
def State.swapping (s : State) (missed : Nat) (e : Nat × Nat) : List Nat := (s.owing e.1).filter (fun t => !bit missed t)

/-- The switching phases that a value waits for: those of its phases on tiles that swap (R81). -/
def State.latePhases (s : State) (missed : Nat) (e : Nat × Nat) : List Nat :=
  (s.zeroPhases e).filter (fun p => (s.phase p).on && (s.swapping missed e).contains (p / 16))

/-- A value becomes active on some tiles of its object (R83). -/
def State.putOn (s : State) (key v tiles : Nat) : State :=
  let now (t : Nat) : Nat := if bit tiles t then v else s.obAt t (key / 256) (key % 256)
  let main := now ((s.homes key).headD 0)
  let o := s.obj.put key main
  { s with obj := { o with split := o.split.set [] key (((s.homes key).map (fun t => (t, now t))).filter (·.2 != main)) } }

/-- The PRESCALE count of an event tap restarts as its setting swaps (R178). -/
def State.restartTap (s : State) (key : Nat) : State :=
  match resolve s.T (key / 256) with
  | some (.tapCfg, t) => s.updTile t (fun ti => { ti with tapCount := ti.tapCount.set 0 (key % 256 - 1) 0 })
  | _ => s

/-- A committed value becomes active on its tiles. -/
def State.activate1 (s : State) (e : Late) : State := (s.putOn e.key e.v e.tiles).restartTap e.key

/-- The commit leaves flight with a result (R81, R83, R89). -/
def State.endFlight (s : State) (frame res : Nat) : State :=
  { s with
    obj := { s.obj with
      flight := none, result := res
      appliedFrame := if res = 3 then s.obj.appliedFrame else frame
      appliedCount := if res = 3 then s.obj.appliedCount else wrapAdd 32 s.obj.appliedCount 1 } }

/-- Phases in `done`, and phases whose counter has stopped meanwhile, wait no longer; a value that none waits for is
active, and the last phase ends the flight (R72, R73, R81). -/
def State.phasesSwapped (s : State) (done : List Nat) : State :=
  match s.obj.flight with
  | none => s
  | some fl =>
    if fl.swapped = false then s
    else
      let waiting := fl.waiting.filter (fun p => !done.contains p && (s.phase p).on)
      let ripe (e : Late) : Bool := (s.zeroPhases (e.key, e.v)).all (fun p => !waiting.contains p)
      let s1 := (fl.late.filter ripe).foldl State.activate1 s
      let s2 : State :=
        { s1 with obj := { s1.obj with flight := some { fl with waiting := waiting, late := fl.late.filter (fun e => !ripe e) } } }
      if waiting.isEmpty then s2.endFlight fl.frame (if fl.missed = 0 then 2 else 4) else s2

/-- The pending values that tiles swap at F: those without a phase to wait for become active, the others are late; what
tiles that missed a slot hold stays pending (R72, R82, R83). -/
def State.swapValues (s : State) (fl : Flight) (missed : Nat) : State :=
  let go := s.obj.pending.filter (fun e => !(s.swapping missed e).isEmpty)
  let lates : List Late := go.map (fun e => ⟨e.1, e.2, bitmap (s.swapping missed e)⟩)
  let waits (e : Late) : Bool := !(s.latePhases missed (e.key, e.v)).isEmpty
  let left (k : Nat) : Nat := bitmap ((s.owing k).filter (bit missed))
  let s1 := (lates.filter (fun e => !waits e)).foldl State.activate1 s
  { s1 with
    obj := { s1.obj with
      pend := s.obj.pend.filter (fun e => left e.1 != 0)
      owed := (s.obj.pend.filter (fun e => left e.1 != 0)).map (fun e => (e.1, left e.1))
      notReady := missed
      tookFrame := fl.frame, takers := bitmap ((bitsOf fl.named 8).filter (fun t => !bit missed t))
      flight := some { fl with
        swapped := true, missed := missed, late := lates.filter waits
        waiting := s.phaseList.filter (fun p => go.any (fun e => (s.latePhases missed e).contains p)) } } }

/-! ### What follows from a swapped setting at the frame boundary -/

/-- A narrowed range replaces the target by the nearest limit (R144). -/
def State.limitTarget (s : State) (l : Nat) : State :=
  let t := s.lo l 1 1
  let v := Nat.max (s.lo l 7 3) (Nat.min (s.lo l 7 4) t)
  if v = t then s else s.acceptTarget l v 0

/-- The enabled set, the order or the spread of a loop changes with this commit (R72, R189). -/
def State.respread (s : State) (l : Nat) : State :=
  s.updLoop l (fun lp => { lp with pp := { lp.pp with respread := true } })

/-- A loop's phases hold the key, by index. -/
def State.loopsOfPhase (s : State) (p : Nat) : List Nat := match s.loopOf p with
  | some l => [l]
  | none => []

/-- A key belongs to the sequence tables of tile t. -/
def State.telemKey (s : State) (t k : Nat) : Bool :=
  match resolve s.T (k / 256) with
  | some (.telemSeq, i) | some (.telemTable0, i) | some (.telemTable1, i) => i == t
  | _ => false

/-- The tables of a tile after a commit that swapped some of their settings; `s0` is the state before it (R308). -/
def State.tablesSwapped (s s0 : State) (t : Nat) : State :=
  if s.tablesRun t then (if s0.tablesRun t then s.swapTables s0 t else s.restartTables t) else s

/-- Frame-boundary consequences of one swapped value; `s0` is the state before the swap (R72). -/
def State.afterSwap (s0 : State) (s : State) (e : Nat × Nat) : State :=
  let sub := e.1 % 256
  match resolve s.T (e.1 / 256) with
  | some (.loopLimits, l) => s.limitTarget l
  | some (.loopCfg, l) => if sub = 8 ∧ (s.tile (s.anchor l)).laneLevelFault then s.dictOwns (s.anchor l) else s
  | some (.loopShed, l) => if sub = 6 then s.respread l else s
  | some (.loopBurst, l) => s.burstForbidden l
  | some (.phaseCfg, p) => if 6 ≤ sub then (s.loopsOfPhase p).foldl State.respread s else s
  | some (.histogram, i) => { s with hists := s.hists.upd {} i (fun h => { h with clear := true }) }
  | some (.capture, t) =>
    if sub = 2 ∧ (s.caps.get {} t).state = 1 then
      (if (s.anchoredAt t e.2).isSome then s.arm t e.2 else { s with caps := s.caps.set {} t {} })
    else s
  | some (.comparator, i) =>
    let m := (s.comp (i / 64) (i % 64)).manager
    if sub = 1 ∧ modeUnder m (s0.ob (0x3C00 + i) 1) ≠ modeUnder m e.2 then s.settle (i / 64) (i % 64) e.2
    else s
  | _ => s

/-- Phases that do not switch take their carrier-zero settings at the frame boundary itself (R73). -/
def State.swapStopped (s : State) (es : List (Nat × Nat)) : State :=
  { s with
    phases := s.phases.updAll {}
      (s.phaseList.filter (fun p => !(s.phase p).on && (s.phase p).cfg.loaded && es.any (fun e => (s.zeroPhases e).contains p)))
      (fun p ph => { ph with cfg := s.phaseNow p }) }

/-- "Commit not applied or applied in part" (R83). -/
def State.commitRecord (s : State) (tiles res : Nat) : State := s.report 0 srcNet 0x0E01 3 0xFFFF [tiles, res]

/-- A named tile gave no ready flag: recovering, failed, or its slot said so (R26, R82). -/
def State.unready (s : State) (fl : Flight) : Nat :=
  bitmap ((bitsOf fl.named 8).filter (fun t => (s.tile t).state != 0 || bit fl.notReady t))

/-- The commit of frame F at its boundary (R81 to R83). -/
def State.commitApply (s : State) (fl : Flight) : State :=
  let refused := s.unready fl
  if refused ≠ 0 then
    let s1 : State := { s with obj := { s.obj with notReady := refused } }
    (s1.endFlight fl.frame 3).commitRecord refused 3
  else
    let missed := bitmap (bitsOf fl.named 8 |>.filter (bit fl.missed))
    let es := s.obj.pending.filter (fun e => !(s.swapping missed e).isEmpty)
    let s1 := s.swapValues fl missed
    let ts := s.tileList.filter (fun t => es.any (fun e => s.telemKey t e.1))
    let s2 := ts.foldl (fun x t => x.tablesSwapped s t) ((es.foldl (State.afterSwap s) s1).swapStopped es)
    let s3 := if missed = 0 then s2 else s2.commitRecord missed 4
    (s.tileList.foldl (fun x t => x.wakeRises t (s.wakeLine t)) s3).phasesSwapped []

/-- A commit whose frame has come is applied (R80, R82). -/
def State.commitFrame (s : State) : State :=
  match s.obj.flight with
  | some fl =>
    if fl.swapped then s.phasesSwapped []
    else if fl.frame ≤ s.frame then s.commitApply fl else s
  | none => s

end Sys2Proof.Machine
end

