-- ==== Sys2Proof/Machine/RecOps.lean ====
section
/-! DEFINITION. Records, the writer, rings, the recorder with its views, ALERT# and EMCY (R382 to R404). -/

namespace Sys2Proof.Machine

/-! ### Rings (R393 to R397) -/

/-- Ring r. -/
def State.ring (s : State) (r : Nat) : Ring := s.ev.rings.get {} r

/-- Capacity in records (R393); 0 for an unused ring. -/
def State.ringCap (s : State) (r : Nat) : Nat :=
  let z := s.ob (0x4400 + r) 2
  if z < 8 then 0 else 2 ^ z / 32

/-- Unread records (R394). -/
def Ring.fill (r : Ring) : Nat := (r.writeIdx + 2 ^ 32 - r.readIdx) % 2 ^ 32

/-- The unread records, oldest first. -/
def Ring.unread (r : Ring) : List Rec := r.recs.drop (r.recs.length - r.fill)

/-- One record into the ring. -/
def Ring.put (r : Ring) (cap : Nat) (x : Rec) : Ring :=
  let r1 := { r with recs := (r.recs ++ [x]).drop (r.recs.length + 1 - cap), writeIdx := wrapAdd 32 r.writeIdx 1 }
  { r1 with peak := Nat.max r.peak r1.fill }

/-- One record lost to the ring (R395). -/
def Ring.lose (r : Ring) (x : Rec) : Ring :=
  { r with
    lost := satAdd 32 r.lost 1
    gap := some (match r.gap with
      | none => (x, 1, x.src, x.src)
      | some g => (g.1, satAdd 32 g.2.1 1, Nat.min g.2.2.1 x.src, Nat.max g.2.2.2 x.src)) }

/-- The ring gap record (R395). -/
def ringGap (g : Rec × Nat × Nat × Nat) : Rec :=
  { time := g.1.time, seq := g.1.seq, tile := g.1.tile, sev := 2, code := 0x0A02, inst := 0xFFFF
    data := bytesLE 4 g.2.1 ++ [g.2.2.1, g.2.2.2], src := srcEvent, num := g.1.num }

/-- The ring accepts a record (R394, R395); while a gap waits, records are lost until there is room for two. -/
def Ring.accept (r : Ring) (cap : Nat) (x : Rec) : Ring :=
  match r.gap with
  | none => if r.fill < cap then r.put cap x else r.lose x
  | some g => if r.fill + 2 ≤ cap then ({ r with gap := none }.put cap (ringGap g)).put cap x else r.lose x

/-- A ring accepts this record of tile t (R394). -/
def State.ringTakes (s : State) (r : Nat) (x : Rec) : Bool :=
  let i := 0x4400 + r
  decide (0 < s.ringCap r) && s.ob i 1 == x.tile && bit (s.ob i 3) (x.code / 256) && decide (s.ob i 4 ≤ x.sev)

/-- One record and one ring: the write, the fill value, and the watermark record (R394 to R396, R533 source 9). -/
def State.ringWrite (s : State) (x : Rec) (r : Nat) : State :=
  if s.ringTakes r x then
    let old := s.ring r
    let new := old.accept (s.ringCap r) x
    let s1 : State := { s with ev := { s.ev with rings := s.ev.rings.set {} r new } }
    let s2 := ((List.range (new.fill - old.fill)).map (old.fill + 1 + ·)).foldl
      (fun s v => s.histValue [x.tile] 9 r (v : Int)) s1
    if s.ob (0x4400 + r) 6 ≤ new.fill ∧ old.marked = false ∧ old.fill < new.fill then
      let s3 : State := { s2 with ev := { s2.ev with rings := s2.ev.rings.upd {} r (fun g => { g with marked := true }) } }
      s3.report x.tile srcEvent 0x0A03 1 r (two new.fill)
    else s2
  else s

/-- Below half the watermark `w` the ring may mark again (R396). -/
def Ring.remark (g : Ring) (w : Nat) : Ring := { g with marked := g.marked && decide (w ≤ 2 * g.fill) }

/-- READ_INDEX advances by n (R397); below half the watermark the ring may mark again (R396). -/
def State.ringAdvance (s : State) (r n : Nat) : State :=
  { s with
    ev := { s.ev with
      rings := s.ev.rings.upd {} r (fun g =>
        ({ g with readIdx := wrapAdd 32 g.readIdx n } : Ring).remark (s.ob (0x4400 + r) 6)) } }

/-! ### The recorder (R398) -/

/-- Store one record: two-area (0) or stop (1). -/
def Recorder.store (q : Recorder) (policy fixed : Nat) (x : Rec) : Recorder :=
  if policy = 1 then
    if q.fixed.length + q.circ.length < 4095 then
      (if q.circ.isEmpty then { q with fixed := q.fixed ++ [x] } else { q with circ := q.circ ++ [x] })
    else { q with stopLost := q.stopLost + 1, stopFirst := some (q.stopFirst.getD x) }
  else if q.circ.isEmpty ∧ q.fixed.length < fixed then { q with fixed := q.fixed ++ [x] }
  else if q.circ.length < 4096 - Nat.max fixed q.fixed.length then { q with circ := q.circ ++ [x] }
  else
    match q.circ with
    | [] => { q with overCount := q.overCount + 1, overFirst := some (q.overFirst.getD x), overLast := some x }
    | o :: rest =>
      { q with
        circ := rest ++ [x], overCount := q.overCount + 1, overFirst := some (q.overFirst.getD o), overLast := some o }

/-- The recorder of a tile. -/
def State.recorder (s : State) (t : Nat) : Recorder := s.ev.recorders.get {} t

/-- Records held, the stop gap included. -/
def Recorder.held (q : Recorder) : Nat := q.fixed.length + q.circ.length + b2n (q.stopFirst.isSome)

/-- The recorder is full. -/
def Recorder.full (q : Recorder) : Bool := decide (4096 ≤ q.held)

/-- A gap record of the recorder with the TIME and SEQ of a record (R398). -/
def recGap (code : Nat) (f : Rec) (n : Nat) : Rec :=
  { time := f.time, seq := f.seq, tile := f.tile, sev := 2, code := code, inst := 0xFFFF
    data := bytesLE 4 (Nat.min n 0xFFFFFFFF), src := srcEvent, num := f.num }

/-- The place of a record in a view: TIME, tile, storage order. -/
abbrev Place := Nat × Nat × Nat

/-- Place order (R399). -/
def Place.lt (a b : Place) : Bool :=
  decide (a.1 < b.1) || (a.1 == b.1 && (decide (a.2.1 < b.2.1) || (a.2.1 == b.2.1 && decide (a.2.2 < b.2.2))))

/-- The place of a record. -/
def Rec.place (r : Rec) : Place := (r.time, r.tile, r.num)

/-- Stored records with their places: one whose CRC fails stands directly after the record stored before it on its tile,
the first of which has the time `t` (R400). -/
def placesFrom : Nat → List Rec → List (Place × Rec)
  | _, [] => []
  | t, r :: rs => (if r.bad then ((t, r.tile, r.num), r) else (r.place, r)) :: placesFrom (if r.bad then t else r.time) rs

/-- The records of a tile in storage order with their places; the gap record stands at the overwritten place (R398,
R399). -/
def Recorder.view (q : Recorder) : List (Place × Rec) :=
  placesFrom 0 q.fixed ++
    (match q.overFirst, q.overLast with
      | some f, some l => [(l.place, recGap 0x0A04 f q.overCount)]
      | _, _ => []) ++
    placesFrom (((q.overLast.or q.fixed.getLast?).map (·.time)).getD 0) q.circ ++
    (match q.stopFirst with
      | some f => [(f.place, recGap 0x0A06 f q.stopLost)]
      | none => [])

/-- Put an element behind every earlier or equal place. -/
def insertPlace (e : Place × Rec) : List (Place × Rec) → List (Place × Rec)
  | [] => [e]
  | x :: xs => if Place.lt e.1 x.1 then e :: x :: xs else x :: insertPlace e xs

/-- Lists in place order merged into one (R399). -/
def mergePlaces (xs : List (Place × Rec)) : List (Place × Rec) := xs.foldl (fun acc e => insertPlace e acc) []

/-- The newest valid bank of a tile's shadow array (R426). -/
def Cellar.newestBank (c : Cellar) : Option Bank :=
  match c.bankA.valid, c.bankB.valid with
  | true, true => some (if newer c.bankB.seq c.bankA.seq then c.bankB else c.bankA)
  | true, false => some c.bankA
  | false, true => some c.bankB
  | false, false => none

/-- Stored records of a tile with their places in a merged view, from time `tm` and place number `k` on: storage order holds, so
no record stands before the one stored before it, and the gap record and one whose CRC fails stand directly after it (R399, R400,
R402). -/
def storedFrom (t : Nat) : Nat → Nat → List Rec → List (Place × Rec)
  | _, _, [] => []
  | tm, k, r :: rs =>
    let tm1 := if r.bad || r.code == 0x0A09 then tm else Nat.max tm r.time
    ((tm1, t, k), r) :: storedFrom t tm1 (k + 1) rs

/-- The stored records of a tile in storage order: first set, gap, newest set (R402). -/
def Bank.view (b : Bank) (t : Nat) : List Rec :=
  let gap : Rec :=
    { time := Config.synthTime t, seq := Config.synthSeq t % 65536, tile := t, sev := 2, code := 0x0A09, inst := 0xFFFF
      data := bytesLE 4 b.between, src := srcEvent }
  b.first ++ (if b.newest.isEmpty then [] else [gap]) ++ b.newest

/-- View 0x20 + t: the place of a record is its number in storage order. -/
def Bank.single (b : Bank) (t : Nat) : List (Place × Rec) :=
  (b.view t).zipIdx.map (fun e => ((0, t, e.2), e.1))

/-- A tile's part of view 0x30. -/
def Bank.merged (b : Bank) (t : Nat) : List (Place × Rec) := storedFrom t 0 0 (b.view t)

/-- The gap record of a tile that cannot be reached, at the TIME of its failure record (R392). -/
def unreachable (t at_ : Nat) : List (Place × Rec) :=
  [((at_, t, 0),
    { time := at_, seq := Config.synthSeq (8 + t) % 65536, tile := t, sev := 2, code := 0x0A07, inst := t
      data := bytesLE 4 0xFFFFFFFF, src := srcEvent })]

/-- What the merged view takes of a tile: its recorder, or one gap record where the tile has failed or tile 0 has lost its
port (R392). -/
def State.tileView (s : State) (t : Nat) : List (Place × Rec) :=
  if (s.tile t).state = 2 then unreachable t (s.tile t).failAt
  else if bit s.link.pairLost t then unreachable t (s.link.lostAt.get 0 t)
  else (s.recorder t).view

/-- A record is admitted to a merged view when it is 10 µs old (R399); one whose bytes tell no time, at the time of its place. -/
def State.admitted (s : State) (e : Place × Rec) : Bool := decide (e.1.1 + 5000 ≤ s.now)

/-- The view that REC_CURSOR:01 selects (R399). -/
def State.viewList (s : State) : List (Place × Rec) :=
  let v := s.ev.view
  if v = 0 then
    (mergePlaces (s.tileList.flatMap s.tileView)).filter s.admitted
  else if v < 0x20 then (s.recorder (v - 0x10)).view
  else if v < 0x30 then (match (s.cellar (v - 0x20)).area with | some b => b.single (v - 0x20) | none => [])
  else if v = 0x30 then
    (mergePlaces (s.tileList.flatMap (fun t =>
      match (s.cellar t).area with | some b => b.merged t | none => []))).filter s.admitted
  else ((s.ring (v - 0x40)).unread).map (fun r => (r.place, r))

/-- The part of the view after the cursor. -/
def State.afterCursor (s : State) : List (Place × Rec) :=
  match s.ev.cursor with
  | none => s.viewList
  | some c => s.viewList.filter (fun e => Place.lt c e.1)

/-- POSITION as read (R399). -/
def State.position (s : State) : Nat := s.viewList.length - s.afterCursor.length

/-- POSITION as written: the cursor stands before the record at that place, at the end where the view is shorter. -/
def State.setPosition (s : State) (n : Nat) : State :=
  { s with ev := { s.ev with cursor := ((s.viewList.take n).getLast?).map (·.1) } }

/-- VIEW as written: the cursor stands at the oldest record (R399). -/
def State.setView (s : State) (v : Nat) : State := { s with ev := { s.ev with view := v, cursor := none } }

/-- One read of REC_WINDOW:01 (R399, R400); a ring view with CONSUMER 3 consumes (R397). -/
def State.readWindow (s : State) : State × List Nat :=
  let out := s.afterCursor.take (s.ob 0x4481 3)
  let bads := (List.range out.length).filter (fun i => match out[i]? with | some e => e.2.bad | none => false)
  let s1 : State :=
    { s with
      ev := { s.ev with
        cursor := match out.getLast? with | some e => some e.1 | none => s.ev.cursor
        returned := out.length, crcFails := bads.length, firstBad := bads.headD 0xFF
        crcFailTotal := satAdd 32 s.ev.crcFailTotal bads.length
        lastRead := out.map (·.2) } }
  let r := s.ev.view - 0x40
  let s2 := if 0x40 ≤ s.ev.view ∧ s.ob (0x4400 + r) 5 = 3 then s1.ringAdvance r (s.position + out.length) else s1
  (s2, out.flatMap (fun e => e.2.bytes))

/-! ### The writer (R382, R383, R390, R539) -/

/-- A record that a tile creates: its sequence number, the recorder (whose first record after a clear is always 0x0A08, R401), the first-fault copy, every ring, the capture. -/
def State.writeRec (s : State) (t src : Nat) (e : Entry) : State :=
  let num := s.ev.seq.get 0 t
  let r := e.toRec t src num
  let keep := r.code == 0x0A08 || (decide (s.obAt t 0x4480 4 ≤ r.sev) && bit (s.obAt t 0x4480 5) (r.code / 256))
  let firstNow := decide (3 ≤ r.sev) && s.ev.first.isNone
  let s1 : State :=
    { s with
      ev := { s.ev with
        seq := Tab.set 0 s.ev.seq t (num + 1)
        recorders := if keep then
            s.ev.recorders.upd {} t (fun q => q.store (s.obAt t 0x4480 1) (s.obAt t 0x4480 2) r)
          else s.ev.recorders
        first := if firstNow then some r else s.ev.first } }
  let s2 := if firstNow then s1.cellWrite 0 23 [(okey 0x4501 5, ofBytesLE r.bytes)] 0x4501 else s1
  let s3 := (List.range 64).foldl (fun s i => s.ringWrite r i) s2
  s3.captureTrigger t r.code r.inst r.time

/-- The entry that the writer takes: earliest time, then lower source, then first report (R383). -/
def earliest (cands : List (Nat × Entry)) : Option (Nat × Entry) :=
  cands.foldl (fun b e => match b with
    | none => some e
    | some x => if e.2.time < x.2.time then some e else some x) none

/-- Remove the first entry equal to `e`. -/
def Slot.take (sl : Slot) (e : Entry) : Slot := { sl with entries := sl.entries.erase e }

/-- The source gap record of a slot, directly after its last pending entry (R382). -/
def Slot.gapEntry (sl : Slot) (e : Entry) (src : Nat) : Entry :=
  { code := 0x0A01, inst := src, sev := 2, data := [], time := e.time, rpt := sl.lost
    delta := Nat.min ((sl.lostLast - e.time) / 256) 0xFFFFFFFF, pre := e.pre
    sat := decide (0xFFFF ≤ sl.lost) || decide (0xFFFFFFFF ≤ (sl.lostLast - e.time) / 256) }

/-- The record of a tile is written no earlier than the next PWM clock after its report, and 16 ns after the last one
(R383). -/
def State.writeAtTime (s : State) (t src : Nat) (e : Entry) : State :=
  let s1 := s.reach (Nat.max (e.time + 1) (s.ev.writeFrom.get 0 t))
  ({ s1 with ev := { s1.ev with writeFrom := s1.ev.writeFrom.set 0 t (s1.now + 8) } } : State).writeRec t src e

/-- The writer of a tile writes one record (R383), and the source gap after a slot's last one (R382). -/
def State.writeNext (s : State) (t : Nat) : State :=
  match earliest (s.pendingOf t) with
  | none => s
  | some (src, e) =>
    let sl := (s.ev.slots.get {} (256 * t + src)).take e
    let gap := sl.entries.isEmpty && decide (0 < sl.lost)
    let s1 : State :=
      { s with ev := { s.ev with slots := s.ev.slots.set {} (256 * t + src) (if sl.entries.isEmpty then {} else sl) } }
    let s2 := s1.writeAtTime t src e
    if gap then s2.writeAtTime t src (sl.gapEntry e src) else s2

/-- A tile's pending entries are written, at most `k` of them. -/
def State.drain (s : State) (t : Nat) : Nat → State
  | 0 => s
  | k + 1 => if (s.pendingOf t).isEmpty then s else (s.writeNext t).drain t k

/-! ### ALERT# and EMCY (R403, R404, R504, R505) -/

/-- An EMCY is sent on a channel or waits for the inhibit time; a full queue drops it (R504). -/
def State.emcyOut (s : State) (c : CanChan) (code reg : Nat) (r : Option Rec) : State :=
  let busy := match c with | .a => s.net.inhibitA | .b => s.net.inhibitB
  let q := match c with | .a => s.net.emcyA | .b => s.net.emcyB
  if s.emcyOn c = false then s
  else if busy then
    (if 16 ≤ q.length then { s with net := { s.net with emcyDropped := satAdd 32 s.net.emcyDropped 1 } }
    else match c with
      | .a => { s with net := { s.net with emcyA := q ++ [(code, reg, emcyBody .a r)] } }
      | .b => { s with net := { s.net with emcyB := q ++ [(code, reg, emcyBody .b r)] } })
  else
    let inh := s.ob 0x1015 0 != 0
    match c with
    | .a => { s with net := { s.net with sent := emcyFrame .a code reg r :: s.net.sent, inhibitA := inh } }
    | .b => { s with net := { s.net with sent := emcyFrame .b code reg r :: s.net.sent, inhibitB := inh } }

/-- One EMCY on every channel (R404). -/
def State.emcyAll (s : State) (code reg : Nat) (r : Option Rec) : State :=
  (s.emcyOut .a code reg r).emcyOut .b code reg r

/-- The record passes FAULT_POLICY's ALERT filter (R403). -/
def State.alerts (s : State) (r : Rec) : Bool := decide (s.ob 0x4500 1 ≤ r.sev) && bit (s.ob 0x4500 2) (r.code / 256)

/-- The record passes FAULT_POLICY's EMCY filter (R404). -/
def State.emcys (s : State) (r : Rec) : Bool := decide (s.ob 0x4500 3 ≤ r.sev) && bit (s.ob 0x4500 4) (r.code / 256)

/-- Tile 0 receives a forwarded record (R403, R404, R505). -/
def State.forwarded (s : State) (r : Rec) : State :=
  let s1 : State := if s.alerts r then { s with ev := { s.ev with alert := true, acked := false } } else s
  if s.emcys r then
    let reg := s1.errRegFor r.code
    let s2 : State := { s1 with ev := { s1.ev with errReg := 2 ^ emcyBit r.code } }
    let s3 := s2.emcyAll (emcyCode r.code) reg (some r)
    if s1.emcyOn .a || s1.emcyOn .b then
      { s3 with net := { s3.net with history := pushHistory s3.net.history (emcyCode r.code + 65536 * r.inst) } }
    else s3
  else s1

/-- The ring that a host tile's processor forwards: the first with CONSUMER 4 and an unread record (R397, R403). -/
def State.forwardRing (s : State) (t : Nat) : Option Nat :=
  (List.range 64).find? (fun r =>
    s.ob (0x4400 + r) 1 == t && s.ob (0x4400 + r) 5 == 4 && decide (0 < s.ringCap r) && !(s.ring r).unread.isEmpty)

/-- ALERT# is released after the acknowledgement once no fault of severity ALERT_MIN or more is active (R403). -/
def State.alertLook (s : State) : State :=
  if s.ev.alert && s.ev.acked && !s.activeFaults.any (fun f => decide (s.ob 0x4500 1 ≤ f.sev)) then
    { s with ev := { s.ev with alert := false } }
  else s

/-- 0x1001 (R404). -/
def State.errorRegister (s : State) : Nat := s.ev.errReg + b2n (!s.activeFaults.isEmpty)

end Sys2Proof.Machine
end

