-- ==== Sys2Proof/Machine/FrameOps.lean ====
section
/-! DEFINITION. The per-frame work of every block at a frame boundary (R72, R82, R133, R128, R148, R198, R201, R204,
R242 to R244, R286, R288, R310, R321 to R326, R346, R358, R535). -/

namespace Sys2Proof.Machine

/-! ### Telemetry of the frame just ended (R323 to R326) -/

/-- Window sums and peaks of one frame (R323, R324, R325). -/
def Loop.frameValues (lp : Loop) : Loop :=
  let vf := if lp.sn.cntS = 0 then lp.sn.vf else vMean lp.sn.sumS lp.sn.cntS
  let i := lp.sn.iNow
  let p := i.map (fun i => fitI 32 (roundAway (i * vf) 4000))
  let t := lp.pr.temp
  let peak (cur : Int) (v : Option Int) : Int := match v with
    | some x => if lp.state = 0 then cur else max cur x
    | none => cur
  { lp with
    sn := { lp.sn with vf := vf, sumS := 0, cntS := 0, rangeFrames := lp.sn.rangeFrames - 1 }
    tl := { lp.tl with
      wV := lp.tl.wV + vf, nV := lp.tl.nV + 1
      wI := lp.tl.wI + i.getD 0, wP := lp.tl.wP + p.getD 0, nI := lp.tl.nI + b2n i.isSome
      wT := lp.tl.wT + t.getD 0, nT := lp.tl.nT + b2n t.isSome
      iMax := peak lp.tl.iMax i, pMax := peak lp.tl.pMax p, tMax := peak lp.tl.tMax t } }

/-- A window ends: the means are published and the sums start again (R324). -/
def LoopTelem.publish (t : LoopTelem) : LoopTelem :=
  { t with
    vout := (meanAway t.wV t.nV).toNat, iout := meanAway t.wI t.nI, pout := meanAway t.wP t.nI, tout := meanAway t.wT t.nT
    windows := wrapAdd 32 t.windows 1
    wV := 0, nV := 0, wI := 0, wP := 0, nI := 0, wT := 0, nT := 0 }

/-- Phase current in 10 mA (R342). -/
def State.phase10 (s : State) (p : Nat) : Option Int := (s.phaseMa p).map (fun v => fitI 16 (roundAway v 10))

/-- Phase means of the window, added at each frame (R326). -/
def State.phaseFrame (s : State) (p : Nat) (ph : Phase) : Phase :=
  { ph with
    tl := { ph.tl with
      curSum := ph.tl.curSum + (s.phase10 p).getD 0, curCnt := ph.tl.curCnt + b2n (s.phase10 p).isSome } }

/-- Phase means are published (R326). -/
def Phase.publish (ph : Phase) : Phase :=
  { ph with
    tl := { ph.tl with
      curAvg := meanAway ph.tl.curSum ph.tl.curCnt, curSum := 0, curCnt := 0
      shareAvg := if ph.tl.shareCnt = 0 then none else some (meanAway ph.tl.shareSum ph.tl.shareCnt)
      shareSum := 0, shareCnt := 0 } }

/-- Telemetry of a loop at a frame boundary (R323 to R326, R533 source 3). -/
def State.telemFrame (s : State) (l : Nat) : State :=
  let s1 := s.updLoop l Loop.frameValues
  let s2 : State := { s1 with phases := s1.phases.updAll {} (s1.phasesOf l) (fun p ph => s1.phaseFrame p ph) }
  let s3 := if (s2.loop l).state = 0 then s2 else s2.histValue [s2.anchor l] 3 l ((s2.loop l).sn.vf : Int)
  if s.frame % Nat.max 1 (s.lo l 0x13 1) = 0 then
    let s4 := s3.updLoop l (fun lp => { lp with tl := lp.tl.publish })
    { s4 with phases := s4.phases.updAll {} (s4.phasesOf l) (fun _ ph => ph.publish) }
  else s3

/-! ### Checker lane (R148) -/

/-- The checks that failed in one tile's slot of a loop in the frame just ended: a record, or from LIMIT on a fault and the
safe state on all the loop's tiles (R148). -/
def State.checkerTile (s : State) (l t fails max_ : Nat) : State :=
  if fails = 0 then s
  else if s.lo l 0x11 3 ≤ fails then
    let s2 := s.report t (srcReg (s.slotOf l t)) 0x0306 5 l ([Nat.min fails 255] ++ two max_)
    s2.dangerous [l] t 0x0306 l false
  else s.report t (srcReg (s.slotOf l t)) 0x0305 2 l ([Nat.min fails 255] ++ two max_)

/-- Checks of the frame just ended, slot by slot (R148, R155). -/
def State.checkerFrame (s : State) (l : Nat) : State :=
  let c := (s.loop l).cp
  let s1 := s.updLoop l (fun lp =>
    { lp with
      cp := { lp.cp with
        chkFails := [], chkMax := 0, chkLast := c.chkMax
        chkTotal := satAdd 32 c.chkTotal ((c.chkFails.map (·.2)).sum) } })
  (s.tilesOf l).foldl (fun s t => s.checkerTile l t (c.chkFails.get 0 t) c.chkMax) s1

/-! ### Frame slots: sums, temperatures, VIN (R127, R128, R133, R134, R242, R282) -/

/-- I_f after one frame (R133), mA with 8 fraction bits. -/
def droopFilter (f i : Int) (n : Nat) : Int := f + floorDiv (i * 256 - f) (2 ^ n)

/-- v_d in 1/16 LSB (R133). -/
def droopOffset (line : Nat) (f : Int) (max_ : Nat) : Int :=
  let vd := floorDiv (line * f * 16 + 390625 * 128) (390625 * 256)
  min (max vd 0) ((max_ * 1024 / 100 : Nat) : Int)

/-- The loop takes the values that the frame slots of the frame just ended brought (R128, R133, R134, R242). -/
def State.takeSlots (s : State) (l : Nat) : State :=
  let i := s.slotCurrent l
  let t := s.slotTemp l
  s.updLoop l (fun lp =>
    let f := match i with | some i => droopFilter lp.cp.ifilt i (s.lo l 8 3) | none => lp.cp.ifilt
    let fv := match lp.cp.ffLatched with | some v => ffFactor (s.lo l 0 0xA) v | none => 0x4000
    { lp with
      sn := { lp.sn with iNow := i }
      pr := { lp.pr with temp := t }
      cp := { lp.cp with
        ifilt := f
        vd := if s.lo l 8 1 = 1 then droopOffset (s.lo l 8 2) f (s.lo l 8 4) else 0
        fv := fv
        ff := if s.lo l 0 9 = 1 then fv else 0x4000
        ffActive := s.lo l 0 9 == 1 && lp.cp.ffLatched.isSome
        ffLatched := if s.lo l 0 9 = 1 ∨ s.lo l 0xB 1 = 1 then s.vinMv l else none } })

/-- CRC-32C of the state of loop l's slot on tile t, as its latest loop sample has left it (R286). -/
def State.hashOf (s : State) (l t : Nat) : Nat :=
  let c := s.compOf l t
  crc32c (bytesLE 4 (ofInt 32 c.u1) ++ bytesLE 4 (ofInt 32 c.u2) ++ bytesLE 4 (ofInt 32 c.u3) ++
    bytesLE 2 (ofInt 16 c.e1) ++ bytesLE 2 (ofInt 16 c.e2) ++ bytesLE 4 (ofInt 32 c.res) ++ bytesLE 2 c.ff ++
    [s.obAt t (loopIdx l 6) 1, (s.loop l).ac.hashAct])

/-- Every tile latches the hashes of its occupied slots before the boundary changes anything (R286). -/
def State.latchHashes (s : State) : State :=
  let hs := (s.loopList.filter s.enabled).foldl (fun m l => (s.tilesOf l).foldl
    (fun m t => Tab.set 0 m (4 * t + s.slotOf l t) (s.hashOf l t)) m) ([] : Tab Nat)
  { s with link := { s.link with hashes := hs } }

/-- The count that the boundary which starts the present frame has decided for loop l, 0 for none (R199, R282). -/
def State.countSent (s : State) (l : Nat) : Nat :=
  match (s.loop l).pp.decided.find? (fun d => d.start == (s.frame + 1) * ticksPerFrame) with
  | some d => d.count
  | none => 0

/-- The feedforward result that tile t sends: that of its lowest slot that has one (R128, R282; DESIGN CHOICE, log
entry 123). -/
def State.vinSent (s : State) (t : Nat) : Nat :=
  (((List.range 4).filterMap (s.anchoredAt t)).findSome? (fun l => (s.loop l).cp.ffLatched)).getD 0

/-- The die temperature that a frame slot carries, in whole degrees, rounded down (R282; DESIGN CHOICE, log entry 123). -/
def wholeDegrees (tenths : Int) : Int := floorDiv tenths 10

/-- Every tile latches what its frame slot carries (R134, R282). -/
def State.latchSlots (s : State) : LinkGrp :=
  let ls := s.loopList.filter s.enabled
  let sums := ls.foldl (fun m l => (s.tilesOf l).foldl
    (fun m t => Tab.set none m (4 * t + s.slotOf l t) (some (s.tileSum l t))) m) ([] : Tab (Option Int))
  let tm := s.tileList.foldl (fun m t => (List.range 4).foldl
    (fun m k => Tab.set none m (4 * t + k) (s.tmonMv t k)) m) ([] : Tab (Option Nat))
  let die := s.tileList.foldl (fun m t => Tab.set none m t (some (10 * wholeDegrees (s.tile t).dieTemp))) ([] : Tab (Option Int))
  let vin := s.tileList.foldl (fun m t => Tab.set 0 m t (s.vinSent t)) ([] : Tab Nat)
  let cnt := ls.foldl (fun m l => Tab.set 0 m (4 * s.anchor l + s.anchorSlot l) (s.countSent l)) ([] : Tab Nat)
  { s.link with isum := sums, tmon := tm, die := die, vin := vin, counts := cnt, slotBad := 0, slotSeen := 0 }

/-! ### Over-temperature (R242 to R244) -/

/-- The level after a frame boundary (R243): 0 normal, 1 warning, 2 shutdown. -/
def otLevel (old : Nat) (t die : Option Int) (warn shut hyst : Int) : Nat :=
  let ge (v : Option Int) (x : Int) : Bool := match v with | some y => decide (x ≤ y) | none => false
  if ge t (10 * shut) || ge die 1450 then 2
  else if !ge t (10 * (warn - hyst)) && !ge die 1300 then 0
  else if ge t (10 * warn) || ge die 1300 || old != 0 then 1 else 0

/-- The temperature and its origin that a change of level records: 0 stage, 1 die. -/
def otCause (level : Nat) (t die : Option Int) : Int × Nat :=
  let lim : Int := if level = 2 then 1450 else 1300
  match t, die with
  | some x, some d => if lim ≤ d then (d, 1) else (x, 0)
  | some x, none => (x, 0)
  | none, some d => (d, 1)
  | none, none => (0, 1)

/-- A shutdown reaction of the loop (R243, R388, R389). -/
def State.otReact (s : State) (l : Nat) : State :=
  let st := (s.loop l).state
  if st = 0 ∨ st = 6 ∨ st = 7 then s
  else if s.admits (loopTarget l) 3 then s.otShutdown l
  else s.queueReaction (loopTarget l) 3 0x0504

/-- Over-temperature evaluation of a loop (R242, R243). -/
def State.otFrame (s : State) (l : Nat) : State :=
  let lp := s.loop l
  let die := s.slotDie l
  let old := lp.pr.otState
  let new := otLevel old lp.pr.temp die (toInt 16 (s.lo l 0xF 3)) (toInt 16 (s.lo l 0xF 4)) (s.lo l 0xF 5)
  let c := otCause new lp.pr.temp die
  if new = old then s
  else
    let s1 := s.updLoop l (fun lp => { lp with pr := { lp.pr with otState := new } })
    if new = 2 then
      let s2 := s1.loopReport srcProt l 0x0504 3 (two (ofInt 16 c.1) ++ [c.2])
      (s2.latch l 11).otReact l
    else
      let s2 := s1.loopReport srcProt l 0x0503 2
        (two (ofInt 16 c.1) ++ [c.2, if new = 0 then 2 else if old = 2 then 1 else 0])
      if new = 1 ∧ old = 0 then s2.latch l 10 else s2

/-! ### Stale telemetry (R309, R310) -/

/-- The channels that a loop needs, as 64 · tile + channel (R309). -/
def State.needs (s : State) (l : Nat) : List Nat :=
  (s.phasesOf l).map (fun p => 64 * (p / 16) + p % 16) ++
    (s.tilesOf l).map (fun t => 64 * t + 0x10 + s.slotOf l t) ++
    (if s.lo l 0 9 = 1 ∨ s.lo l 0xB 1 = 1 then [64 * s.anchor l + s.ffChannel l] else [])

/-- Frames without a new result: 1 at the end of the frame of the last one, 9 after eight whole frames without one, 10 after
their record (R310). -/
def State.staleFrame (s : State) (l : Nat) : State :=
  s.updLoop l (fun lp =>
    { lp with
      tl := { lp.tl with
        stale := if lp.state = 2 ∨ lp.state = 3 then
            (s.needs l).foldl (fun m c => let n := lp.tl.stale.get 0 c; Tab.set 0 m c (if n < 9 then n + 1 else n)) ([] : Tab Nat)
          else [] } })

/-! ### Lost samples and slots (R288, R289) -/

/-- Loops with a lost sample or frame slot go to their safe states at the frame boundary (R288, R289). -/
def State.lostFrame (s : State) (l : Nat) : State :=
  if (s.loop l).pr.lostTiles = 0 then s
  else
    let s1 := s.updLoop l (fun lp => { lp with pr := { lp.pr with lostTiles := 0, own := [] } })
    s1.dangerous [l] (s.anchor l) 0x0203 l false

/-- A frame slot that the tiles of loop l need has failed its CRC in this frame (R287). -/
def State.slotsBad (s : State) (l : Nat) : Bool :=
  (s.tilesOf l).any (fun t => (s.tilesOf l).any (fun u => bit s.link.slotBad (8 * t + u)))

/-- Every frame slot that the tiles of loop l need in this frame has arrived (R287). -/
def State.slotsIn (s : State) (l : Nat) : Bool :=
  let ts := (s.tilesOf l).filter (fun t => (s.tile t).state != 2)
  ts.all (fun t => ts.all (fun u => t == u || bit s.link.slotSeen (8 * t + u)))

/-- A frame that was no mismatch frame ends the run of R287: it matched, or its slots were not all good, and then a mismatch frame
after it does not directly follow one before it. -/
def State.mismatchFrame (s : State) (l : Nat) : State :=
  s.updLoop l (fun lp =>
    { lp with
      pr := { lp.pr with
        mismatch := if lp.pr.differ.isSome && s.slotsIn l && !s.slotsBad l then lp.pr.mismatch else 0, differ := none } })

/-! ### Thresholds of the coming frame (R211, R227, R231) -/

/-- Canopy threshold, overshoot level and managed comparator of a loop (R211, R227, R231). -/
def State.levelsFrame (s : State) (l : Nat) : State :=
  let lp := s.loop l
  if lp.state = 2 ∨ lp.state = 3 then
    ((s.setLevels l).manageLoop l).plausFrame l
  else s.plausFrame l

/-! ### Sequencer tick (R346, R348, R358) -/

/-- The sequencer tick of a rail: the good condition of a loop rail is evaluated (R348), and the settle count starts at the
first tick at which the rail is good and RAMP_MIN has elapsed, for a rail that is to be declared or has a drop to settle
(R358, R360). -/
def State.settleTick (s : State) (n : Nat) : State :=
  let s0 := match railLoop n with
    | some l => s.updRail n (fun r => { r with tickGood := s.loopGood l })
    | none => s
  let s1 := if (s0.rail n).on then s0.railLook n else s0
  let r := s1.rail n
  if r.on && r.good && !r.settling && (!r.declared || r.filtering) && decide (r.rampEnd ≤ s.now) then
    s1.updRail n (fun r =>
      { r with
        settling := true, settleEnd := s.railEnd n s.now (s.rr n 1 4)
        status := if r.status == 2 then 3 else r.status })
  else s1

/-- The sequencer tick of every rail. -/
def State.seqTick (s : State) : State := (s.railList.filter s.sequenced).foldl State.settleTick s

/-! ### Halt, hours, faults -/

/-- Phases frozen by a debug halt that has ended are reloaded at the frame boundary (R181). -/
def State.reloadPhases (s : State) : State :=
  { s with
    phases := s.phases.updAll {} (s.phaseList.filter (fun p => (s.phase p).reload))
      (fun p ph => ph.start s.now (s.phaseNow p) ph.offset) }

/-- RUN frames of the hour tally (R423). -/
def State.hourFrame (s : State) : State :=
  if s.md.mode = .run then { s with md := { s.md with runFrames := s.md.runFrames + 1 } } else s

/-- Faults that are active no more are forgotten; EMCY 0x0000 when the last one has ended (R404), formed by tile 0's processor once
it runs (R23), and the release of ALERT# (R403). -/
def State.faultFrame (s : State) : State :=
  let act := s.activeFaults
  let owed := act.isEmpty && (s.ev.endOwed || !s.ev.faults.isEmpty)
  let s1 := ({ s with ev := { s.ev with faults := act, endOwed := owed } } : State).alertLook
  if owed && s.procRuns 0 then ({ s1 with ev := { s1.ev with errReg := 0, endOwed := false } } : State).emcyAll 0 0 none else s1

/-- What the frame boundary does to one enabled loop before the commit: values of the frame just ended. -/
def State.loopFrameEnd (s : State) (l : Nat) : State := (s.telemFrame l).checkerFrame l

/-- What it does after the commit: slots, droop, feedforward, temperature, lost samples, population, share, learning,
burst, thresholds and stale channels. -/
def State.loopFrameStart (s : State) (l : Nat) : State :=
  let s1 := (s.takeSlots l).otFrame l
  let s2 := ((s1.lostFrame l).mismatchFrame l).learnFrame l
  let s3 := (s2.populate l).shareLoop l
  ((s3.burstFrame l).levelsFrame l).staleFrame l

/-- The time of the next frame boundary: the present instant where its boundary has not been made yet. -/
def State.nextFrame (s : State) : Nat :=
  if s.now % ticksPerFrame = 0 ∧ s.clk.frameDone < s.now / ticksPerFrame then s.now
  else (s.now / ticksPerFrame + 1) * ticksPerFrame

/-- SENSE_RANGE of a loop that is not enabled runs out (R156), and its f is 1.0 once FF_ENABLE is 0 (R127). -/
def State.idleLoops (s : State) (ls : List Nat) : State :=
  (s.loopList.filter (fun l => !ls.contains l)).foldl (fun s l =>
    s.updLoop l (fun lp =>
      { lp with
        sn := { lp.sn with rangeFrames := lp.sn.rangeFrames - 1 }
        cp := if s.lo l 0 9 = 1 then lp.cp else { lp.cp with ff := 0x4000, ffActive := false } })) s

/-- Everything a frame boundary does but the synchronous RPDOs (R72). -/
def State.frameWork (s : State) : State :=
  let t := s.nextFrame
  let sx : State := { s with clk := { s.clk with time := t, frameDone := t / ticksPerFrame } }
  let s0 := sx.latchHashes
  let ls := s0.loopList.filter s0.enabled
  let s1 := (ls.foldl State.loopFrameEnd (s0.idleLoops ls)).commitFrame
  let s2 := ls.foldl State.loopFrameStart s1
  let s3 : State := { s2 with link := s2.latchSlots }
  let s4 := s3.seqTick.progress
  ((s4.histFrameEnd.reloadPhases).hourFrame).faultFrame

end Sys2Proof.Machine
end

