-- ==== Sys2Proof/Machine/Flags.lean ====
section
/-! DEFINITION. Flag and status words that the part computes: LOOP_STATUS (R156), the lane's status word and POLL payload
(R260, R267), SAFETY_STATUS (R462), security state (R480), lane state (R275) and bitmaps over tiles and loops. The flags
of a phase (R184) are `State.phaseFlags`. -/

namespace Sys2Proof.Machine

/-- ref differs from the target (R156, R267). -/
def State.slewing (s : State) (l : Nat) : Bool := (s.loop l).tg.ref != s.lo l 1 1 * 65536

/-- v_d in 0.25 mV, rounded down (R133, R154). -/
def Loop.droopNow (lp : Loop) : Nat := (lp.cp.vd * 100 / 1024).toNat

/-- LOOP_STATUS:02 (R156). -/
def State.loopFlags (s : State) (l : Nat) : Nat :=
  let lp := s.loop l
  b2n (s.slewing l) + 2 * b2n lp.cp.atMax + 4 * b2n lp.cp.atMin + 8 * b2n (s.lo l 0 8 == 1) + 16 * b2n lp.cp.ffActive +
    32 * b2n (lp.droopNow != 0) + 64 * b2n (lp.sn.rangeFrames != 0) + 128 * b2n lp.cp.chkFault

/-- LOOP_STATUS:05 (R156). -/
def State.slotMap (s : State) (l : Nat) : Nat :=
  if s.enabled l then
    s.tileList.foldl (fun a t =>
      if (s.tilesOf l).contains t then a + (8 + 4 * b2n (t == s.anchor l) + s.slotOf l t) * 16 ^ t else a) 0
  else 0

/-- The status word of GET_STATUS (R267). -/
def State.laneWord (s : State) (l : Nat) : Nat :=
  let lp := s.loop l
  lp.state * 8192 + 4096 * b2n (s.slewing l) + 2048 * b2n (s.lo l 0 8 == 1) + 1024 * b2n lp.pv.armed.isSome +
    lp.pp.burst * 256 + lp.tg.reached % 16 * 16 + lp.tg.accepted % 16

/-- PAYLOAD of the part's POLL (R260). -/
def State.pollPayload (s : State) (t : Nat) : Nat :=
  let ln := s.lane t
  let pend := bitmap ((List.range 4).filter (fun k => match s.anchoredAt t k with
    | some l => (s.loop l).ln.latch &&& s.ob (0x5010 + l) 2 != 0
    | none => false))
  let own := bitmap ((List.range 4).filter (fun k => match s.anchoredAt t k with
    | some l => s.lo l 0 8 == 1
    | none => false))
  pend * 4096 + own * 256 + (if ln.seqValid then 16 + ln.lastSeq else 0)

/-- The lane of a tile is enabled (R49, R252, R561). -/
def State.laneOn (s : State) (t : Nat) : Bool :=
  s.md.mode != .reset && !(s.tile t).laneLevelFault && s.ob (0x5000 + t) 1 == 1

/-- LANE_CFG:05 (R275); in RESET the lane is disabled and it reads its default, 0 (R252, R516). -/
def State.laneState (s : State) (t : Nat) : Nat :=
  if s.md.mode = .reset ∨ (s.tile t).laneLevelFault then 0
  else if s.ob (0x5000 + t) 1 = 0 then 1
  else if s.now < (s.lane t).transEnd then 3
  else if (s.lane t).backoff then 4
  else 2

/-- The loops in STATE 7 (R462). -/
def State.loopsSafe (s : State) : Nat := bitmap (s.loopList.filter s.loopSafe)
/-- The loops with an overvoltage detected and not cleared (R447). -/
def State.loopsOv (s : State) : Nat := bitmap (s.loopList.filter (fun l => (s.loop l).pr.ovSeen))
/-- The loops with an undervoltage report (R448). -/
def State.loopsUv (s : State) : Nat := bitmap (s.loopList.filter (fun l => (s.loop l).pr.uvReport))

/-- The SRDOs operate: 0x13FE holds 0xA5 (R453, R502). -/
def State.srdoOn (s : State) : Bool := s.srdo.valid

/-- SAFETY_STATUS:04 (R462). -/
def State.safetyFlags (s : State) : Nat :=
  b2n (!s.pins.safeIn) + 2 * b2n s.safeOutLow + 4 * b2n (s.md.mode == .hold) + 8 * b2n (decide (5 ≤ s.highest)) +
    16 * b2n s.srdoOn + 32 * b2n (s.srdo.lost != 0) + 64 * b2n s.md.proofRunning

/-- All key slots are empty and PROVISION is intact (R466). -/
def State.unkeyed (s : State) : Bool :=
  !s.sec.provision && (List.range 4).all (fun k => (s.sec.keys.get none k).isNone)

/-- The session that is open: at the last counter value it is closed (R471). -/
def SecGrp.openNow (g : SecGrp) : Option (Chan × Nat × Nat) := if g.counter = 0xFFFFFFFF then none else g.session

/-- SEC_SESSION:06 (R480). -/
def State.secState (s : State) : Nat :=
  if s.sec.locked then 4 else if s.unkeyed then 3 else if s.sec.openNow.isSome then 2
  else if s.sec.nonce.isSome then 1 else 0

/-- Channel codes (R480). -/
def chanCode : Chan → Nat
  | .canA _ => 0 | .canB => 1 | .spi => 2

/-- The CAN channel as a dictionary channel; of CAN A, its client 0. -/
def canChan : CanChan → Chan
  | .a => .canA 0 | .b => .canB

/-- The channel of a client, as sessions, nonces and tags are bound to it (R469, R470). -/
def chanBus : Chan → Chan
  | .canA _ => .canA 0
  | c => c

/-- The place of a client in NET_STATUS's transfers; SPI has none (R485). -/
def clientOf : Chan → Option Nat
  | .canA c => some c.val
  | .canB => some 4
  | .spi => none

/-- NMT codes of NET_STATUS (R507). -/
def Nmt.code : Nmt → Nat
  | .none => 0 | .stopped => 4 | .operational => 5 | .preOperational => 0x7F

/-- NMT state of a channel. -/
def State.nmtOf (s : State) (c : CanChan) : Nmt := match c with | .a => s.net.nmtA | .b => s.net.nmtB

/-- ROLE of a phase (R218): 0 shed, 1 active, 2 thermally shed, 3 disabled, 4 in no loop. -/
def State.roleOf (s : State) (p : Nat) : Nat :=
  match s.loopOf p with
  | none => 4
  | some l =>
    if s.po p 0 7 = 0 then 3
    else if (s.loop l).pp.thermal = some p then 2
    else if (s.loop l).pp.active ≠ 0 ∧ (s.activeSet l (s.loop l).pp.active).contains p then 1 else 0

/-- CELLAR_STATUS:05 (R410, R418): entries of the hardware queues. -/
def State.queuedOps (s : State) : Nat := s.tileList.foldl (fun a t => a + Nat.min 16 (s.cellar t).queue.length) 0

/-- CELLAR_STATUS:07 (R435). -/
def State.busyTiles (s : State) : Nat :=
  bitmap (s.tileList.filter (fun t => (s.cellar t).busy.isSome || s.cel.storeState != 0))

/-- Pages of the save that the slowest tile has written (R438). -/
def State.slowest (s : State) : Nat := s.tileList.foldl (fun a t => Nat.min a (s.cellar t).savePages) 105

/-- The valid images of a set on one tile. -/
def Cellar.images (c : Cellar) (n : Nat) : List CfgImage := ([c.imgA.get {} n, c.imgB.get {} n]).filter (·.valid)

/-- The image of a set with a generation on one tile. -/
def Cellar.image (c : Cellar) (n g : Nat) : Option CfgImage := (c.images n).find? (·.gen == g)

/-- The trained tiles (R285). -/
def State.trainedTiles (s : State) : List Nat := s.tileList.filter (fun t => bit s.link.trained t && (s.tile t).state != 2)

/-- The newest of some generations (R414). -/
def newestOf (gs : List Nat) : Option Nat :=
  gs.foldl (fun b g => match b with | some x => if newer g x then some g else b | none => some g) none

/-- The highest generation of set n for which every trained tile holds a valid image (R422). -/
def State.setGen (s : State) (n : Nat) : Option Nat :=
  newestOf ((s.trainedTiles.flatMap (fun t => ((s.cellar t).images n).map (·.gen))).filter (fun g =>
    s.trainedTiles.all (fun t => ((s.cellar t).image n g).isSome)))

/-- Configuration sets with a valid generation (R422, R438). -/
def State.setValid (s : State) (n : Nat) : Bool := (s.setGen n).isSome

end Sys2Proof.Machine
end

