-- ==== Sys2Proof/Machine/Read.lean ====
section
/-! DEFINITION. The value that a read of each object returns (chapters' object tables; R77, R487, R515, R521 to R523). -/

namespace Sys2Proof.Machine

/-! ### Identity and communication (R487, R501, R507, R521 to R523) -/

/-- The part number (R523). -/
def Part.number : Part → Nat
  | .ph1016 => 0x1016 | .ph2032 => 0x2032 | .ph4064 => 0x4064 | .ph8128 => 0x8128

/-- The device name as text (R521). -/
def Part.name : Part → List Nat
  | .ph1016 => [0x50, 0x48, 0x31, 0x30, 0x31, 0x36]
  | .ph2032 => [0x50, 0x48, 0x32, 0x30, 0x33, 0x32]
  | .ph4064 => [0x50, 0x48, 0x34, 0x30, 0x36, 0x34]
  | .ph8128 => [0x50, 0x48, 0x38, 0x31, 0x32, 0x38]

/-- The serial number: 64 bits, never 0 (R523). -/
def serialNumber : Nat := Config.serial % (2 ^ 64 - 1) + 1

/-- Node-ID in use on the channel that carries an access; SPI takes that of CAN A (R487). -/
def State.nodeOf (s : State) (ch : Chan) : Nat := if ch = .canB then s.net.nodeB else s.net.nodeA

/-- A value has been written explicitly (R487). -/
def State.written (s : State) (idx sub : Nat) : Bool := (s.obj.act.get none (okey idx sub)).isSome

/-- COB-ID of a PDO (R493, R522). -/
def State.pdoCob (s : State) (tx : Bool) (i : Nat) : Nat :=
  let idx := (if tx then 0x1800 else 0x1400) + i
  if s.written idx 1 ∨ 4 ≤ i then s.ob idx 1
  else
    let onB := bit (s.ob 0x2003 (if tx then 6 else 7)) i
    (if tx then 0x180 else 0x200) + 0x100 * i + (if onB then s.net.nodeB else s.net.nodeA)

/-- COB-IDs of an SRDO (R501). -/
def State.srdoCob (s : State) (i sub : Nat) : Nat :=
  if s.written (0x1301 + i) sub ∨ i ≠ 0 then s.ob (0x1301 + i) sub
  else (if sub = 5 then 0xFF else 0x100) + 2 * (if s.ob 0x2003 8 = 1 then s.net.nodeB else s.net.nodeA)

/-- Communication objects that are not plain stored values (R505, R521, R522). -/
def State.readComm (s : State) (ch : Chan) (f : Fam) (i sub : Nat) : Option Nat :=
  match f with
  | .errorRegister => some s.errorRegister
  | .errorHistory => some (if sub = 0 then s.net.history.length else s.net.history.getD (sub - 1) 0)
  | .cobEmcy => some (if s.written 0x1014 0 then s.ob 0x1014 0 else 0x80 + s.nodeOf ch)
  | .identity => match sub with
    | 2 => some s.part.number
    | 3 => some 0x1000000
    | 4 => some (serialNumber % 2 ^ 32)
    | _ => none
  | .sdoServer => some ((if sub = 1 then 0x600 else 0x580) + s.net.nodeB)
  | .tpdoComm => if sub = 1 then some (s.pdoCob true i) else none
  | .rpdoComm => if sub = 1 then some (s.pdoCob false i) else none
  | .srdoComm => if sub = 5 ∨ sub = 6 then some (s.srdoCob i sub) else none
  | .srdoValid => some (if s.srdo.valid then 0xA5 else 0)
  | _ => none

/-! ### Device level -/

/-- A latched TIME_OF_DAY and other device-level values (R112, R114, R523, R507, R89, R90, R338, R339). -/
def State.readDev (s : State) (f : Fam) (i sub : Nat) : Option Nat :=
  match f with
  | .devMode => match sub with
    | 1 => some s.md.mode.code
    | 2 => some (if s.md.substate = 2 ∧ s.isUp then 3 else s.md.substate)
    | 3 => some s.md.lastCause
    | 0x0C => some s.md.startResult
    | 0x0D => some s.md.powerupTime
    | 0x0E => some s.md.configOrigin
    | _ => none
  | .devModeReq => match sub with
    | 1 => some s.md.lastReq
    | 4 => some s.md.reqResult
    | 5 => some s.md.checkDetail
    | _ => none
  | .devIdent => match sub with
    | 2 => some s.part.number
    | 3 => some s.T
    | 5 => some serialNumber
    | _ => none
  | .netStatus => match sub with
    | 1 => some s.net.nmtA.code
    | 2 => some s.net.nmtB.code
    | 3 => some s.net.errA
    | 4 => some s.net.errB
    | 5 => some s.net.busOffsA
    | 6 => some s.net.busOffsB
    | 7 => some s.net.rpdoRefused
    | 8 => some s.net.emcyDropped
    | 9 => some s.net.spiBad
    | 0x0A => some s.net.spiDiscarded
    | 0x0B => some s.net.spiAborted
    | 0x0C => some s.obj.heldReqs.length
    | 0x0D => some s.net.maxResponse
    | 0x0E => some (s.net.nodeB * 256 + s.net.nodeA)
    | _ => none
  | .commit => match sub with
    | 1 => some s.obj.tag
    | 2 => some s.obj.schedFrame
    | 3 => some s.obj.appliedFrame
    | 4 => some s.obj.result
    | 5 => some s.obj.appliedCount
    | _ => none
  | .shadowStatus => match sub with
    | 1 => some s.pendingTiles
    | 2 => some (b2n s.obj.flight.isSome)
    | 3 => some s.obj.notReady
    | _ => none
  | .calStatus => match sub with
    | 1 => some s.cal.state
    | 2 => some (b2n s.cal.valid)
    | 3 => some s.cal.failed
    | 4 => some s.cal.completedAt
    | 5 => some s.cal.runs
    | _ => none
  | .calFactors =>
    let k := (s.tile i).cal.get none ((sub - 1) / 10)
    match k, (sub - 1) % 10 with
    | none, 0 => some 0x8000
    | none, 1 => some 0
    | none, _ => some 0x0200
    | some c, 0 => some c.1
    | some c, 1 => some (ofInt 16 c.2.1)
    | some c, n => some (c.2.2.getD (n - 2) 0x0200)
  | _ => none

/-- Clocks, tiles and the link (R87, R88, R296 to R298). -/
def State.readClk (s : State) (f : Fam) (i sub : Nat) : Option Nat :=
  match f with
  | .clockStatus => match sub with
    | 1 => some s.clk.pllLocked
    | 2 => some s.clk.refPresent
    | 3 => some s.clk.holdover
    | 4 => some s.clk.slowOk
    | 5 => some s.clk.refLossCount
    | 6 => some (ofInt 16 s.clk.refDeviation)
    | _ => none
  | .sync => match sub with
    | 3 => some s.clk.syncState
    | 4 => some s.clk.syncInterval
    | 5 => some s.clk.syncOrigin
    | 6 => some s.clk.syncLost
    | _ => none
  | .deviceTime => match sub with
    | 1 => some s.now
    | 2 => some s.clk.timeRx
    | 3 => some s.clk.timeRxAt
    | _ => none
  | .frameCount => some s.frame
  | .tileMap => match sub with
    | 1 => some s.T
    | 2 => some s.link.trained
    | 3 => some s.link.failed
    | _ => none
  | .tileStatus => match sub with
    | 1 => some (s.tile i).state
    | 2 => some (s.tile i).failCause
    | 3 => some (s.tile i).wdCount
    | 4 => some (b2n (s.tile i).laneLevelFault)
    | 5 => some (s.tile i).trainTime
    | 6 => some (ofInt 16 (s.tile i).dieTemp)
    | _ => none
  | .pergolaStatus => match sub with
    | 1 => some s.link.pairLost
    | 2 => some s.link.mgmtFault
    | 3 => some s.link.sampleErrors
    | 4 => some s.link.controlErrors
    | 5 => some s.link.frameErrors
    | 6 => some s.link.mgmtRetries
    | 7 => some s.link.hashMismatch
    | 8 => some s.link.timeFault
    | _ => none
  | _ => none

/-- Security and safety (R462 to R464, R480 to R484). -/
def State.readSec (s : State) (f : Fam) (sub : Nat) : Option Nat :=
  match f with
  | .secSession => match sub with
    | 2 => some (match s.sec.nonce with | some n => n.1 | none => 0)
    | 5 => some s.sec.counter
    | 6 => some s.secState
    | 7 => some (match s.sec.openNow, s.sec.nonce with
        | some x, _ => chanCode x.1
        | none, some n => chanCode n.2.1
        | none, none => 0xFF)
    | 8 => some (match s.sec.openNow with | some x => x.2.1 | none => 0xFF)
    | _ => none
  | .secKeyslot =>
    if sub = 0x0A then some (bitmap ((List.range 4).filter (fun k => (s.sec.keys.get none k).isNone)))
    else if 6 ≤ sub then some (match s.sec.keys.get none (sub - 6) with | some k => checkValue k | none => 0)
    else none
  | .secLastReject => match sub with
    | 1 => some s.sec.rejReason
    | 2 => some s.sec.rejObject
    | 3 => some s.sec.rejChannel
    | 4 => some s.sec.rejAt
    | 5 => some s.sec.failures
    | _ => none
  | .secAlarmStatus => match sub with
    | 1 => some s.sec.fired
    | 2 => some (b2n s.sec.locked)
    | 3 => some (b2n s.sec.erased)
    | 4 => some s.sec.lastSrc
    | 5 => some s.sec.lastAt
    | _ => none
  | .fuseStatus => match sub with
    | 1 => some (b2n s.sec.field)
    | 2 => some (b2n s.sec.provision)
    | 4 => some s.sec.integrity
    | _ => none
  | .safetyStatus => match sub with
    | 1 => some s.loopsSafe
    | 2 => some s.loopsOv
    | 3 => some s.loopsUv
    | 4 => some s.safetyFlags
    | 5 => some s.srdo.request
    | _ => none
  | .safeStateCause => some (if s.loopSafe (sub - 1) then (s.loop (sub - 1)).pr.cause % 65536 else 0)
  | .diagTable => match sub with
    | 2 => some s.md.proofState
    | 3 => some s.md.proofResult
    | 4 => some s.diag.bandgap
    | 5 => some s.diag.corrected
    | 6 => some s.diag.detected
    | _ => none
  | _ => none

/-! ### Loops and phases -/

/-- Loop objects, offsets 0 to 0x0D (R151 to R154, R182, R214, R215, R246 to R248). -/
def State.readLoopA (s : State) (f : Fam) (l sub : Nat) : Option Nat :=
  let lp := s.loop l
  match f with
  | .loopTarget => match sub with
    | 2 => some (lp.tg.ref / 65536)
    | 3 => some lp.tg.accepted
    | 4 => some lp.tg.reached
    | 5 => some lp.tg.superseded
    | _ => none
  | .loopSlew => if sub = 2 then some lp.tg.rateInUse else none
  | .loopCarrier => match sub with
    | 3 => some (halfOf (s.lo l 3 1))
    | 4 => some (250000000 / halfOf (s.lo l 3 1))
    | _ => none
  | .loopCoefSelect => if sub = 2 then some (s.lo l 6 1) else none
  | .loopDroop => if sub = 5 then some lp.droopNow else none
  | .loopSoft => if sub = 5 then some lp.tg.prebias else none
  | .loopCanopy => match sub with
    | 0x0C => some lp.ac.canopyCount
    | 0x0D => some lp.ac.canopyLast
    | 0x0E => some lp.ac.rearmRejects
    | _ => none
  | .loopPreview => match sub with
    | 0x0A => some (match lp.pv.armed with | some p => p.cls | none => 0xFF)
    | 0x0B => some (match lp.pv.armed with | some p => p.mag | none => 0)
    | 0x0C => some (match lp.pv.armed with | some p => p.lead | none => 0)
    | 0x0D => some lp.pv.firedCount
    | 0x0E => some lp.pv.unarmed
    | 0x0F => some lp.pv.merged
    | _ => none
  | .loopShed => if sub = 0x10 then some (ofInt 8 lp.pp.level) else none
  | .loopBurst => match sub with
    | 0x0B => some lp.pp.burstCount
    | 0x0C => some lp.pp.lastSleep
    | _ => none
  | _ => none

/-- Loop objects, offsets 0x0E to 0x14 (R155, R156, R216, R218, R249, R340, R341). -/
def State.readLoopB (s : State) (f : Fam) (l sub : Nat) : Option Nat :=
  let lp := s.loop l
  match f with
  | .loopOc => match sub with
    | 4 => some lp.pr.hiccups
    | 5 => some lp.pr.hiccupTotal
    | _ => none
  | .loopOt => match sub with
    | 7 => some (ofInt 16 (lp.pr.temp.getD 0))
    | 8 => some lp.pr.otState
    | _ => none
  | .loopTrimLearn => match sub with
    | 2 => some (if lp.pp.learnNo then 5 else lp.pp.learn)
    | 9 => some lp.pp.learnIter
    | 0x0A => some (ofInt 16 lp.pp.learnWorst)
    | 0x0E => some (b2n lp.pp.learnSaved)
    | _ => none
  | .loopChecker => match sub with
    | 1 => if s.checkerOn l then some 1 else none
    | 4 => some lp.cp.chkTotal
    | 5 => some lp.cp.chkLast
    | _ => none
  | .loopStatus => match sub with
    | 1 => some lp.state
    | 2 => some (s.loopFlags l)
    | 3 => some lp.cp.duty
    | 4 => some lp.cp.ff
    | 5 => some (s.slotMap l)
    | 6 => some (ofInt 32 lp.cp.u1)
    | 7 => some lp.pp.active
    | 8 => some (ofInt 8 lp.pp.level)
    | 9 => some (match lp.pp.thermal with | some p => p | none => 0xFF)
    | 0x0A => some lp.pp.burst
    | _ => none
  | .loopTelem => match sub with
    | 2 => some lp.tl.vout
    | 3 => some (ofInt 32 lp.tl.iout)
    | 4 => some (ofInt 32 lp.tl.pout)
    | 5 => some (ofInt 16 lp.tl.tout)
    | 6 => some lp.tl.windows
    | 0x0B => some lp.pr.plaus
    | _ => none
  | .loopPeaks => match sub with
    | 1 => some lp.tl.vMax
    | 2 => some lp.tl.vMin
    | 3 => some (ofInt 32 lp.tl.iMax)
    | 4 => some (ofInt 32 lp.tl.pMax)
    | 5 => some (ofInt 16 lp.tl.tMax)
    | _ => none
  | _ => none

/-- Phase objects (R184, R217, R218, R250, R342). -/
def State.readPhase (s : State) (f : Fam) (p sub : Nat) : Option Nat :=
  let ph := s.phase p
  match f with
  | .phaseTrim => if sub = 2 then some (ofInt 8 ph.tl.learned) else none
  | .phaseOc => match sub with
    | 4 => some (s.ocCode p)
    | 5 => some ph.ct.ocRun
    | 6 => some ph.ct.truncations
    | _ => none
  | .phaseOt => if sub = 2 then some ph.ct.thermalSheds else none
  | .phaseStatus => match sub with
    | 1 => some (s.outputOf p)
    | 2 => some (s.phaseFlags p)
    | 3 => some ph.ct.skipped
    | 4 => some ph.ct.lsOmitted
    | 5 => some (ofInt 16 ph.ed.acc)
    | 6 => some (match ph.tl.share with | some e => ofInt 16 e | none => 0x8000)
    | 7 => some (s.roleOf p)
    | 8 => some ph.offset
    | _ => none
  | .phaseTelem => match sub with
    | 1 => some (ofInt 16 ((s.phase10 p).getD 0))
    | 2 => some (ofInt 16 (if (s.loopOf p).isSome then ph.tl.curAvg else (s.phase10 p).getD 0))
    | 3 => some (match ph.tl.curPeak with | some v => ofInt 16 v | none => 0x8000)
    | 4 => some (match ph.tl.shareAvg with | some e => ofInt 16 e | none => 0x8000)
    | 5 => some (((s.tile (p / 16)).latest.get none (p % 16)).getD 0)
    | _ => none
  | .phaseManual => if sub = 2 then some ph.ed.dutyInUse else none
  | _ => none

/-! ### Tiles, comparators, lanes -/

/-- RAW value of an entry (R337). -/
def rawWord (r : Nat × Nat × Bool × Nat) : Nat := r.2.1 % 256 * 2 ^ 24 + b2n r.2.2.1 * 2 ^ 23 + r.1 % 2 ^ 20

/-- Result of entry i of table `v` of a tile. -/
def State.rawOf (s : State) (t v i : Nat) : Nat × Nat × Bool × Nat := (s.tile t).raw.get (0, 0, false, 0) (64 * v + i)

/-- Telemetry, comparators and capture timers (R335 to R337, R343, R344). -/
def State.readTile (s : State) (f : Fam) (i sub : Nat) : Option Nat :=
  let ti := s.tile i
  match f with
  | .telemSeq => match sub with
    | 6 => some ti.seq0.passes
    | 7 => some ti.seq1.passes
    | 8 => some ti.late
    | 9 => some (((s.flushTile i).tablesAt i s.now).tile i).seq0.entry
    | 0x0A => some (((s.flushTile i).tablesAt i s.now).tile i).seq1.entry
    | _ => none
  | .telemCheck => match sub with
    | 2 => some ti.refFails
    | 3 => some ti.senseFails
    | 4 => some ti.openSense
    | 5 => some ti.openVmon
    | _ => none
  | .raw0 => some (rawWord (s.rawOf i 0 (sub - 1)))
  | .raw1 => some (rawWord (s.rawOf i 1 (sub - 1)))
  | .volts0 => some (s.rawOf i 0 (sub - 1)).2.2.2
  | .volts1 => some (s.rawOf i 1 (sub - 1)).2.2.2
  | .latest => some ((ti.latest.get none (sub - 1)).getD 0)
  | .comparator =>
    let t := i / 64
    let c := i % 64
    match sub with
    | 6 => some (b2n ((s.comp t c).output && !s.compHeld t c))
    | 7 => some (s.managerOf t c)
    | 8 => some (s.thresholdOf t c)
    | 9 => some (s.comp t c).activations
    | _ => none
  | .captureTimer =>
    let k := s.comp (i / 64) (i % 64)
    match sub with
    | 3 => some k.lastActive
    | 4 => some k.lastRelease
    | 5 => some k.edges
    | _ => none
  | _ => none

/-- Lanes and monitors (R275, R276, R528, R529). -/
def State.readLane (s : State) (f : Fam) (i sub : Nat) : Option Nat :=
  match f with
  | .laneCfg =>
    let ln := s.lane i
    match sub with
    | 4 => some (b2n (bit s.pins.lvsel i))
    | 5 => some (s.laneState i)
    | 6 => some ln.transactions
    | 7 => some ln.crcErrors
    | 8 => some ln.missing
    | 9 => some ln.dups
    | 0x0A => some ln.backoffs
    | 0x0B => some (if ln.seqValid then ln.lastSeq else 0xFF)
    | _ => none
  | .laneStatus =>
    let ln := (s.loop i).ln
    match sub with
    | 1 => some ln.latch
    | 3 => some ln.lastOpcode
    | 4 => some ln.lastPayload
    | 5 => some ln.lastStatus
    | 6 => some ln.acceptedSets
    | 7 => some ln.nakRange
    | 8 => some ln.nakOwner
    | _ => none
  | .histogram =>
    let h := s.hists.get {} i
    match sub with
    | 5 => some (ofInt 32 h.snap.min)
    | 6 => some (ofInt 32 h.snap.max)
    | 7 => some h.snap.count
    | 9 => some (if h.bad then 0 else s.histFrame)
    | _ => none
  | .capture =>
    let c := s.caps.get {} i
    match sub with
    | 6 => some c.state
    | 7 => some c.trigAt
    | 0x0B => some (b2n (c.valid && c.state == 3))
    | _ => none
  | _ => none

/-! ### Rails, events, Cellar -/

/-- A failure record's field (R377). -/
def FailRec.read (r : FailRec) (sub : Nat) : Option Nat :=
  match sub with
  | 1 => some (b2n r.valid)
  | 2 => some r.rail
  | 3 => some r.state
  | 4 => some r.cause
  | 5 => some r.time
  | 6 => some r.timeRx
  | _ => none

/-- Rails and the sequencer (R374, R376, R377). -/
def State.readRail (s : State) (f : Fam) (n sub : Nat) : Option Nat :=
  let r := s.rail n
  match f with
  | .railStatus => match sub with
    | 1 => some r.status
    | 2 => some r.lastCause
    | 3 => some r.drops
    | 4 => some r.retries
    | 5 => some r.onAt
    | 6 => some r.goodAt
    | 7 => some r.offAt
    | 8 => some r.dischargedAt
    | _ => none
  | .seqState => match sub with
    | 1 => some (s.tileSt 0)
    | 2 => some (if s.tileSt 0 = 0 then 0 else if s.isUp then 2 else s.tileDir 0)
    | 3 => some (b2n s.lineHigh)
    | 4 => some s.holdingTiles
    | 5 => some s.seq.steps
    | 6 => some s.seq.lastStepAt
    | 7 => some s.seq.timeouts
    | 8 => some s.seq.sysresets
    | 9 => some (b2n s.seq.local_)
    | _ => none
  | .seqFirstFail => s.seq.first.read sub
  | .seqLastFail => s.seq.last.read sub
  | _ => none

/-- Queued reactions of all targets (R389, R407). -/
def State.queuedReactions (s : State) : Nat := s.railList.foldl (fun a n => a + (s.target n).queue.length) 0

/-- Sum over the tiles' recorders. -/
def State.sumRec (s : State) (g : Recorder → Nat) : Nat := s.tileList.foldl (fun a t => a + g (s.recorder t)) 0

/-- Events, rings and the recorder (R407 to R409). -/
def State.readEvent (s : State) (f : Fam) (i sub : Nat) : Option Nat :=
  match f with
  | .ringCfg => match sub with
    | 7 => some (s.ring i).writeIdx
    | 8 => some (s.ring i).readIdx
    | 9 => some (s.ring i).lost
    | 0x0A => some (s.ring i).peak
    | _ => none
  | .recCursor => match sub with
    | 1 => some s.ev.view
    | 2 => some s.position
    | 4 => some s.afterCursor.length
    | _ => none
  | .recWindow => match sub with
    | 2 => some s.ev.returned
    | 3 => some s.ev.crcFails
    | 4 => some s.ev.firstBad
    | _ => none
  | .recStatus => match sub with
    | 1 => some (s.sumRec Recorder.held)
    | 2 => some (Nat.min (s.sumRec (·.overCount)) 0xFFFFFFFF)
    | 3 => some (Nat.min (s.sumRec (·.stopLost)) 0xFFFFFFFF)
    | 4 => some (bitmap (s.tileList.filter (fun t => (s.recorder t).full)))
    | 5 => some s.ev.crcFailTotal
    | _ => none
  | .faultActive => match sub with
    | 1 => some (Nat.min s.activeFaults.length 255)
    | 2 => some s.highest
    | 3 => some (b2n s.ev.alert)
    | 7 => some s.queuedReactions
    | _ => none
  | _ => none

/-! ### Raw pages (R411, R412, R416, R419, R435) -/

/-- Pairs with no valid copy, all tiles (R434, R435). -/
def State.lostCount (s : State) : Nat :=
  s.tileList.foldl (fun a t => a + ((pairsOn t).filter (fun i => (((s.cellar t).pair i).newestA i).isNone)).length) 0

/-- The image of a set that holds a page, and the page's position there: from page 192 on, four sets of two images of 104 pages
(R411). -/
def Cellar.imageAt (c : Cellar) (pg : Nat) : ImgPage × Nat :=
  let n := (pg - 192) / 208
  let k := (pg - 192) % 208
  if k < 104 then ((c.imgA.get {} n).page k, k) else ((c.imgB.get {} n).page (k - 104), k - 104)

/-- The bytes of a page of an image: SEQ is the generation, TAG the position; the layout of its values is not given, and the header
has the generation, a length and the CRC-32C over the data bytes (R419). -/
def imageBytes (place k g : Nat) (header : Bool) : List Nat :=
  let dataOf (j : Nat) : List Nat := (List.range 56).map (fun n => freeCell (64 * (place - k + j) + 4 + n))
  if header then
    pageBytes place k g (some (bytesLE 2 g ++ bytesLE 2 (freeCell (64 * place + 1) + 256 * freeCell (64 * place + 2)) ++
      bytesLE 4 (crc32c ((List.range 103).flatMap dataOf))))
  else pageBytes place k g none

/-- A copy of pair i of tile t as it reads now: one in writing has its old bytes in the erase phase and its new ones in the
program phase, OR an unknown mask (R415, R416). -/
def State.rawCopy (s : State) (t pg : Nat) (c : Page) : List Nat :=
  match c with
  | .moving old sq d =>
    masked (if s.now < (s.cellar t).opAt + 750000 then old else pageBytes (1024 * t + pg) (pg / 2) sq d) (4096 + s.diag.fresh)
  | c => c.bytes (1024 * t + pg) (pg / 2)

/-- One page of a Cellar as a raw read returns it (R411, R412, R416, R419, R423, R435). Reserved pages and patch images, whose
content is not given, read as unknown bytes. -/
def State.rawPage (s : State) (t pg : Nat) : List Nat :=
  let c := s.cellar t
  let place := 1024 * t + pg
  let unknown := (List.range 64).map (fun n => freeCell (64 * place + n))
  if 30 ≤ pg ∧ pg ≤ 37 then
    (if c.busy = some (.foldErase (pg - 30)) then masked (c.field (pg - 30)).bytes (4096 + s.diag.fresh)
    else (c.field (pg - 30)).bytes)
  else if pg < 52 then
    (if (pairsOn t).contains (pg / 2) then
      s.rawCopy t pg (if pg % 2 = 0 then (c.pair (pg / 2)).a else (c.pair (pg / 2)).b)
    else unknown)
  else if 192 ≤ pg then
    (match c.imageAt pg with
      | (.blank, _) => List.replicate 64 0xFF
      | (.data g _, k) => imageBytes place k g false
      | (.header g _, k) => imageBytes place k g true
      | (.torn _, _) => unknown)
  else unknown

/-- Marginal cells of a page at a margin read (R413, R416, R435): none of a copy that is valid or erased; an unknown number of a page
in writing and of one whose content is not given. -/
def State.rawMarginal (s : State) (t pg : Nat) : Nat :=
  let c := s.cellar t
  let unknown := freeCell (3145728 + 1024 * t + pg + 8192 * s.diag.fresh)
  if 30 ≤ pg ∧ pg ≤ 37 then (if c.busy = some (.foldErase (pg - 30)) then unknown else (c.field (pg - 30)).marginal)
  else if pg < 52 then
    (if (pairsOn t).contains (pg / 2) then
      (match if pg % 2 = 0 then (c.pair (pg / 2)).a else (c.pair (pg / 2)).b with
        | .moving _ _ _ => unknown
        | p => p.marginal)
    else unknown)
  else if 192 ≤ pg then
    (match (c.imageAt pg).1 with
      | .torn m => if m = 0 then unknown else m
      | _ => 0)
  else unknown

/-- The Cellar (R435 to R438). -/
def State.readCellar (s : State) (f : Fam) (sub : Nat) : Option Nat :=
  match f with
  | .cellarStatus => match sub with
    | 1 => some s.cel.recoveryTime
    | 2 => some s.cel.rolledBack
    | 3 => some s.cel.tallyDone
    | 4 => some (Nat.min s.lostCount 65535)
    | 5 => some s.queuedOps
    | 6 => some s.cel.repaired
    | 7 => some s.busyTiles
    | 0x0B => some (s.rawMarginal (s.ob 0x4800 8) (s.ob 0x4800 9))
    | _ => none
  | .cellarStore => match sub with
    | 2 => some (if s.cel.storeState = 0 then 0 else if s.now < s.cel.storeAt + 10000 then 1 else 2)
    | 3 => some s.cel.storeResult
    | 4 => some s.cel.storeAt
    | 5 => some s.cel.storeCause
    | 6 => some s.cel.vholdEnd
    | 7 => some s.cel.storeMerged
    | 8 => some (match (s.cellar 0).area with | some b => b.time | none => 0)
    | _ => none
  | .cellarTally => some ((s.cellar ((sub - 1) / 8)).tallyValue ((sub - 1) % 8) % 2 ^ 32)
  | .configSet => match sub with
    | 1 => some s.cel.activeSet
    | 4 => some s.cel.saveState
    | 5 => some (if s.cel.saveState = 2 then s.slowest else s.cel.progress)
    | 6 => some (bitmap ((List.range 4).filter s.setValid))
    | 7 => some s.cel.generation
    | 8 => some s.cel.savedAt
    | _ => none
  | _ => none

/-! ### Everything together -/

/-- The first reading that gives a value. -/
def firstSome : List (Option Nat) → Option Nat
  | [] => none
  | some v :: _ => some v
  | none :: t => firstSome t

/-- The value of a computed subindex; `none` for a stored one. -/
def State.computed (s : State) (ch : Chan) (f : Fam) (i sub : Nat) : Option Nat :=
  firstSome [s.readComm ch f i sub, s.readDev f i sub, s.readClk f i sub, s.readSec f sub, s.readLoopA f i sub,
    s.readLoopB f i sub, s.readPhase f i sub, s.readTile f i sub, s.readLane f i sub, s.readRail f i sub,
    s.readEvent f i sub, s.readCellar f sub]

/-- The READ_SELECT of a channel is 1: reads of C objects return the shadow (R77, R90). -/
def State.readShadow (s : State) (ch : Chan) : Bool := s.ob 0x2011 (5 + chanCode ch) == 1

/-- A stored value as this channel reads it (R77). -/
def State.stored (s : State) (ch : Chan) (idx sub : Nat) (r : Row) : Nat :=
  if r.cls = .c ∧ s.readShadow ch then s.obj.shadow s.T (okey idx sub) else s.ob idx sub

/-- The 65,536 positions of a capture, oldest first, from a buffer held newest first; what was not recorded reads as
`fill` (R540). -/
def positions (fill : Nat) (xs : List Nat) : List Nat := List.replicate (65536 - xs.length) fill ++ xs.reverse

/-- Every fourth position, from position 0 (R542). -/
def fourths : List Nat → List Nat
  | a :: _ :: _ :: _ :: r => a :: fourths r
  | [] => []
  | a :: _ => [a]

/-- Octet strings, texts and domains (R407, R435, R500, R521, R528, R529, R542). -/
def State.readString (s : State) (f : Fam) (i sub : Nat) : Option (List Nat) :=
  match f with
  | .deviceName => some s.part.name
  | .hwVersion => some [0x31, 0x2E, 0x30]
  | .swVersion => some [0x31, 0x2E, 0x30, 0x20, 0x50, 0x30]
  | .ringStream => some (match ((s.ring i).unread)[sub - 1]? with | some r => r.bytes | none => List.replicate 32 0)
  | .faultActive =>
    if sub = 5 then some (match s.ev.first with | some r => r.bytes | none => List.replicate 32 0) else none
  | .cellarStatus => if sub = 0x0A then some (s.rawPage (s.ob 0x4800 8) (s.ob 0x4800 9)) else none
  | .histogram =>
    if sub = 8 then some ((List.range 64).flatMap (fun b => bytesLE 4 ((s.hists.get {} i).snap.bins.get 0 b))) else none
  | .capture =>
    let c := s.caps.get {} i
    match sub with
    | 8 => some ((positions 0xFFFF c.samples).flatMap (bytesLE 2))
    | 9 => some ((fourths (positions 0xFFFF c.duty)).flatMap (bytesLE 2))
    | 0x0A => some (fourths (positions 0xFF c.counts))
    | _ => none
  | _ => none

/-- The bytes that a read of an existing, readable subindex returns; subindex 00 holds the highest subindex (R515). -/
def State.readBytes (s : State) (ch : Chan) (idx sub : Nat) (f : Fam) (i : Nat) : List Nat :=
  match f.row sub with
  | none => [f.highest]
  | some r =>
    match s.readString f i sub with
    | some bs => bs
    | none => bytesLE r.bytes ((s.computed ch f i sub).getD (s.stored ch idx sub r))

end Sys2Proof.Machine
end

