-- ==== Sys2Proof/Machine/CheckOps.lean ====
section
/-! DEFINITION. Checks of a configuration: the ENABLE checks of a loop, the entry check of STANDBY, the safety conditions,
and the checks that refuse a commit (R102, R103, R116, R166, R206, R285, R309, R322, R371, R455). A check looks at active
values; "with the new value in place" is the check of a state in which that value has been put. -/

namespace Sys2Proof.Machine

/-- The state whose active values are those that a commit would apply now (R153, R166, R197, R309). -/
def State.withShadow (s : State) : State :=
  { s with obj := s.obj.pending.foldl (fun o e => o.put e.1 e.2) s.obj }

/-- The state in which a value has been put, over the shadow values for a C object. -/
def State.supposing (s : State) (cls : Cls) (idx sub v : Nat) : State :=
  (if cls = .c then s.withShadow else s).put idx sub v

/-! ### Telemetry tables (R301, R309) -/

/-- Entry i of table v of tile t. -/
def State.tabWord (s : State) (t v i : Nat) : Nat := s.ob (0x3A01 + 32 * t + v) (i + 1)

/-- The tables of tile t run. -/
def State.tabRun (s : State) (t : Nat) : Bool := s.ob (0x3A00 + 32 * t) 1 == 1

/-- LENGTH of table v of tile t. -/
def State.tabLength (s : State) (t v : Nat) : Nat := s.ob (0x3A00 + 32 * t) (2 + v)

/-- The running tables of tile t bring channel `ch`. -/
def State.tableHas (s : State) (t ch : Nat) : Bool :=
  s.tabRun t && ([0, 1]).any (fun v => (List.range (s.tabLength t v)).any (fun i => field (s.tabWord t v i) 0 7 == ch))

/-- The entry named by FF_ENTRY is a running VINSEN0 entry (R309). -/
def State.ffEntryOk (s : State) (l : Nat) : Bool :=
  let e := s.lo l 0 0xB
  let t := s.anchor l
  let v := field e 6 1
  let i := field e 0 6
  s.tabRun t && decide (i < s.tabLength t v) && field (s.tabWord t v i) 0 7 == 0x24

/-- Feedforward or the preview needs VINSEN0 (R309). -/
def State.needsVin (s : State) (l : Nat) : Bool := s.lo l 0 9 == 1 || s.lo l 0xB 1 == 1

/-- Tile t lacks a channel that loop l needs (R309). -/
def State.lacksOn (s : State) (l t : Nat) : Bool :=
  (s.phasesOf l).any (fun p => p / 16 == t && !s.tableHas t (p % 16)) || !s.tableHas t (0x10 + s.slotOf l t) ||
    (t == s.anchor l && s.needsVin l && !s.ffEntryOk l)

/-- The first tile whose tables lack a channel that loop l needs. -/
def State.lacking (s : State) (l : Nat) : Option Nat := (s.tilesOf l).find? (s.lacksOn l)

/-! ### Loops (R116, R285) -/

/-- Phases 32i to 32i + 31 of loop l break a check: absent, on an untrained tile, or in another enabled loop. -/
def State.phasesBad (s : State) (l i : Nat) : Bool :=
  (bitsOf (s.lo l 0 (2 + i)) 32).any (fun b =>
    let p := 32 * i + b
    decide (16 * s.T ≤ p) || !bit s.link.trained (p / 16) ||
      s.loopList.any (fun m => m != l && s.enabled m && bit (s.phaseSet m) p))

/-- The slot of loop l on tile t is held by another enabled loop. -/
def State.slotTaken (s : State) (l t : Nat) : Bool :=
  s.loopList.any (fun m => m != l && s.partakes m t && s.slotOf m t == s.slotOf l t)

/-- The anchor of loop l breaks a check: no phase on it, absent, untrained, or its slot taken. -/
def State.anchorBad (s : State) (l : Nat) : Bool :=
  let a := s.anchor l
  !s.hasTile a || !s.holds l a || !bit s.link.trained a || s.slotTaken l a

/-- A replica slot of loop l is taken. -/
def State.replicaBad (s : State) (l : Nat) : Bool := (s.tilesOf l).any (fun t => t != s.anchor l && s.slotTaken l t)

/-- The first failing subindex of LOOP_CFG (R116); `none` when every check passes. -/
def State.loopFail (s : State) (l : Nat) : Option Nat :=
  match (List.range 4).find? (s.phasesBad l) with
  | some i => some (2 + i)
  | none => if s.anchorBad l then some 6 else if s.replicaBad l then some 7 else none

/-! ### Safety loops (R322, R455) -/

/-- Conditions of R455 for loop l, each with the object that it names. -/
def State.safetyConds (s : State) (l : Nat) : List (Nat × Bool) :=
  let a := s.anchor l
  let c := 16 + 2 * s.anchorSlot l
  let j := s.lo l 0x13 7
  [(okey (loopIdx l 0) 1, s.enabled l),
   (okey (loopIdx l 0x13) 7, decide (j < 16) && s.rr (16 * a + j) 0 1 == 0),
   (okey (compIdx a c) 1, s.ob (compIdx a c) 1 == 0),
   (okey (compIdx a c) 2, decide (4 * s.lo l 7 4 + 320 ≤ 25 * s.ob (compIdx a c) 2)),
   (okey (loopIdx l 0x11) 1, s.checkerOn l)] ++
  (s.tilesOf l).map (fun t => (okey (0x3800 + 16 * t) 7, s.ob (0x3800 + 16 * t) 7 == 2))

/-- The first object that fails R455 for loop l. -/
def State.safetyFail (s : State) (l : Nat) : Option Nat := ((s.safetyConds l).find? (fun c => !c.2)).map (·.1)

/-- The loops that SAFETY_CFG:01 names. -/
def State.safetyLoops (s : State) : List Nat := s.loopList.filter (bit (s.ob 0x2600 1))

/-- The conditions of R455 for loop l in their order, that on SFLT_ACTION once for all its tiles. -/
def State.safetyKinds (s : State) (l : Nat) : List Bool :=
  let cs := (s.safetyConds l).map (·.2)
  cs.take 5 ++ [(cs.drop 5).all id]

/-- The write from `s` to `s'` breaks a condition of R455 that held: one of the list, or that of an object (R455). -/
def State.breaksSafety (s s' : State) : Bool :=
  s.safetyLoops.any (fun l =>
    ((s.safetyKinds l).zip (s'.safetyKinds l)).any (fun e => e.1 && !e.2) ||
      (s'.safetyConds l).any (fun c => !c.2 && (s.safetyConds l).any (fun d => d.1 == c.1 && d.2)))

/-! ### Rails (R102, R371) -/

/-- STATE of rail n above TOP_STATE (R371). -/
def State.railHigh (s : State) (n : Nat) : Option Nat :=
  if s.ob 0x4300 1 < s.rr n 0 2 then some (okey (railIdx n 0) 2) else none

/-- A parent cycle of rail n (R102). -/
def State.railCycle (s : State) (n : Nat) : Option Nat := if s.cyclic n then some (okey (railIdx n 0) 3) else none

/-- The first object of rail n that fails the entry check: a parent cycle, or the STATE of an enabled rail (R102). -/
def State.railFail (s : State) (n : Nat) : Option Nat :=
  (s.railCycle n).or (if s.rr n 0 1 = 1 then s.railHigh n else none)

/-- What R103 checks of an enabled loop again: R116, the anchor's tile, and R455 where SAFETY_CFG names it. -/
def State.loopRecheck (s : State) (l : Nat) : Option Nat :=
  let a := if s.enabled l then
      (match s.loopFail l with
        | some k => some (okey (loopIdx l 0) k)
        | none => if (s.tile (s.anchor l)).state = 2 then some (okey (loopIdx l 0) 6) else none)
    else none
  match a with
  | some k => some k
  | none => if bit (s.ob 0x2600 1) l then s.safetyFail l else none

/-- The first `some` of a list. -/
def firstOf : List (Option Nat) → Option Nat
  | [] => none
  | some k :: _ => some k
  | none :: t => firstOf t

/-- The entry check of STANDBY (R102): the key of the first object that fails. Which object stands for calibration, a commit
in flight, a failed anchor tile, a rail cycle and the VIN thresholds, and the order of the checks, are the model's (DESIGN
CHOICE, log entry 120). -/
def State.entryFail (s : State) : Option Nat :=
  firstOf [
    if s.cal.valid then none else some (okey 0x2021 2),
    if s.obj.flight.isSome then some (okey 0x2011 2) else none,
    firstOf (s.loopList.map s.loopRecheck),
    firstOf (s.railList.map s.railFail),
    if s.ob 0x2000 7 ≠ 0 ∧ s.ob 0x2000 7 ≤ s.ob 0x2000 8 then some (okey 0x2000 8) else none]

/-- DEV_MODE_REQ:04 for a failed entry check (R114). -/
def entryResult (key : Nat) : Nat := if key = okey 0x2011 2 then 2 else 3

/-- R103: the recheck of the block of an X object, in the state with the new value; a STATE write above TOP_STATE is refused
on a disabled rail too (R371). -/
def State.recheck (s : State) (f : Fam) (i sub : Nat) : Option Nat :=
  if loopFams.contains f then s.loopRecheck i
  else match f with
    | .railCfg => (s.railCycle i).or (if sub = 2 ∨ s.rr i 0 1 = 1 then s.railHigh i else none)
    | _ => none

/-! ### Commit refusals (R166, R206, R309) -/

/-- MIN_PULSE of phase p breaks R166. -/
def State.pulseBad (s : State) (p : Nat) : Bool :=
  let c := s.phaseNow p
  (c.outMode == 1 && decide (c.minPulse < c.dead + 64)) || decide (32 * c.half < c.minPulse)

/-- Paired entries of table v of tile t. -/
def State.pairedEntries (s : State) (t v : Nat) : List Nat :=
  (List.range (s.tabLength t v)).filter (fun i => bit (s.tabWord t v i) 31)

/-- The first entry of tile t with SHIFT > K: table and entry. -/
def State.shiftBad (s : State) (t : Nat) : Option (Nat × Nat) :=
  (([0, 1]).flatMap (fun v => (List.range 64).map (v, ·))).find? (fun e =>
    decide (field (s.tabWord t e.1 e.2) 8 4 < field (s.tabWord t e.1 e.2) 12 4))

/-- The first paired entry of tile t of a pair with different K, or without a partner while the tables run (R309): the pairs
that exist come before the entry that lacks one (DEDUCED, log entry 125). -/
def State.pairBad (s : State) (t : Nat) : Option (Nat × Nat) :=
  let a := s.pairedEntries t 0
  let b := s.pairedEntries t 1
  match (a.zip b).find? (fun e => field (s.tabWord t 0 e.1) 8 4 != field (s.tabWord t 1 e.2) 8 4) with
  | some e => some (0, e.1)
  | none =>
    if s.tabRun t = false then none
    else if a.length < b.length then some (1, b.getD a.length 0)
    else if b.length < a.length then some (0, a.getD b.length 0)
    else none

/-- The first object that refuses a commit by R166 or R309, in the state with the values it would apply: index, subindex,
instance. -/
def State.commitFail (s : State) : Option (Nat × Nat × Nat) :=
  match s.phaseList.find? s.pulseBad with
  | some p => some (phaseIdx p 2, 2, p)
  | none =>
    match s.tileList.findSome? (fun t => ((s.shiftBad t).or (s.pairBad t)).map (fun e => (0x3A01 + 32 * t + e.1, e.2 + 1, t))) with
    | some e => some e
    | none => ((s.loopList.filter s.enabled).findSome? s.lacking).map (fun t => (0x3A00 + 32 * t, 1, t))

/-- A pending PHASE_TRIM concerns a loop that learns (R206). -/
def State.trimPending (s : State) : Bool :=
  s.obj.pending.any (fun e => match resolve s.T (e.1 / 256) with
    | some (.phaseTrim, p) => (match s.loopOf p with | some l => s.learning l | none => false)
    | _ => false)

end Sys2Proof.Machine
end

