-- ==== Sys2Proof/Machine/StoreOps.lean ====
section
/-! DEFINITION. What follows from a written X setting, the power-fail store, the saved configuration sets, and the
recovery of interrupted Cellar operations (R419 to R431). -/

namespace Sys2Proof.Machine

/-! ### What follows from an X setting -/

/-- A ring whose host or size has changed starts empty (log entry 16). -/
def State.resetRing (s : State) (r : Nat) : State :=
  { s with ev := { s.ev with rings := s.ev.rings.upd {} r (fun g => g.unread.foldl Ring.lose { gap := g.gap, lost := g.lost }) } }

/-- The receive SRDO and its signatures are no longer accepted: 0x13FE reads 0 (R502). -/
def State.srdoInvalid (s : State) : State := { s.put 0x13FE 0 0 with srdo := { s.srdo with valid := false } }

/-- Trip bits of a phase from the active inputs and actions of its tile (R175). -/
def State.tripBits (s : State) (p : Nat) : Nat :=
  let t := p / 16
  let a (n : Nat) : Bool := s.ob (0x3800 + 16 * t) (3 + n) == 2 && s.tripLevel t n && (s.tripPhases t n).contains p
  let f := s.ob (0x3800 + 16 * t) 7 == 1 &&
    (List.range 4).any (fun k => s.pins.sflt.get false (4 * t + k) && (s.sfltPhases t k).contains p)
  b2n (a 0) + 2 * b2n (a 1) + 4 * b2n f

/-- The lane of a tile is disabled: SEQ_VALID is 0 at its next enable, and no failure count or back-off is left (R252,
R264). Its counters keep what they have counted (DESIGN CHOICE, log entry 152). -/
def State.laneStops (s : State) (t : Nat) : State :=
  s.updLane t (fun ln =>
    { ln with
      transEnd := Nat.min ln.transEnd s.now, seqValid := false, fails := 0, backoff := false, alertLow := false
      response := none })

/-- Change a TPDO. -/
def State.updTpdo (s : State) (n : Nat) (f : Tpdo → Tpdo) : State :=
  { s with net := { s.net with tpdos := s.net.tpdos.upd {} n f } }

/-- The mapped entries of TPDO n. -/
def State.tpdoMapping (s : State) (n : Nat) : List Nat :=
  (List.range (s.ob (0x1A00 + n) 0)).map (fun j => s.ob (0x1A00 + n) (j + 1))

/-- The ring of a stream entry and its record number (R499). -/
def streamOf (e : Nat) : Option (Nat × Nat) :=
  let idx := e / 65536
  if 0x4440 ≤ idx ∧ idx < 0x4480 then some (idx - 0x4440, e / 256 % 256 - 1) else none

/-- The ring that a TPDO streams (R499). -/
def State.streamRing (s : State) (n : Nat) : Option Nat := ((s.tpdoMapping n).filterMap streamOf).head?.map (·.1)

/-- What a stream frame of TPDO n carried is no longer to be sent again or consumed (R499). -/
def State.dropStream (s : State) (n : Nat) : State := s.updTpdo n (fun t => { t with inFlightRecs := 0 })

/-- A ring's setting has changed: the frames that stream it are given up (R397, R499). -/
def State.dropStreams (s : State) (r : Nat) : State :=
  ((List.range 16).filter (fun n => s.streamRing n == some r)).foldl State.dropStream s

/-- Consequences of an X value just put. -/
def State.afterX (s : State) (f : Fam) (i sub : Nat) : State :=
  match f with
  | .ringCfg => if sub ≤ 2 then (s.resetRing i).dropStreams i else if sub = 5 then s.dropStreams i else s
  | .tpdoComm | .tpdoMap => s.dropStream i
  | .netCfg => if sub = 6 then (List.range 16).foldl State.dropStream s else s
  | .loopCfg => s.manualLook.holdLook.ownersLook
  | .loopTelem => s.holdLook
  | .laneCfg => if sub = 1 ∧ s.ob (0x5000 + i) 1 = 0 then s.laneStops i else s
  | .srdoComm | .srdoMap => s.srdoInvalid
  | .tripCfg =>
    { s with
      phases := s.phases.updAll {} ((List.range 16).map (16 * i + ·)) (fun p ph => { ph with tripOff := s.tripBits p }) }
  | _ => s

/-! ### The power-fail store (R426 to R428, R431) -/

/-- The first 64 records in storage order, the 64 newest, and how many were created between them (R402). -/
def Recorder.storeSet (q : Recorder) : List Rec × List Rec × Nat :=
  let rs := q.fixed ++ q.circ
  let a := rs.take 64
  let b := rs.drop (rs.length - 64)
  (a, b, match a.getLast?, b.head? with | some x, some y => y.num - x.num - 1 | _, _ => 0)

/-- The next store goes to bank A: bank B holds the newest valid image (R426). -/
def Cellar.storeToA (c : Cellar) : Bool :=
  match c.bankA.valid, c.bankB.valid with
  | true, true => newer c.bankB.seq c.bankA.seq
  | true, false => false
  | _, _ => true

/-- The store area of a tile takes the two sets and its header (R426, R427 steps 1 and 2). -/
def Cellar.fillArea (c : Cellar) (sets : List Rec × List Rec × Nat) (cause at_ : Nat) : Cellar :=
  let sq := match c.newestBank with | some b => (b.seq + 1) % 65536 | none => 1
  { c with
    area := some {
      valid := true, seq := sq, cause := cause, time := at_, first := sets.1, newest := sets.2.1, between := sets.2.2 } }

/-- A store is triggered (R427): 1 PFAIL, 2 VIN comparator, 3 request; merged into one that runs. -/
def State.startStore (s : State) (cause : Nat) : State :=
  if s.cel.storeState ≠ 0 then { s with cel := { s.cel with storeMerged := satAdd 32 s.cel.storeMerged 1 } }
  else
    ({ s with
      cel := { s.cel with
        storeState := 1, storeAt := s.now, storeCause := cause
        cellars := s.cel.cellars.updAll {} s.tileList (fun t c =>
          c.fillArea (s.recorder t).storeSet cause s.now) } } : State).tally s.tileList 4

/-- The pulse writes the store area into a bank; with too little energy the bank is torn (R427 step 3, R428). -/
def Cellar.storeBank (c : Cellar) (ok : Bool) : Cellar :=
  let b : Bank := if ok then c.area.getD {} else {}
  if c.storeToA then { c with bankA := b } else { c with bankB := b }

/-- The store ends with this VHOLD: the banks are written, and the interrupted cell operations start again, a page write from its
erase phase, a save with the page at which it was stopped (R427, R428, R431). -/
def State.endStore (s : State) (vholdMv : Nat) : State :=
  if s.cel.storeState = 0 then s
  else
    let ok := decide (3600 ≤ vholdMv)
    let s1 := s.reach (s.cel.storeAt + 1010000)
    { s1 with
      cel := { s1.cel with
        cellars := s1.cel.cellars.updAll {} s1.tileList (fun _ c => { c.storeBank ok with opAt := s1.now })
        storeState := 0, storeResult := if ok then 1 else 2, vholdEnd := vholdMv } }

/-! ### Cell operations (R410, R415, R424) -/

/-- The controller of a tile takes the next operation of its queue when it is free of an operation and of a store (R410). -/
def State.cellStart (s : State) (t : Nat) : State :=
  if s.cel.storeState ≠ 0 ∨ (s.tile t).state = 2 then s
  else s.updCellar t (fun c => c.next t s.cel.saveSet (s.trimBytes t) s.now)

/-! ### Interruption and recovery at power-up (R416, R417, R425, R430) -/

/-- RESET or a power loss: the operation in progress, which has run for `ran` ticks, is cut, and the queue is discarded (R410, R416,
R432). `id` tells the unknown masks of one interruption from those of another. -/
def Cellar.interrupt (c : Cellar) (t n ran id : Nat) : Cellar :=
  let erasing := decide (ran < 750000)
  let torn (i : Nat) : Cellar := { c with pairs := c.pairs.upd {} i (fun p => p.cut (pairPlace t i) i erasing id) }
  let c1 := match c.busy with
    | some (.page i _ _ _) => torn i
    | some (.foldBase i) => torn (7 + i)
    | some (.foldErase i) =>
      let f := c.field i
      { c with
        fields := c.fields.set {} i { f with
          torn := some (masked (if erasing then f.bytes else ({ g := (c.base i).2 } : FieldPage).bytes) id)
          marginal := marginalCells id } }
    | some .save =>
      if c.savePages < 104 then c.updOlder n (fun m => m.put c.savePages (.torn (marginalCells id))) else torn 5
    | _ => c
  { c1 with
    queue := [], busy := none, opAt := 0, cut := if c.busy.isSome then c.busy else c.cut, waiting := [], kept := []
    snapshot := [] }

/-- The recovery of tally i (R425): a fold stopped after its base write is completed, and a bit that is marginal is programmed. -/
def Cellar.recoverTally (c : Cellar) (i : Nat) (marginal : Bool) : Cellar × Bool :=
  let f := c.field i
  let g := (c.base i).2
  if f.agrees = false ∨ (f.gen + 1) % 65536 = g then ({ c with fields := c.fields.set {} i { g := g } }, true)
  else if f.gen = g ∧ marginal then ({ c with fields := c.fields.upd {} i FieldPage.program }, true)
  else if f.torn.isSome then ({ c with fields := c.fields.set {} i { bits := f.programmed, g := f.gen } }, false)
  else (c, false)

/-- The write that the recovery rolls back: its target copy is not valid; the page and the object (R417). -/
def Cellar.rolledBack (c : Cellar) (t : Nat) : Option (Nat × Nat) :=
  let back (i obj : Nat) : Option (Nat × Nat) :=
    let p := c.pair i
    if (if p.targetA i then p.a else p.b).valid i then none else some (p.targetPage i, obj)
  match c.cut with
  | some (.page i _ obj _) => back i obj
  | some (.foldBase i) => back (7 + i) 0x4802
  | some .save => if c.savePages = 104 then back 5 (pairObject t 5) else none
  | _ => none

/-- Step 3 of R95 on one tile (R430): the newest valid bank comes into the store area; the interrupted tally operation is completed.
The Cellar, the write rolled back, and the tallies completed. -/
def Cellar.recover (c : Cellar) (t : Nat) (marginal : Bool) : Cellar × Option (Nat × Nat) × List Nat :=
  let r := (List.range 8).foldl (fun (a : Cellar × List Nat) i =>
    let x := a.1.recoverTally i (marginal && c.cut == some (.tally i))
    (x.1, if x.2 then a.2 ++ [i] else a.2)) (c, [])
  ({ r.1 with area := c.newestBank, cut := none, savePages := 0 }, c.rolledBack t, r.2)

/-! ### Configuration sets (R419 to R422) -/

/-- The L objects that a set holds (R420). -/
def setExtra (f : Fam) (sub : Nat) : Bool :=
  (f == .loopTarget && sub == 1) || (f == .loopSlew && sub == 1) || (f == .loopShed && sub == 7) ||
    (f == .loopBurst && sub == 2) || (f == .laneStatus && sub == 2)

/-- A set holds the object of this key (R420). -/
def inSet (T key : Nat) : Bool :=
  match resolve T (key / 256) with
  | none => false
  | some (f, _) => match f.row (key % 256) with
    | none => false
    | some r =>
      (r.acc == .rw) && (r.cls == .c || r.cls == .x || setExtra f (key % 256)) && (f != .phaseTrim) &&
        (pairOf key).isNone && !(f == .phaseCfg && key % 256 == 2)

/-- The values that a tile's part of a set holds: those of the instances whose settings its Cellar keeps (R12, R420). -/
def State.ownValues (s : State) (t : Nat) : List (Nat × Nat) :=
  s.obj.act.filterMap (fun e =>
    if inSet s.T e.1 && (s.homes e.1).head? == some t then e.2.map (fun v => (e.1, v)) else none)

/-- The generation of the next save of set n: one above its newest (R421). -/
def State.nextGen (s : State) (n : Nat) : Nat :=
  match newestOf (s.tileList.flatMap (fun t => ((s.cellar t).images n).map (·.gen))) with
  | some g => (g + 1) % 65536
  | none => 1

/-- Step 1 of a save (R421): at a frame boundary without a commit in flight every tile takes the snapshot of its part; its save
takes its turn in the queue of the tile's controller (R410). -/
def State.snapshotSet (s : State) : State :=
  if s.cel.saveState = 1 ∧ s.obj.flight = none then
    let s1 := s.reach ((s.now + ticksPerFrame - 1) / ticksPerFrame * ticksPerFrame)
    let g := s1.nextGen s1.cel.saveSet
    let s2 := s1.tileList.foldl (fun s t =>
      (s.updCellar t (fun c =>
        { c with snapshot := s1.ownValues t, saveGen := g, savePages := 0, queue := c.queue ++ [.save] })).cellStart t) s1
    { s2 with cel := { s2.cel with saveState := 2, savedAt := s2.now } }
  else s

/-- The save of every tile is complete: their controllers have worked up to the header page and pair 5 (R421). A tile that has
failed meanwhile makes the save fail. -/
def State.completeSave (s : State) : State :=
  if s.cel.saveState = 2 ∧ s.cel.storeState = 0 then
    if s.tileList.any (fun t => bit s.link.trained t && (s.tile t).state == 2) then
      { s with cel := { s.cel with saveState := 4, progress := s.slowest } }
    else
      let run (t : Nat) : Cellar × Nat :=
        let c := s.cellar t
        c.runSave t s.cel.saveSet (s.trimBytes t) s.now
          (105 + 4 * c.queue.length + 4 * (List.range 8).foldl (fun a i => a + c.waiting.get 0 i) 0)
      let s1 := s.tileList.foldl (fun x t => (x.updCellar t (fun _ => (run t).1)).reach (run t).2) s
      { s1 with cel := { s1.cel with saveState := 3, progress := s1.slowest } }
  else s

/-- PHASE_TRIM of every phase from pair 5 of its tile; a tile that is not in use brings none (R422). -/
def State.loadTrims (s : State) : State :=
  { s with
    obj := s.phaseList.foldl (fun o p =>
      let k := okey (phaseIdx p 1) 1
      let v := if s.trainedTiles.contains (p / 16) then (s.cellar (p / 16)).value (p / 16) 5 k else none
      { o with act := o.act.set none k v }) s.obj }

/-- The values of set n come into the active registers, each trained tile bringing those of its own image, or the defaults
where no generation of it is valid on all of them (R12, R96, R422). -/
def State.loadValues (s : State) (n : Nat) : State :=
  let keep := s.obj.act.filter (fun e => !inSet s.T e.1)
  let vals := match s.setGen n with
    | some g => s.trainedTiles.flatMap (fun t => match (s.cellar t).image n g with | some i => i.vals | none => [])
    | none => []
  let s1 : State :=
    { s with
      obj := { s.obj with act := vals.foldl (fun a e => Tab.set none a e.1 (some e.2)) keep, pend := [], owed := [], split := [] }
      md := { s.md with configOrigin := if (s.setGen n).isSome then n else 0xFF }
      cel := { s.cel with generation := (s.setGen n).getD s.cel.generation } }
  s1.loadTrims.ownersLook

/-- "No valid set": the defaults are in force (R96). -/
def State.noSetRecord (s : State) (n : Nat) : State :=
  if (s.setGen n).isSome then s else s.report 0 srcCellar 0x0004 3 0xFFFF []

/-- Set n is loaded (R96, R422). -/
def State.loadSet (s : State) (n : Nat) : State := (s.loadValues n).noSetRecord n

/-- The keys whose active value differs between two states. -/
def changedKeys (s0 s : State) : List Nat :=
  ((s0.obj.act.map (·.1)) ++ ((s.obj.act.map (·.1)).filter (fun k => (s0.obj.act.get none k).isNone))).filter
    (fun k => s0.obj.val s0.T k != s.obj.val s.T k)

/-- One changed value has its consequences. -/
def State.afterLoad (s0 s : State) (k : Nat) : State :=
  match resolve s.T (k / 256) with
  | none => s
  | some (f, i) => match f.row (k % 256) with
    | none => s
    | some r =>
      if r.cls = .c then State.afterSwap s0 s (k, s.obj.val s.T k)
      else if r.cls = .x then s.afterX f i (k % 256) else s

/-- A restore (R438): the set's values, their consequences, and the settings of the phases, none of which switches. -/
def State.restoreSet (s : State) (n : Nat) : State :=
  let s1 := s.loadSet n
  let ks := changedKeys s s1
  let ts := s.tileList.filter (fun t => ks.any (s.telemKey t))
  let s2 := ts.foldl (fun x t => x.tablesSwapped s t) (ks.foldl (State.afterLoad s) s1)
  { s2 with phases := s2.phases.updAll {} s2.phaseList (fun p ph => { ph with cfg := s2.phaseNow p }) }

/-! ### The scrub (R434) -/

/-- The objects of a pair without a valid copy take their defaults (R434); base and generation of a tally do so where they are
read (R425). -/
def State.pairDefault (s : State) (t i : Nat) : State :=
  let drop (ks : List Nat) : State :=
    { s with obj := { s.obj with act := s.obj.act.filter (fun e => !ks.contains e.1) } }
  if i = 21 then { s with seq := { s.seq with first := {} } }
  else if i = 22 then { s with seq := { s.seq with last := {} } }
  else if i = 23 then { s with ev := { s.ev with first := none } }
  else if i = 25 then { s with cel := { s.cel with activeSet := 0 } }
  else if 1 ≤ i ∧ i ≤ 4 then s.updTile t (fun ti => { ti with cal := [] })
  else if i = 5 ∨ i = 19 ∨ i = 20 then drop ((pairKeys t i).map (·.1))
  else s

/-- One pair of a tile is read: a pair with one valid copy is written again, one with none takes its default (R434). A copy that is
in writing is not read. -/
def State.scrubPair (s : State) (t i : Nat) : State :=
  let p := (s.cellar t).pair i
  let writing (c : Page) : Bool := match c with | .moving _ _ _ => true | _ => false
  if (p.a.valid i && p.b.valid i) || writing p.a || writing p.b then s
  else match p.newest i with
    | none => (s.pairDefault t i).report t srcCellar 0x0B04 3 (2 * i) [2]
    | some c =>
      let s1 : State := { s with cel := { s.cel with repaired := satAdd 32 s.cel.repaired 1 } }
      s1.cellPage t i c.data (pairObject t i)

/-- POWER_HOURS of a tile, what waits to be programmed included (R423). -/
def Cellar.hours (c : Cellar) : Nat := c.tallyValue 1 + c.waiting.get 0 1

/-- A tile reads every pair and every image once every 24 h of POWER_HOURS; an image that fails stays as it is (R434). -/
def State.scrubTile (s : State) (t : Nat) : State :=
  let h := (s.cellar t).hours
  if (s.tile t).state ≠ 2 ∧ (s.cellar t).scrubbedAt / 24 < h / 24 then
    (pairsOn t).foldl (fun s i => s.scrubPair t i) (s.updCellar t (fun c => { c with scrubbedAt := h }))
  else s

end Sys2Proof.Machine
end

