-- ==== Sys2Proof/Machine/ModeOps.lean ====
section
/-! DEFINITION. Shared operations of the operating modes: requests, pre-start checks, VIN loss and restart, HOLD clear, and
what a reset leaves (R91, R100 to R111, R318, R319). -/

namespace Sys2Proof.Machine

/-- A request's outcome: the state it leaves, and the abort code where it is refused. -/
abbrev Outcome1 := State × Option Nat

/-- DEV_MODE_REQ:04 and :05 (R114). -/
def State.reqAnswer (s : State) (res detail : Nat) : State :=
  { s with md := { s.md with reqResult := res, checkDetail := detail } }

/-- A mode request is refused with abort 0x0800_0000 and a reason (R101, R114). -/
def State.reqRefused (s : State) (res detail : Nat) : Outcome1 := (s.reqAnswer res detail, some 0x08000000)

/-- A mode request is accepted (R114). -/
def State.reqAccepted (s : State) (req : Nat) : State :=
  { s with md := { s.md with reqResult := 0, checkDetail := 0, lastReq := req } }

/-! ### Pre-start checks (R104, R318, R319) -/

/-- VMONj of tile t is the LOCAL_SENSE of a loop (R318, R321). -/
def State.localSense (s : State) (t j : Nat) : Bool :=
  s.loopList.any (fun l => s.anchor l == t && s.lo l 0x13 7 == j)

/-- Comparators whose inputs an open-wire set tests, as (tile, comparator): set 1 the window comparators of anchored slots
of enabled loops, set 2 the VMON comparators of enabled external rails and of every LOCAL_SENSE input (R318). -/
def State.openTested (s : State) (set : Nat) : List (Nat × Nat) :=
  s.tileList.flatMap (fun t =>
    if set = 1 then
      ((List.range 4).filter (fun k => (s.anchoredAt t k).isSome)).flatMap (fun k => [(t, 16 + 2 * k), (t, 17 + 2 * k)])
    else
      ((List.range 16).filter (fun j => s.rr (16 * t + j) 0 1 == 1 || s.localSense t j)).flatMap
        (fun j => [(t, 24 + 2 * j), (t, 25 + 2 * j)]))

/-- An open-wire set begins: the comparators under test are masked (R319). -/
def State.beginOpenWire (s : State) (set : Nat) : State :=
  let s1 : State := { s with md := { s.md with openWireSet := set, checkAt := s.now } }
  (s1.openTested set).foldl (fun s e => s.updComp e.1 e.2 (fun k => { k with masked := true, output := false })) s1

/-- A RUN trigger begins the pre-start checks (R101, R104). A restart that waits goes on waiting while another trigger has its
checks made (R108). -/
def State.beginStart (s : State) (why : RunTrigger) : State :=
  let s1 : State := { s with md := { s.md with starting := some why, startCal := s.cal.state == 1, substate := 1, restartWait := s.md.restartWait && why != .restart } }
  s1.beginOpenWire 1

/-- "Trigger ignored or refused" (R46, R101, R104): 1 START, 2 request, 3 NMT. -/
def State.triggerRecord (s : State) (sev what : Nat) : State := s.report 0 srcMode 0x0003 sev 0xFFFF [what]

/-- The checks are running, or the part is in RUN, or a proof test runs: a trigger is ignored (R104, R457). -/
def State.startBusy (s : State) : Bool := s.md.starting.isSome || s.md.mode == .run || s.md.proofRunning

/-- The current of a set on an input is a pull-up where its baseline lies below 800 mV, else a pull-down (R318, R119). -/
def pullsUp (baseline : Nat) : Bool := decide (baseline < 2048)

/-- A reading under current differs from its baseline by more than 200 mV, 512 LSB (R119, R319). -/
def OpenReading.isOpen (r : OpenReading) : Bool := decide (r.baseline + 512 < r.reading) || decide (r.reading + 512 < r.baseline)

/-- The inputs of a tile with a property of their readings, limited to those that the set tests (R319, R336): bits 2k and
2k + 1 for the pair of slot k, bit j for VMONj. -/
def State.openOn (s : State) (set t : Nat) (given : List OpenReading) (f : OpenReading → Bool) : Nat :=
  let comp (j : Nat) : Nat := if set = 1 then 16 + 2 * (j / 2) else 24 + 2 * j
  bitmap ((List.range (if set = 1 then 8 else 16)).filter (fun j =>
    given.any (fun r => r.t == t && r.input == j && f r) && (s.openTested set).contains (t, comp j)))

/-- What a set has found on every tile: the direction of its currents, the open inputs, and one record of a tile with open
ones (R318, R319). -/
def State.reportOpen (s : State) (set : Nat) (given : List OpenReading) : State :=
  s.tileList.foldl (fun s t =>
    let m := s.openOn set t given OpenReading.isOpen
    let up := s.openOn set t given (fun r => pullsUp r.baseline)
    let s1 := s.updTile t (fun ti =>
      if set = 1 then { ti with openSense := m, pulls := ti.pulls / 256 * 256 + up }
      else { ti with openVmon := m, pulls := ti.pulls % 256 + 256 * up })
    if m = 0 then s1
    else s1.report t srcTelem 0x0804 3 t ([(s1.tile t).openSense] ++ two (s1.tile t).openVmon)) s

/-- The comparators that the set masked are unmasked and evaluated for the first time (R319, R571). -/
def State.unmask (s : State) (active : List Nat) : State :=
  let cs := s.tileList.flatMap (fun t => ((List.range 56).filter (fun c => (s.comp t c).masked)).map (t, ·))
  let s1 := cs.foldl (fun s e =>
    s.updComp e.1 e.2 (fun k => { k with masked := false, beyond := active.contains (64 * e.1 + e.2) })) s
  cs.foldl (fun s e => s.firstEval e.1 e.2) s1

/-- An open-wire set ends (R318, R319); after the second one the sequence tables resume at entry 0. -/
def State.endOpenWire (s : State) (given : List OpenReading) (active : List Nat) : State :=
  let set := s.md.openWireSet
  if set = 0 then s
  else
    let s1 := (s.reach (s.md.checkAt + 250000)).reportOpen set given
    let s2 : State := { s1 with md := { s1.md with openWireSet := 0 } }
    let s3 := s2.unmask active
    if set = 1 then (if s3.md.starting.isSome then s3.beginOpenWire 2 else s3)
    else s3.tileList.foldl State.restartTables s3

/-- START_RESULT (R104). -/
def State.startResultNow (s : State) : Nat :=
  b2n (!s.cal.valid || s.cal.state == 1 || s.md.startCal) + 2 * b2n (s.tileList.any (fun t => (s.tile t).openSense != 0)) +
    4 * b2n (s.tileList.any (fun t => (s.tile t).openVmon != 0)) + 8 * b2n (!s.vinOk) + 16 * b2n (!s.pins.safeIn) +
    32 * b2n s.danger + 64 * b2n s.obj.flight.isSome

/-- LAST_CAUSE of a start (R112). -/
def RunTrigger.cause : RunTrigger → Nat
  | .request => 4 | .startEdge => 5 | .automatic => 6 | .nmtStart => 7 | .restart => 10

/-- The checks have ended: RUN, or the part stays in STANDBY with a record (R104). -/
def State.endStart (s : State) : State :=
  match s.md.starting with
  | none => s
  | some why =>
    if s.md.mode ≠ .standby ∨ s.md.openWireSet ≠ 0 then s
    else
      let r := s.startResultNow
      let s1 : State := { s with md := { s.md with startResult := r, starting := none, substate := if s.md.restartWait then 5 else 0 } }
      if r = 0 then ({ s1 with md := { s1.md with restartWait := false } } : State).enterRun why.cause
      else
        let s2 := if why = .request then s1.reqAnswer 6 0 else s1
        s2.report 0 srcMode 0x0002 3 0xFFFF [r]

/-! ### Requests (R101, R102, R105, R106, R114) -/

/-- REQUEST = 1: CONFIGURE from STANDBY while no pre-start checks run; it cancels a waiting restart (R101, R108). -/
def State.toConfigure (s : State) : Outcome1 :=
  if s.md.mode = .standby ∧ s.md.starting.isNone then
    let s1 := s.reqAccepted 1
    (({ s1 with md := { s1.md with restartWait := false } } : State).enterMode .configure 4 0, none)
  else s.reqRefused 1 0

/-- REQUEST = 2 in CONFIGURE: the entry check, then STANDBY (R102). -/
def State.toStandby (s : State) : Outcome1 :=
  match s.entryFail with
  | some k => s.reqRefused (entryResult k) k
  | none => ((s.reqAccepted 2).enterMode .standby 4 0, none)

/-- A waiting restart is cancelled (R106, R108). -/
def State.cancelRestart (s : State) : State :=
  { s with md := { s.md with restartWait := false, substate := if s.md.starting.isSome then s.md.substate else 0 } }

/-- REQUEST = 2 in RUN: a stop (R106). In STANDBY with a restart waiting it cancels the restart (R106, R108). -/
def State.stopRequest (s : State) : Outcome1 :=
  if s.md.mode = .run then ((s.reqAccepted 2).requestStopSeq, none)
  else if s.md.mode = .standby ∧ s.md.restartWait then ((s.reqAccepted 2).cancelRestart, none)
  else s.reqRefused 1 0

/-- REQUEST = 3: the pre-start checks begin in STANDBY; ignored while they run or in RUN (R101, R104). -/
def State.runRequest (s : State) : Outcome1 :=
  if s.startBusy then (s.triggerRecord 0 2, none)
  else if s.md.mode = .standby then ((s.reqAccepted 3).beginStart .request, none)
  else s.reqRefused 1 0

/-- A write to DEV_MODE_REQ:01 (R101, R114). -/
def State.modeRequest (s : State) (v : Nat) : Outcome1 :=
  if v = 1 then s.toConfigure
  else if v = 2 then (if s.md.mode = .configure then s.toStandby else s.stopRequest)
  else s.runRequest

/-- A severity-5 cause is still present anywhere in the part (R105, R572). -/
def State.anyCause (s : State) : Bool :=
  s.md.resetOnly || !s.pins.safeIn || s.link.pairLost != 0 ||
    s.loopList.any (fun l => s.loopSafe l && s.causePresent l (s.loop l).pr.cause) ||
    s.loopList.any (fun l => s.enabled l && (s.loop l).pr.ovSeen && s.causePresent l 0x0507) ||
    s.tileList.any (fun t => (s.tile t).state == 2 || (s.tile t).convFault || (s.tile t).bandFault) ||
    s.srdo.request != 0 || (s.srdo.lost != 0 && s.ob 0x2600 7 != 0)

/-- A loop returns from STATE 6 or 7 to STATE 0, and the read-back faults of its phases end (R105, R177, R240, R444).
CHECKER_FAULT stays until a reset (DESIGN CHOICE, log entry 119). -/
def State.loopCleared (s : State) (l : Nat) : State :=
  let st := (s.loop l).state
  if st = 6 ∨ st = 7 then
    let s0 : State :=
      { s with
        phases := s.phases.updAll {} (s.phasesOf l) (fun _ ph => { ph with ct := { ph.ct with stuck := false } }) }
    (s0.updLoop l (fun lp =>
      { lp with
        state := 0
        pr := { lp.pr with
          safeSev := 0, cause := 0, resetOnly := false, lowSides := false, lowTotal := 0, ovSeen := false } })).finish (loopTarget l)
  else s

/-- HOLD clear (R105): the first failing condition names the reason. -/
def State.clearHold (s : State) : Outcome1 :=
  if s.md.mode ≠ .hold then s.reqRefused 1 0
  else if s.md.tornDown = false then s.reqRefused 4 0
  else if s.anyCause then s.reqRefused 5 0
  else
    let s1 := s.loopList.foldl State.loopCleared (s.reqAnswer 0 0)
    let s2 : State := { s1 with md := { s1.md with tornDown := false, downCause := none } }
    ((s2.seqRest.enterMode .configure 12 0).report 0 srcSafety 0x0C03 1 0xFFFF [], none)

/-- SERVICE from CONFIGURE, unless the FIELD fuse is blown (R101); the bench objects act (R93, R94). -/
def State.enterService (s : State) : Outcome1 :=
  if s.md.mode ≠ .configure then s.reqRefused 1 0
  else if s.sec.field then s.reqRefused 7 0
  else (((s.reqAnswer 0 0).enterMode .service 4 0).startManual, none)

/-! ### VIN (R107, R108) -/

/-- VIN fails (R107): 1 PFAIL, 2 comparator. Each failure begins the VIN_SETTLE count again (R108). -/
def State.vinLost (s : State) (how : Nat) : State :=
  if s.md.mode = .reset ∨ s.md.mode = .service then s
  else
    let s0 := (s.startStore how).report 0 srcMode 0x0005 3 0xFFFF [s.md.mode.code, how]
    let s1 : State := { s0 with md := { s0.md with vinGoodSince := s0.now } }
    if s.md.mode = .run then s1.requestDown .vinLoss else s1

/-- The instant at which a waiting restart triggers (R108): RESTART_DELAY after state 0, VIN good for VIN_SETTLE. -/
def State.restartAt (s : State) : Nat :=
  Nat.max (s.md.state0At + 500000 * s.ob 0x2000 0x0B) (s.md.vinGoodSince + 500000 * s.ob 0x2000 9)

/-! ### Reset (R44, R45, R78, R100, R110) -/

/-- What a tile keeps over a reset that is no POR: its watchdog count, and over a Reset Node that it has failed and that its
lane level is wrong (R27, R49, R296, R561); nothing where there is nothing to keep. -/
def Tile.afterReset (ti : Tile) (node : Bool) : Option Tile :=
  let base : Tile := { wdCount := ti.wdCount, laneLevelFault := node && ti.laneLevelFault }
  let kept : Tile :=
    if node ∧ ti.state = 2 then { base with state := 2, failCause := ti.failCause, failAt := ti.failAt } else base
  if kept = {} then none else some kept

/-- For how long the operation of a tile's controller had run when the reset or the store before it stopped it (R416, R431). -/
def State.ranFor (s : State) (t : Nat) : Nat :=
  let c := s.cellar t
  (if s.cel.storeState = 0 then s.now else s.cel.storeAt) - c.opAt

/-- What survives a reset of the part: straps and levels at the balls, the Cellars with their interrupted operations,
the saved sets, keys and fuses, and the queue of commands. -/
def State.afterReset (s : State) (cause : Nat) (por : Bool) : State :=
  let s0 := s.endStore 3600
  { part := s0.part
    md := { lastCause := cause, runFrames := if por then 0 else s0.md.runFrames }
    pins := if por then { s0.pins with extest := false, cells := (0, 0), tap := .none } else s0.pins
    clk := {
      refLossCount := if por then 0 else s0.clk.refLossCount
      slowOk := if por then 0xFF else s0.clk.slowOk
      powerBase := if por then 0 else s0.clk.powerBase + s0.now }
    cel := {
      cellars := s0.cel.cellars.updAll {} s0.tileList (fun t c =>
        { c.interrupt t s.cel.saveSet (s.ranFor t) (s.diag.fresh + t) with
          runHours := if por then 0 else c.runHours, powerHours := if por then 0 else c.powerHours })
      storeResult := s0.cel.storeResult
      activeSet := s0.cel.activeSet }
    sec := {
      keys := s0.sec.keys, fieldCopies := s0.sec.fieldCopies, provisionCopies := s0.sec.provisionCopies
      erased := s0.sec.erased
      integrity := s0.sec.integrity
      locked := !por && s0.sec.locked, failures := if por then 0 else s0.sec.failures
      fired := if por then 0 else s0.sec.fired, lastSrc := if por then 0xFF else s0.sec.lastSrc
      lastAt := if por then 0 else s0.sec.lastAt }
    tiles := if por then [] else s0.tiles.filterMap (fun e => (e.2.afterReset (cause == 2)).map (e.1, ·))
    diag := { fresh := s0.diag.fresh + s0.T }
    pending := s0.pending }

end Sys2Proof.Machine
end

