-- ==== Sys2Proof/Machine/SecOps.lean ====
section
/-! DEFINITION. Shared operations of security: rejects, authentication failures, alarms, sessions, tags, key slots and
fuses (R465 to R476). -/

namespace Sys2Proof.Machine

/-! ### Rejects and alarms (R472 to R474, R482) -/

/-- A refused access is written to SEC_LAST_REJECT (R465, R482). -/
def State.secReject (s : State) (reason : Nat) (ch : Chan) (idx sub : Nat) : State :=
  { s with
    sec := { s.sec with
      rejReason := reason, rejObject := okey idx sub, rejChannel := chanCode ch, rejAt := s.now } }

/-- Refused with abort 0x0800_0020 and a reason. -/
def State.secRefuse (s : State) (reason : Nat) (ch : Chan) (idx sub : Nat) : Outcome1 :=
  (s.secReject reason ch idx sub, some 0x08000020)

/-- The part is locked until POR; its session is closed (R474). -/
def State.lock (s : State) : State :=
  { s with sec := { s.sec with locked := true, session := none, nonce := none, tags := [] } }

/-- The CRC-32C over the key area (R467). -/
def State.keyAreaCrc (s : State) : Nat :=
  crc32c ((List.range 4).flatMap (fun k =>
    match s.sec.keys.get none k with | some v => bytesLE 16 v | none => List.replicate 16 0))

/-- The check values of the key slots, and a CRC-32C over the key area, go to pair 24 (R467). -/
def State.keepKeys (s : State) : State :=
  s.cellWrite 0 24 ((okey 0x2401 0, s.keyAreaCrc) :: (List.range 4).map (fun k =>
    (okey 0x2401 (6 + k), match s.sec.keys.get none k with | some v => checkValue v | none => 0))) 0x2401

/-- All four key slots are zeroised, and the part is locked (R474). -/
def State.erase (s : State) : State :=
  (({ s with sec := { s.sec with keys := [], erased := true } } : State).keepKeys).lock

/-- An alarm source fires: record, then its policy (R473, R474). -/
def State.alarmActs (s : State) (src : Nat) : State :=
  let p := s.ob 0x2403 (src + 1)
  let s1 : State :=
    { s with sec := { s.sec with fired := setBit s.sec.fired src, lastSrc := src, lastAt := s.now } }
  let s2 := s1.report 0 srcSec 0x0D02 6 src [p]
  if p = 0 then s2 else if p = 1 then s2.lock else s2.erase

/-- The alarm logic runs outside RESET. -/
def State.alarm (s : State) (src : Nat) : State := if s.md.mode = .reset then s else s.alarmActs src

/-- One authentication failure: record, count, and alarm source 0 at the limit (R472). -/
def State.authFail (s : State) (slot : Nat) : State :=
  let n := satAdd 8 s.sec.failures 1
  let s1 : State := { s with sec := { s.sec with failures := n } }
  let s2 := s1.report 0 srcSec 0x0D01 2 slot ([s.sec.rejReason] ++ bytesLE 4 s.sec.rejObject ++ [s.sec.rejChannel])
  if n = s.ob 0x2403 7 then s2.alarm 0 else s2

/-! ### Tags and classes (R465, R470) -/

/-- A write on a channel takes the tag that waits there; one it does not use is discarded (R470). -/
def State.takeTag (s : State) (ch : Chan) : State × Option Nat :=
  ({ s with sec := { s.sec with tags := s.sec.tags.set none (chanCode ch) none } }, s.sec.tags.get none (chanCode ch))

/-- The tag of a write under a session key and counter (R470). -/
def tagOf (ks counter idx sub len v : Nat) : Nat :=
  cmac8 ks ([3] ++ bytesLE 2 idx ++ [sub] ++ bytesLE len v ++ bytesLE 4 counter)

/-- A protected write of the session has been made (R470, R471). -/
def SecGrp.counted (g : SecGrp) (now : Nat) : SecGrp := { g with counter := g.counter + 1, accessAt := now }

/-- The protection check of an S-class write (R465, R470). -/
def State.passS (s : State) (ch : Chan) (idx sub len v : Nat) (tag : Option Nat) : Outcome1 :=
  if s.sec.locked then s.secRefuse 7 ch idx sub
  else if s.unkeyed then (s, none)
  else match s.sec.openNow with
    | none => s.secRefuse 1 ch idx sub
    | some (c, slot, ks) =>
      if c ≠ chanBus ch then s.secRefuse 2 ch idx sub
      else match tag with
        | none => s.secRefuse 3 ch idx sub
        | some t =>
          if t = tagOf ks s.sec.counter idx sub len v then ({ s with sec := s.sec.counted s.now }, none)
          else ((s.secReject 4 ch idx sub).authFail slot, some 0x08000020)

/-- The effective class of an object marked "O or S" (R409). -/
def State.protOf (s : State) (p : Prot) : Prot := if p = .os then (if s.ob 0x4480 3 = 1 then .s else .o) else p

/-- The class of a write: under READ_POLICY every write to REC_CURSOR needs the session, COUNT included (R401). -/
def State.writeProt (s : State) (p : Prot) (idx sub : Nat) : Prot :=
  s.protOf (if p = .o ∧ idx = 0x4481 ∧ sub = 3 then .os else p)

/-- The protection check of a write (R465). -/
def State.passWrite (s : State) (p : Prot) (ch : Chan) (idx sub len v : Nat) (tag : Option Nat) : Outcome1 :=
  match s.writeProt p idx sub with
  | .f => if s.sec.provision then s.secRefuse 8 ch idx sub else (s, none)
  | .s => s.passS ch idx sub len v tag
  | _ => (s, none)

/-- The protection check of a read (R465). -/
def State.passRead (s : State) (p : Prot) (ch : Chan) (idx sub : Nat) : Outcome1 :=
  match s.protOf p with
  | .s =>
    if s.unkeyed then (s, none)
    else match s.sec.openNow with
      | none => s.secRefuse 1 ch idx sub
      | some (c, _, _) =>
        if c ≠ chanBus ch then s.secRefuse 2 ch idx sub
        else ({ s with sec := { s.sec with accessAt := s.now } }, none)
  | _ => (s, none)

/-! ### Sessions (R469, R471) -/

/-- The session closes. -/
def State.endSession (s : State) : State := { s with sec := { s.sec with session := none, tags := [] } }

/-- The key area fails its CRC: the value that pair 24 of tile 0 keeps is another (R467, R473). A part whose pair 24 has never
been written has the CRC of an empty key area (DESIGN CHOICE, log entry 139). -/
def State.keyAreaBad (s : State) : Bool :=
  ((s.keptValue 0 24 (okey 0x2401 0)).getD (crc32c (List.replicate 64 0))) != s.keyAreaCrc

/-- A write to SEC_SESSION:01 (R469, R471, R474); the CRC of the key area is checked at an open (R473 source 5). -/
def State.sessionOpen (s : State) (ch : Chan) (slot : Nat) : Outcome1 :=
  if slot = 0xFF then
    let s1 := s.endSession
    ({ s1 with sec := { s1.sec with nonce := none } }, none)
  else if s.sec.locked then s.secRefuse 7 ch 0x2400 1
  else if s.sec.openNow.any (fun x => x.1 != chanBus ch) then s.secRefuse 2 ch 0x2400 1
  else if (s.sec.keys.get none slot).isNone then s.secRefuse 6 ch 0x2400 1
  else
    let s0 := if s.keyAreaBad then s.alarm 5 else s
    if s0.sec.locked then s0.secRefuse 7 ch 0x2400 1
    else
      let s1 := s0.endSession
      ({ s1 with
        sec := { s1.sec with nonce := some (Config.nonce s.diag.fresh % 2 ^ 64, chanBus ch, slot), nonceAt := s.now }
        diag := { s1.diag with fresh := s.diag.fresh + 1 } }, none)

/-- The proof that step 3 of R469 expects. -/
def proofOf (ks np : Nat) : Nat := cmac8 ks ([2] ++ bytesLE 8 np)

/-- A write to SEC_SESSION:03 (R469, R472): a proof that does not match leaves the nonce usable until its 10 s are over. -/
def State.sessionProve (s : State) (ch : Chan) (v : Nat) : Outcome1 :=
  match s.sec.nonce with
  | none => ((s.secReject 5 ch 0x2400 3).authFail 0xFFFF, some 0x08000020)
  | some (np, c, slot) =>
    if c ≠ chanBus ch ∨ s.sec.nonceAt + 5000000000 ≤ s.now then ((s.secReject 5 ch 0x2400 3).authFail slot, some 0x08000020)
    else
      let ks := sessionKey ((s.sec.keys.get none slot).getD 0) slot np
      if v = proofOf ks np then
        ({ s with
          sec := { s.sec with
            nonce := none, session := some (chanBus ch, slot, ks), counter := 0, accessAt := s.now, failures := 0 } }, none)
      else ((s.secReject 4 ch 0x2400 3).authFail slot, some 0x08000020)

/-- A write to SEC_SESSION:04: the tag waits for the next write on its channel (R470). -/
def State.sessionTag (s : State) (ch : Chan) (v : Nat) : Outcome1 := 
  ({ s with sec := { s.sec with tags := s.sec.tags.set none (chanCode ch) (some v) } }, none)

/-! ### Key slots and fuses (R468, R475) -/

/-- A key slot takes a key. -/
def State.setKey (s : State) (slot v : Nat) : State :=
  ({ s with sec := { s.sec with keys := s.sec.keys.set none slot (some v) } } : State).keepKeys

/-- A session with slot 0 holds the channel; otherwise the reason of the refusal. The write itself may have reached the last
counter value. -/
def State.needsAdmin (s : State) (ch : Chan) : Option Nat :=
  match s.sec.session with
  | none => some 1
  | some (c, slot, _) => if c ≠ chanBus ch then some 2 else if slot ≠ 0 then some 6 else none

/-- A write to SEC_KEYSLOT:05 (R468): slot byte and wrapped key. -/
def State.rekeySlot (s : State) (ch : Chan) (v : Nat) : Outcome1 :=
  match s.needsAdmin ch with
  | some r => s.secRefuse r ch 0x2401 5
  | none =>
    let slot := v % 256
    let ks := match s.sec.session with | some x => x.2.2 | none => 0
    if 3 < slot then (s, some 0x06090030)
    else match aesUnwrap (bytesLE 16 ks) (bytesLE 24 (v / 256)) with
      | none => s.secRefuse 4 ch 0x2401 5
      | some k =>
        let s1 := s.setKey slot (ofBytesLE k)
        (if slot = 0 then s1.endSession else s1, none)

/-- The verify read of a fuse that has been blown: `copies` of its three copies read blown. It passes where all three do; one
that fails is reported, and copies that disagree fire alarm source 3 (R473, R475). `b` is the fuse's bit in
FUSE_STATUS:04. -/
def State.fuseVerified (s : State) (b copies : Nat) : Outcome1 :=
  if copies = 7 then (s, none)
  else
    let s1 : State := { s with sec := { s.sec with integrity := setBit s.sec.integrity b } }
    (if disagree copies then s1.alarm 3 else s1, some 0x08000000)

/-- A write to FUSE_STATUS:03 (R475); `verify` are the copies that read blown at the verify read. -/
def State.blowFuse (s : State) (ch : Chan) (v verify : Nat) : Outcome1 :=
  match s.needsAdmin ch with
  | some r => s.secRefuse r ch 0x2410 3
  | none =>
    if s.md.mode ≠ .configure then (s, some 0x08000000)
    else if v = 0x50 then
      (if (s.sec.keys.get none 0).isNone then s.secRefuse 6 ch 0x2410 3
      else
        let c := s.sec.provisionCopies ||| verify % 8
        ({ s with sec := { s.sec with provisionCopies := c } } : State).fuseVerified 1 c)
    else if s.sec.provision = false then (s, some 0x08000000)
    else
      let c := s.sec.fieldCopies ||| verify % 8
      ({ s with sec := { s.sec with fieldCopies := c } } : State).fuseVerified 0 c

/-- The nonce has been usable for 10 s (R469). -/
def State.expireNonce (s : State) : State :=
  if s.sec.nonce.isNone then s
  else
    let s1 := s.reach (s.sec.nonceAt + 5000000000)
    { s1 with sec := { s1.sec with nonce := none } }

/-- No S-class access for TIMEOUT closes the session (R471). -/
def State.expireSession (s : State) : State :=
  if s.sec.session.isNone then s
  else (s.reach (s.sec.accessAt + 500000000 * s.ob 0x2400 9)).endSession

end Sys2Proof.Machine
end

