-- ==== Sys2Proof/Machine/RangeOps.lean ====
section
/-! DEFINITION. The checks of a dictionary write: ranges (abort 0x0609_0030), the stopped condition of X objects
(0x0800_0022), and the object-specific refusals (0x0800_0000) (R75, R79, R492 and the object rules of the chapters). -/

namespace Sys2Proof.Machine

/-! ### Ranges -/

/-- A transmission type (R496). -/
def pdoType (v : Nat) : Bool := decide (v ≤ 240) || v == 254 || v == 255

/-- A channel code (R299). -/
def channelCode (c : Nat) : Bool := decide (c ≤ 0x25) || (decide (0x30 ≤ c) && decide (c ≤ 0x36))

/-- A sequence entry has legal fields (R299, R301). -/
def entryWordOk (v : Nat) : Bool :=
  !bit v 7 && channelCode (field v 0 7) && decide (1 ≤ field v 8 4) && decide (field v 8 4 ≤ 8) && decide (field v 12 4 ≤ 8)

/-- The levels of LOOP_SHED are in order (R197): used levels first, thresholds strictly rising, counts not falling. -/
def shedOrder (ws : List Nat) : Bool :=
  (ws.zip (ws.drop 1)).all (fun e =>
    e.2 % 256 == 0 || (e.1 % 256 != 0 && decide (e.1 / 65536 < e.2 / 65536) && decide (e.1 % 256 ≤ e.2 % 256)))

/-- A subindex can be mapped into a TPDO (R517). -/
def mapsTx (idx sub : Nat) (f : Fam) (r : Row) : Bool :=
  r.prot == .o && r.acc != .wo && decide (r.bytes ≤ 32) && !(f == .commit && sub == 1) && f != .devModeReq &&
    f != .calCmd && f != .cellarStore && (decide (0x2000 ≤ idx) || idx == 0x1001)

/-- A subindex can be mapped into an RPDO (R518). -/
def mapsRx (f : Fam) (sub : Nat) : Bool :=
  (f == .loopTarget && sub == 1) || (f == .loopSlew && sub == 1) || (f == .loopShed && sub == 7) ||
    (f == .loopBurst && sub == 2) || (f == .phaseManual && sub == 1) || (f == .laneStatus && sub == 2)

/-- Subindex 00 of an object, UNSIGNED8, ro and of class O, can be mapped into a TPDO as others of the object can (R515, R517). -/
def mapsSub0 (idx : Nat) (f : Fam) : Bool :=
  f != .devModeReq && f != .calCmd && f != .cellarStore && decide (0x2000 ≤ idx)

/-- A mapping entry is legal (R494, R515, R517, R518); 0 is an unused entry. -/
def State.mapEntryOk (s : State) (tx : Bool) (v : Nat) : Bool :=
  let idx := v / 65536
  let sub := v / 256 % 256
  if v = 0 then true
  else if !tx && (v == 0x00050008 || v == 0x00060010 || v == 0x00070020) then true
  else match resolve s.T idx with
    | none => false
    | some (f, _) => match f.row sub with
      | none => tx && sub == 0 && !f.ownSub0 && v % 256 == 8 && mapsSub0 idx f
      | some r => v % 256 == 8 * r.bytes && (if tx then mapsTx idx sub f r else mapsRx f sub)

/-- Bytes of the first n entries of a mapping object. -/
def State.mapBytes (s : State) (idx n : Nat) : Nat :=
  ((List.range n).map (fun j => s.ob idx (j + 1) % 256 / 8)).foldl (· + ·) 0

/-- No PDO that NET_CFG:06 or :07 moves to CAN B has a mapping of more than 8 bytes (R494). -/
def State.channelsOk (s : State) (tx : Bool) (v : Nat) : Bool :=
  let base := if tx then 0x1A00 else 0x1600
  (List.range 16).all (fun n => !bit v n || decide (s.mapBytes (base + n) (s.ob (base + n) 0) ≤ 8))

/-- The mapping of a PDO with the value in place is legal (R494). -/
def State.mapOk (s : State) (tx : Bool) (i idx sub v : Nat) : Bool :=
  let onB := bit (s.ob 0x2003 (if tx then 6 else 7)) i
  let s1 := s.put idx sub v
  let n := s1.ob idx 0
  (sub == 0 || s.mapEntryOk tx v) && decide (s1.mapBytes idx n ≤ (if onB then 8 else 64)) &&
    (sub != 0 || (List.range n).all (fun j => s1.ob idx (j + 1) != 0))

/-- A mapping entry of SRDO i (R494, R518): SAFETY_STATUS:01 and :04 transmit, :05 receives. -/
def State.srdoMapOk (s : State) (i v : Nat) : Bool :=
  let dir := s.ob (0x1301 + i) 1
  v == 0 || ((v == 0x26010120 || v == 0x26010410) && dir != 2) || (v == 0x26010520 && dir != 1)

/-- The mapping of SRDO i lists normal and inverted entries alternately: each even entry names the object of the odd one before it
(R501). -/
def State.srdoPairs (s : State) (i : Nat) : Bool :=
  let n := s.ob (0x1381 + i) 0
  n % 2 == 0 && (List.range (n / 2)).all (fun j =>
    s.ob (0x1381 + i) (2 * j + 1) != 0 && s.ob (0x1381 + i) (2 * j + 1) == s.ob (0x1381 + i) (2 * j + 2))

/-- The parameters that the signature of SRDO i covers (R502). -/
def State.srdoParams (s : State) (i : Nat) : List Nat :=
  ([1, 2, 3, 5, 6]).map (s.ob (0x1301 + i)) ++ (List.range 17).map (s.ob (0x1381 + i))

/-- Every signature of 0x13FF matches its SRDO (R502). -/
def State.srdoMatch (s : State) : Bool :=
  (List.range 8).all (fun i => s.ob 0x13FF (i + 1) == Config.srdoSignature (s.srdoParams i) % 65536)

/-- Bytes of the rings of a tile (R393). -/
def State.ringBytes (s : State) (t : Nat) : Nat :=
  ((List.range 64).filter (fun r => s.ob (0x4400 + r) 1 == t)).foldl (fun a r => a + 32 * s.ringCap r) 0

/-- A HOST or SIZE write leaves the pool of every tile within 64 KiB (R393). -/
def State.ringFits (s : State) (r sub v : Nat) : Bool :=
  let s1 := s.put (0x4400 + r) sub v
  decide (s1.ringBytes (s1.ob (0x4400 + r) 1) ≤ 65536)

/-- A view of the recorder exists (R399). -/
def State.viewOk (s : State) (v : Nat) : Bool :=
  v == 0 || (decide (0x10 ≤ v) && decide (v < 0x10 + s.T)) || (decide (0x20 ≤ v) && decide (v < 0x20 + s.T)) || v == 0x30 ||
    (decide (0x40 ≤ v) && decide (v < 0x80))

/-- SOURCE and INSTANCE of a histogram unit name a source on its tile (R533). -/
def State.histOk (s : State) (i : Nat) : Bool :=
  let src := s.hset i 1
  src == 0 || s.histSource (i / 16) src (s.hset i 2)

/-- Ranges of the communication objects (R494 to R502, R521, R522). -/
def State.rangeComm (s : State) (f : Fam) (i idx sub v : Nat) : Bool :=
  match f with
  | .cobSync | .cobTime => !bit v 30
  | .syncOverflow => v == 0 || (decide (2 ≤ v) && decide (v ≤ 240))
  | .rpdoComm | .tpdoComm => sub != 2 || pdoType v
  | .rpdoMap => s.mapOk false i idx sub v
  | .tpdoMap => s.mapOk true i idx sub v
  | .srdoMap => if sub = 0 then (s.put idx 0 v).srdoPairs i else s.srdoMapOk i v
  | .srdoValid => v == 0 || (v == 0xA5 && s.srdoMatch)
  | _ => true

/-- Ranges of the device-level objects; for ALARM policies the order of R474 is a protection check elsewhere. -/
def State.rangeDevice (s : State) (f : Fam) (i sub v : Nat) : Bool :=
  match f with
  | .netCfg => if sub = 6 then s.channelsOk true v else sub != 7 || s.channelsOk false v
  | .secSession => sub != 1 || decide (v ≤ 3) || v == 0xFF
  | .fuseStatus => v == 0x50 || v == 0xF1
  | .safeStateCause => decide (v < 4 * s.T)
  | .recCursor => sub != 1 || s.viewOk v
  | .ringCfg =>
    if sub = 1 then decide (v < s.T) && s.ringFits i 1 v
    else if sub = 2 then (v == 0 || decide (8 ≤ v)) && s.ringFits i 2 v
    else if sub = 6 then s.ringCap i == 0 || decide (v ≤ s.ringCap i)
    else if sub = 8 then decide (v ≤ (s.ring i).writeIdx)
    else true
  | _ => true

/-- Loop l has an enabled phase (R189). -/
def State.someEnabled (s : State) (l : Nat) : Bool := !(s.enabledPhases l).isEmpty

/-- Ranges of loop and phase objects; `s` has the value in place, over the shadow for a C object (R116, R144, R153, R162, R189,
R197, R237, R249, R309). -/
def State.rangeLoop (s : State) (f : Fam) (i sub v : Nat) : Bool :=
  match f with
  | .loopCfg =>
    (sub != 1 || v == 0 || ((s.loopFail i).isNone && (s.lacking i).isNone)) &&
      (decide (5 < sub) || !s.enabled i || (s.someEnabled i && s.withShadow.someEnabled i))
  | .loopTarget => decide (s.lo i 7 3 ≤ v) && decide (v ≤ s.lo i 7 4)
  | .loopLimits => decide (s.lo i 7 1 ≤ s.lo i 7 2) && decide (s.lo i 7 3 ≤ s.lo i 7 4)
  | .loopShed =>
    !(decide (8 ≤ sub) && decide (sub ≤ 0x0F)) ||
      (field v 8 8 == 0 && shedOrder ((List.range 8).map (fun j => s.lo i 0xC (8 + j))))
  | .loopOt => !(sub == 3 || sub == 4) || decide (toInt 16 (s.lo i 0xF 3) < toInt 16 (s.lo i 0xF 4))
  | .loopTelem => sub != 7 || decide (v ≤ 15) || v == 0xFF
  | .phaseOc => sub != 1 || decide (s.po i 3 3 * 10000 + v * s.po i 3 2 ≤ 15984375)
  | .phaseCfg => sub != 7 || v == 1 || (match s.loopOf i with | some l => s.someEnabled l | none => true)
  | .phaseManual => s.po i 0 2 == 1 || decide (v ≤ s.po i 0 5)
  | _ => true

/-- Ranges of tile objects; `s` as in `rangeLoop` (R187, R299, R301, R343, R344, R533, R539). -/
def State.rangeTile (s : State) (f : Fam) (i sub v : Nat) : Bool :=
  match f with
  | .tapCfg => !bit v 5
  | .telemTable0 | .telemTable1 => entryWordOk v
  | .captureTimer => sub != 1 || decide (v < 56) || v == 0xFF
  | .histogram => !(sub == 1 || sub == 2) || s.histOk i
  | .capture => sub != 3 || v != 0x0F01
  | _ => true

/-- Check 5 of R492: the value lies within range, the object's own rules included. -/
def State.rangeOk (s : State) (f : Fam) (i idx sub v : Nat) (r : Row) : Bool :=
  let s1 := s.supposing r.cls idx sub v
  r.inRange v && s.rangeComm f i idx sub v && s.rangeDevice f i sub v && s1.rangeLoop f i sub v && s1.rangeTile f i sub v

/-! ### The stopped condition (R75) -/

/-- The rail is stopped (R75). -/
def State.railStopped (s : State) (n : Nat) : Bool :=
  let r := s.rail n
  (r.status == 0 || r.status == 8 || r.status == 9 || r.status == 10) && r.discharged

/-- The loop is stopped (R75). -/
def State.loopStopped (s : State) (l : Nat) : Bool := (s.loop l).state == 0 || (s.loop l).state == 6

/-- Check 6 of R492: the owning block of an X object is stopped (R75, R91, R468, R495). -/
def State.stoppedOk (s : State) (f : Fam) (i sub v : Nat) : Bool :=
  if loopFams.contains f then s.loopStopped i
  else match f with
    | .railCfg => s.railStopped i
    | .laneCfg => true
    | .rpdoComm | .rpdoMap => bit (s.pdoCob false i) 31 || (f == .rpdoComm && sub == 1 && bit v 31)
    | .tpdoComm | .tpdoMap => bit (s.pdoCob true i) 31 || (f == .tpdoComm && sub == 1 && bit v 31)
    | .secKeyslot => s.md.mode == .configure
    | _ => s.md.mode == .configure

/-! ### Object-specific refusals -/

/-- Tile t answers the dictionary server (R20, R25, R26, R283). -/
def State.reachable (s : State) (t : Nat) : Bool :=
  s.procRuns t && (t == 0 || (!bit s.link.mgmtFault (8 * t) && !bit s.link.mgmtFault t))

/-- The tiles that must confirm a write (R20). -/
def State.writeTiles (s : State) (f : Fam) (i : Nat) : List Nat := if f.everywhere then [0] else s.homesOf f i

/-- The object is one whose writes OWNER directs (R146). -/
def ownedObject (f : Fam) (sub : Nat) : Bool :=
  (f == .loopTarget && sub == 1) || (f == .loopSlew && sub == 1) || (f == .loopShed && sub == 7) ||
    (f == .loopBurst && sub == 2)

/-- Refusals of C and L objects by owner, lane, manager, checker, mode, consumer, set and session-free rules (R146, R149,
R163, R275, R331, R408, R435, R438). -/
def State.objectRefuses (s : State) (f : Fam) (i sub v : Nat) : Bool :=
  (ownedObject f sub && s.lo i 0 8 == 1) ||
  (match f with
    | .loopCfg => sub == 8 && v == 1 && !s.laneOn (s.anchor i)
    | .loopChecker => sub == 1 && v == 0 && bit (s.ob 0x2600 1) i
    | .phaseCfg => sub == 2 && v == 1 && !s.serviceOpen
    | .comparator => sub == 2 && s.managerHolds (i / 64) (i % 64) != 0
    | .laneCfg => sub == 1 && v == 0 && s.loopList.any (fun l => s.enabled l && s.anchor l == i && s.lo l 0 8 == 1)
    | .ringCfg => sub == 8 && s.ob (0x4400 + i) 5 != 0
    | .cellarStatus => (sub == 8 || sub == 9) && !s.serviceOpen
    | .configSet => sub == 1 && !s.setValid v
    | _ => false)

/-- A write that would break a safety loop's conditions (R149, R455). -/
def State.safetyRefuses (s : State) (cls : Cls) (idx sub v : Nat) : Bool :=
  let base := if cls = .c then s.withShadow else s
  base.breaksSafety (base.put idx sub v)

/-- The recheck of R103 in STANDBY and RUN fails. -/
def State.recheckRefuses (s : State) (f : Fam) (i idx sub v : Nat) : Bool :=
  (s.md.mode == .standby || s.md.mode == .run) && ((s.put idx sub v).recheck f i sub).isSome

/-- Check 7 of R492 for what is known before the effect. -/
def State.refused7 (s : State) (f : Fam) (i idx sub v : Nat) (r : Row) : Bool :=
  !(s.writeTiles f i).all s.reachable || s.objectRefuses f i sub v || s.safetyRefuses r.cls idx sub v ||
    (r.cls == .x && s.recheckRefuses f i idx sub v)

/-- SAFETY_STATUS:05 is written by SRDO 2 only (R462). -/
def pathRefused (f : Fam) (sub : Nat) : Bool := f == .safetyStatus && sub == 5

/-- An alarm policy is lowered once PROVISION is blown (R474). -/
def State.lowersPolicy (s : State) (f : Fam) (sub v : Nat) : Bool :=
  f == .secAlarmPolicy && decide (sub ≤ 6) && s.sec.provision && decide (v < s.ob 0x2403 sub)

end Sys2Proof.Machine
end

