-- ==== Sys2Proof/Machine/LiveOps.lean ====
section
/-! DEFINITION. The effects of live (L) objects and what a read clears (chapters' object tables). Each answers the state
it leaves and the abort code of an object-specific refusal. -/

namespace Sys2Proof.Machine

/-- Abort 0x0800_0000 with no effect. -/
def State.refuse (s : State) : Outcome1 := (s, some 0x08000000)

/-! ### Commit (R79 to R85, R206, R309) -/

/-- A write to COMMIT:01: refused with a record by R166 and R309, without one by R206, else scheduled for F = N + 2. -/
def State.commitRequest (s : State) (tag : Nat) : Outcome1 :=
  match s.withShadow.commitFail with
  | some (idx, sub, inst) =>
    (s.report 0 srcNet 0x0E02 2 0xFFFF (two idx ++ [sub] ++ two inst), some 0x08000000)
  | none =>
    if s.trimPending then s.refuse
    else
      ({ s with
        obj := { s.obj with
          tag := tag, schedFrame := s.frame + 2, result := 1
          flight := some { frame := s.frame + 2, named := s.pendingTiles } } }, none)

/-- A discard (R85). -/
def State.discardAll (s : State) : State := { s with obj := { s.obj with pend := [], owed := [] } }

/-! ### Calibration and proof test (R314, R457) -/

/-- Calibration starts (R314). -/
def State.calStart (s : State) : Outcome1 :=
  if (s.md.mode = .configure ∨ s.md.mode = .standby) ∧ s.md.starting.isNone ∧ s.cal.state ≠ 1 then
    ({ s with cal := { s.cal with state := 1, startedAt := s.now, valid := false } }, none)
  else s.refuse

/-- The proof test starts (R457). -/
def State.proofStart (s : State) : Outcome1 :=
  if s.md.mode = .standby ∧ s.obj.flight.isNone ∧ s.md.starting.isNone ∧ ¬s.md.proofRunning then
    ({ s with md := { s.md with proofRunning := true, proofState := 1, checkAt := s.now } }, none)
  else s.refuse

/-! ### Clears (R240, R369, R390, R401, R403, R444, R505) -/

/-- SAFE_STATE_CAUSE:21 (R444, R463). -/
def State.clearSafe (s : State) (l : Nat) : Outcome1 :=
  let pr := (s.loop l).pr
  if s.md.mode = .hold ∨ s.loopSafe l = false ∨ pr.resetOnly ∨ s.causePresent l pr.cause ∨ bit s.srdo.request l ∨
      (pr.safeSev = 3 ∧ s.tripInputActive l) then s.refuse
  else (s.loopCleared l, none)

/-- LATCH_CLEAR (R240). -/
def State.clearLatch (s : State) (l : Nat) : Outcome1 :=
  if (s.loop l).state = 6 then (s.loopCleared l, none) else s.refuse

/-- SEQ_FIRST_FAIL:07 (R369). -/
def State.clearFirstFail (s : State) : State :=
  ({ s with seq := { s.seq with first := {} } } : State).cellWrite 0 21 (({} : FailRec).values 0x4302) 0x4302

/-- REC_CLEAR (R401): every recorder is emptied and starts with its record, whatever EVENT_ENABLE says
(DEDUCED, log entry 156); what is pending then has been written before (DESIGN CHOICE, log entry 130). -/
def State.clearRecorders (s : State) : State :=
  let s1 := s.tileList.foldl (fun s t => s.drain t (s.pendingOf t).length) s
  let s2 : State := { s1 with ev := { s1.ev with recorders := [], cursor := none } }
  let s3 := s2.tileList.foldl (fun s t =>
    s.writeAtTime t srcEvent { code := 0x0A08, inst := 0xFFFF, sev := 1, data := [], time := s.now, pre := !s.clk.running }) s2
  { s3 with clk := s.clk }

/-- FAULT_ACTIVE:04 (R403). -/
def State.ackFaults (s : State) : State := ({ s with ev := { s.ev with acked := true } } : State).alertLook

/-- FAULT_ACTIVE:06 (R390). -/
def State.clearFirst (s : State) : State :=
  ({ s with ev := { s.ev with first := none } } : State).cellWrite 0 23 [] 0x4501

/-! ### Loops and phases (R93, R140, R206, R208, R268) -/

/-- A target waits for the next loop sample (R140, R263). -/
def State.newTarget (s : State) (l v : Nat) (src : TargetSource) : State :=
  s.updLoop l (fun lp => { lp with tg := { lp.tg with waiting := lp.tg.waiting ++ [⟨v, src⟩] } })

/-- Trim learning starts or is refused with STATE 5 (R206). -/
def State.learnStart (s : State) (l : Nat) : Outcome1 :=
  if s.mayLearn l then (s.startLearn l, none)
  else if s.learning l then
    (s.updLoop l (fun lp => { lp with pp := { lp.pp with learnNo := true } }), some 0x08000000)
  else ((s.updLoop l (fun lp => { lp with pp := { lp.pp with learn := 5 } })), some 0x08000000)

/-- PHASE_MANUAL:01 (R93): stored; where it acts, a phase starts at its first carrier zero or stops at its next. A phase that
would start during a debug halt is frozen as the others are, and starts with them (R179, R181). -/
def State.manualWrite (s : State) (p v : Nat) : State :=
  let s1 := s.put (phaseIdx p 7) 1 v
  if s.manual p then
    let ph := s.phase p
    if v = 0 then (if ph.reload then s1.updPhase p Phase.off else s1.updPhase p (fun ph => ph.stopFrom_ s.now))
    else if ph.on then s1.updPhase p (fun ph => { ph with stopping := false })
    else s1.updPhase p (fun ph => { ph.start s.now (s1.phaseNow p) 0 with frozen := s.md.halted })
  else s1

/-- ALERT_CLEAR and ACK_ALERT (R268). -/
def State.clearAlerts (s : State) (l mask : Nat) : State :=
  s.updLoop l (fun lp =>
    { lp with ln := { lp.ln with latch := bitmap ((bitsOf lp.ln.latch 16).filter (fun b => !bit mask b)) } })

/-! ### Capture (R538, R541) -/

/-- CAPTURE:01 = 1 (R538, R541). -/
def State.captureArm (s : State) (t : Nat) : Outcome1 :=
  let slot := s.ob (0x4D00 + t) 2
  if (s.anchoredAt t slot).isSome then (s.arm t slot, none) else s.refuse

/-- CAPTURE:01 = 0 (R541). -/
def State.captureDisarm (s : State) (t : Nat) : State :=
  let c := s.caps.get {} t
  if c.state = 1 ∧ s.ob (0x4D00 + t) 3 = 0 then
    let s1 : State := { s with caps := s.caps.set {} t { c with trigAt := s.clk.sampleDone * ticksPerSample } }
    s1.captureDone t 65535
  else if c.state = 1 ∨ c.state = 2 then { s with caps := s.caps.set {} t {} }
  else s

/-! ### The Cellar (R421, R427, R438) -/

/-- CONFIG_SET:02 (R421). -/
def State.saveRequest (s : State) (n : Nat) : Outcome1 :=
  if s.cel.saveState = 1 ∨ s.cel.saveState = 2 ∨ s.tileList.any (fun t => (s.tile t).state != 0) then s.refuse
  else ({ s with cel := { s.cel with saveState := 1, saveSet := n, progress := 0 } }, none)

/-- CONFIG_SET:03 (R438). -/
def State.restoreRequest (s : State) (n : Nat) : Outcome1 :=
  if s.md.mode = .configure then (s.restoreSet n, none) else s.refuse

/-- CONFIG_SET:01 (R438): kept in pair 25. -/
def State.setActive (s : State) (n : Nat) : State :=
  ({ s with cel := { s.cel with activeSet := n } } : State).cellWrite 0 25 [(okey 0x4810 1, n)] 0x4810

/-! ### Every live object -/

/-- Live effects of the device-level objects. -/
def State.liveDevice (s : State) (ch : Chan) (f : Fam) (sub v : Nat) (verify : Nat) : Option Outcome1 :=
  match f with
  | .devModeReq => some (if sub = 1 then s.modeRequest v else if sub = 2 then s.clearHold else s.enterService)
  | .commit => some (s.commitRequest v)
  | .shadowStatus => if sub = 4 then some (s.discardAll, none) else none
  | .calCmd => some s.calStart
  | .secSession =>
    some (if sub = 1 then s.sessionOpen ch v else if sub = 3 then s.sessionProve ch v else s.sessionTag ch v)
  | .secKeyslot => some (s.rekeySlot ch v)
  | .fuseStatus => some (s.blowFuse ch v verify)
  | .safeStateCause => some (s.clearSafe v)
  | .diagTable => some s.proofStart
  | .errorHistory => some ({ s with net := { s.net with history := [] } }, none)
  | .seqFirstFail => some (s.clearFirstFail, none)
  | .recCursor => if sub = 1 then some (s.setView v, none) else if sub = 2 then some (s.setPosition v, none) else none
  | .recClear => some (s.clearRecorders, none)
  | .faultActive => some (if sub = 4 then s.ackFaults else s.clearFirst, none)
  | .cellarStore => some (s.startStore 3, none)
  | .configSet =>
    some (if sub = 1 then (s.setActive v, none) else if sub = 2 then s.saveRequest v else s.restoreRequest v)
  | _ => none

/-- Live effects of loop, phase and tile objects. -/
def State.liveBlock (s : State) (f : Fam) (i sub v : Nat) : Option Outcome1 :=
  match f with
  | .loopBurst => some (((s.put (loopIdx i 0xD) 2 v).burstForbidden i), none)
  | .loopOc => some (s.clearLatch i)
  | .loopTrimLearn => some (if v = 1 then s.learnStart i else (s.abortLearn i, none))
  | .phaseManual => some (s.manualWrite i v, none)
  | .laneStatus => if sub = 9 then some (s.clearAlerts i v, none) else none
  | .histogram => some ({ s with hists := s.hists.upd {} i (fun h => { h with clear := true }) }, none)
  | .capture => some (if v = 1 then s.captureArm i else (s.captureDisarm i, none))
  | .ringCfg => some ({ s with ev := { s.ev with rings := s.ev.rings.upd {} i (fun g =>
    ({ g with readIdx := v } : Ring).remark (s.ob (0x4400 + i) 6)) } }, none)
  | _ => none

/-- The effect of a live write; objects without one of their own are stored (R75). -/
def State.live (s : State) (ch : Chan) (f : Fam) (i idx sub v : Nat) (verify : Nat) : Outcome1 :=
  match s.liveDevice ch f sub v verify with
  | some o => o
  | none => match s.liveBlock f i sub v with
    | some o => o
    | none => (s.put idx sub v, none)

/-! ### Reads that change something (R325, R342, R399, R408, R490) -/

/-- What a read of a subindex clears. -/
def State.clearRead (s : State) (f : Fam) (i sub : Nat) : State :=
  match f with
  | .loopPeaks =>
    s.updLoop i (fun lp =>
      { lp with
        tl := match sub with
          | 1 => { lp.tl with vMax := 0 }
          | 2 => { lp.tl with vMin := 0xFFFF }
          | 3 => { lp.tl with iMax := -0x80000000 }
          | 4 => { lp.tl with pMax := -0x80000000 }
          | 5 => { lp.tl with tMax := -0x8000 }
          | _ => lp.tl })
  | .phaseTelem => if sub = 3 then s.updPhase i (fun ph => { ph with tl := { ph.tl with curPeak := none } }) else s
  | .ringCfg => if sub = 0x0A then { s with ev := { s.ev with rings := s.ev.rings.upd {} i (fun g => { g with peak := 0 }) } } else s
  | .netStatus => if sub = 0x0D then { s with net := { s.net with maxResponse := 0 } } else s
  | _ => s

end Sys2Proof.Machine
end

