-- ==== Sys2Proof/Machine/Dict.lean ====
section
/-! DEFINITION. The dictionary server: how a write and a read of any object are checked, carried out and answered, and
which requests are held while a commit is in flight (R75 to R85, R465, R490 to R492, R498). Every command that writes an
object goes through `State.request`. -/

namespace Sys2Proof.Machine

/-! ### One write (R492) -/

/-- An X value takes effect: put, kept in its page pair, and its consequences (R75, R418). -/
def State.putX (s : State) (f : Fam) (i idx sub v : Nat) : State :=
  match f with
  | .secKeyslot => s.setKey (sub - 1) v
  | .srdoValid => { s.put idx sub v with srdo := { s.srdo with valid := v == 0xA5 } }
  | .srdoSignature =>
    let s1 := s.put idx sub v
    { s1 with srdo := { s1.srdo with valid := s1.ob 0x13FE 0 == 0xA5 && s1.srdoMatch } }
  | _ => ((s.put idx sub v).keepPair (okey idx sub)).afterX f i sub

/-- A LANE_CFG write that arrives during a transaction waits for its end (R75, R273). -/
def State.laneBusy (s : State) (f : Fam) (i : Nat) : Bool := f == .laneCfg && decide (s.now < (s.lane i).transEnd)

/-- The effect of a write that has passed every check, under its commit class (R75). A value of pair 19 is acknowledged once the
page is written (R489). -/
def State.carryOut (s : State) (ch : Chan) (f : Fam) (i idx sub v : Nat) (r : Row) (verify : Nat) : State × Resp :=
  match r.cls with
  | .c =>
    ({ s with
      obj := { s.obj with
        pend := s.obj.pend.set none (okey idx sub) (some v), owed := s.obj.owed.set 0 (okey idx sub) 0 } }, .ok [])
  | .x =>
    if s.laneBusy f i then (s.updLane i (fun ln => { ln with heldCfg := ln.heldCfg ++ [(some ch, sub, v)] }), .held)
    else if f = .netCfg ∧ pairOf (okey idx sub) = some 19 then ((s.putX f i idx sub v).whenKept 0 19 ch, .held)
    else (s.putX f i idx sub v, .ok [])
  | _ =>
    if f = .loopTarget then (s.newTarget i v (.dict (some ch)), .held)
    else match s.live ch f i idx sub v verify with
    | (s1, none) => (s1, .ok [])
    | (s1, some a) => (s1, .abort a)

/-- DEV_MODE_REQ:05 names the subindex that fails an ENABLE write (R116). -/
def State.enableDetail (s : State) (f : Fam) (i idx sub v : Nat) : State :=
  if f = .loopCfg ∧ sub = 1 ∧ v = 1 then
    match (s.put idx sub v).loopFail i with
    | some k => { s with md := { s.md with checkDetail := okey idx k } }
    | none => s
  else s

/-- Checks 5 to 7 and the effect of a write (R492). -/
def State.writeChecked (s : State) (ch : Chan) (f : Fam) (i idx sub len v : Nat) (r : Row) (verify : Nat) : State × Resp :=
  if len ≠ r.bytes ∨ s.rangeOk f i idx sub v r = false then (s.enableDetail f i idx sub v, .abort 0x06090030)
  else if r.cls = .x ∧ s.stoppedOk f i sub v = false then (s, .abort 0x08000022)
  else if s.refused7 f i idx sub v r then (s, .abort 0x08000000)
  else s.carryOut ch f i idx sub v r verify

/-- Check 4 and the rest: `tag` is the tag that waited on the channel. -/
def State.writeGated (s : State) (ch : Chan) (f : Fam) (i idx sub len v : Nat) (r : Row) (tag : Option Nat)
    (verify : Nat) : State × Resp :=
  match s.passWrite r.prot ch idx sub len v tag with
  | (s1, some a) => (s1, .abort a)
  | (s1, none) =>
    if s1.lowersPolicy f sub v then (s1.secReject 8 ch idx sub, .abort 0x08000020)
    else s1.writeChecked ch f i idx sub len v r verify

/-- A write of an object that exists: checks 2 and 3, then the others. Subindices of a device-level object for a loop that the part
lacks exist, but for the tallies (DESIGN CHOICE, log entry 143). -/
def State.writeFound (s : State) (ch : Chan) (f : Fam) (i idx sub len v : Nat) (tag : Option Nat) (verify : Nat) :
    State × Resp :=
  match f.row sub with
  | none => (s, .abort (if sub = 0 ∧ f.ownSub0 = false then 0x06010002 else 0x06090011))
  | some r =>
    if f = .cellarTally ∧ 8 * s.T < sub then (s, .abort 0x06020000)
    else if r.acc = .ro ∨ r.acc = .const then (s, .abort 0x06010002)
    else if pathRefused f sub then (s, .abort 0x06010000)
    else s.writeGated ch f i idx sub len v r tag verify

/-- One dictionary write (R492); it takes the tag that waits on its channel (R470). -/
def State.doWrite (s : State) (ch : Chan) (idx sub len v : Nat) (verify : Nat) : State × Resp :=
  let t := s.takeTag ch
  match resolve s.T idx with
  | none => (t.1, .abort 0x06020000)
  | some (f, i) => t.1.writeFound ch f i idx sub len v t.2 verify

/-! ### One read (R492) -/

/-- The subindices of CAPTURE that are DOMAINs (R542). -/
def isDomain (T idx sub : Nat) : Bool :=
  match resolve T idx with
  | some (.capture, _) => sub == 8 || sub == 9 || sub == 0x0A
  | _ => false

/-- Check 7 of a read (R20, R435, R542). -/
def State.readRefused (s : State) (f : Fam) (i sub : Nat) : Bool :=
  !(s.writeTiles f i).all s.reachable ||
    (f == .cellarStatus && (sub == 0x0A || sub == 0x0B) && !s.serviceOpen) ||
    (f == .capture && (sub == 8 || sub == 9 || sub == 0x0A) && (s.caps.get {} i).state != 3)

/-- The value of a read that has passed every check, and what the read clears or advances. -/
def State.readValue (s : State) (ch : Chan) (f : Fam) (i idx sub : Nat) : State × List Nat :=
  if f = .recWindow ∧ sub = 1 then s.readWindow
  else (s.clearRead f i sub, s.readBytes ch idx sub f i)

/-- Check 5 of a read: the length that a READ over SPI asks for, 0 for the whole object; a part of a DOMAIN or of the record window
has some length (R492, R509, R542). -/
def State.readLenOk (s : State) (ch : Chan) (f : Fam) (i idx sub len : Nat) : Bool :=
  if ch = .spi ∧ (isDomain s.T idx sub ∨ idx = 0x4482 ∧ sub = 1) then len != 0
  else len == 0 || len == (s.readBytes ch idx sub f i).length

/-- A read of an object that exists. `len` is the length that the request gives, 0 for none. Subindices of a device-level object for
a loop that the part lacks exist, but for the tallies (DESIGN CHOICE, log entry 143). -/
def State.readFound (s : State) (ch : Chan) (f : Fam) (i idx sub len : Nat) : State × Resp :=
  match f.row sub with
  | none =>
    if sub = 0 ∧ f.ownSub0 = false then
      (if len ≠ 0 ∧ len ≠ 1 then (s, .abort 0x06090030)
      else if (s.writeTiles f i).all s.reachable then (s, .ok [f.highest]) else (s, .abort 0x08000000))
    else (s, .abort 0x06090011)
  | some r =>
    if f = .cellarTally ∧ 8 * s.T < sub then (s, .abort 0x06020000)
    else if r.acc = .wo then (s, .abort 0x06010001)
    else
      match s.passRead r.prot ch idx sub with
      | (s1, some a) => (s1, .abort a)
      | (s1, none) =>
        if s1.readLenOk ch f i idx sub len = false then (s1, .abort 0x06090030)
        else if s1.readRefused f i sub then (s1, .abort 0x08000000)
        else ((s1.readValue ch f i idx sub).1, .ok (s1.readValue ch f i idx sub).2)

/-- One dictionary read (R492). -/
def State.doRead (s : State) (ch : Chan) (idx sub len : Nat) : State × Resp :=
  match resolve s.T idx with
  | none => (s, .abort 0x06020000)
  | some (f, i) => s.readFound ch f i idx sub len

/-! ### A READ over SPI (R509, R542) -/

/-- The next `len` bytes of a DOMAIN; the place goes back to 0 after the last byte (R542). -/
def State.domainChunk (s : State) (idx sub len : Nat) (bs : List Nat) : State × List Nat :=
  let k := okey idx sub
  let p := s.net.domainPos.get 0 k
  let q := if bs.length ≤ p + len then 0 else p + len
  ({ s with net := { s.net with domainPos := Tab.set 0 s.net.domainPos k q } }, (bs.drop p).take len)

/-- The read of a READ command: a DOMAIN in parts, the record window in whole records, other objects whole (R509). -/
def State.spiDoRead (s : State) (idx sub len : Nat) : State × Resp :=
  if isDomain s.T idx sub then
    match s.doRead .spi idx sub len with
    | (s1, .ok bs) =>
      let r := s1.domainChunk idx sub len bs
      (r.1, .ok r.2)
    | r => r
  else if idx = 0x4482 ∧ sub = 1 then
    let r := (s.put 0x4481 3 (Nat.min (s.ob 0x4481 3) (len / 32))).doRead .spi idx sub len
    ({ r.1 with obj := { r.1.obj with act := s.obj.act } }, r.2)
  else s.doRead .spi idx sub len

/-! ### Answers (R490, R507, R510) -/

/-- The SPI result of an answer (R510). -/
def spiOf (old : SpiResult) (r : Resp) : SpiResult :=
  match r with
  | .none => old
  | .ok bs => .done bs
  | .abort a => .aborted a
  | .held => .busy

/-- The last answer to a client. -/
def State.respOf (s : State) (ch : Chan) : Resp :=
  match ch with
  | .canA c => s.obj.respA.get .none c.val
  | .canB => s.obj.respB
  | .spi => s.obj.respSpi

/-- The answer to a request of a client; a transfer of a CAN client that is open ends with it (R491). -/
def State.reply (s : State) (ch : Chan) (r : Resp) : State :=
  match ch with
  | .canA c =>
    { s with
      obj := { s.obj with respA := Tab.set .none s.obj.respA c.val r }
      net := { s.net with transfers := s.net.transfers.set none c.val none } }
  | .canB =>
    { s with obj := { s.obj with respB := r }, net := { s.net with transfers := s.net.transfers.set none 4 none } }
  | .spi => { s with obj := { s.obj with respSpi := r }, net := { s.net with spi := spiOf s.net.spi r } }

/-- The response time of an answered request, at most 1.76 ms, is kept and counted (R490, R507, R533). -/
def State.latency (s : State) (ch : Chan) : State :=
  let t := Config.responseTime s.diag.fresh % 1761
  let s1 : State :=
    { s with
      net := { s.net with maxResponse := Nat.max s.net.maxResponse t }
      diag := { s.diag with fresh := s.diag.fresh + 1 } }
  s1.histValue [0] 8 (chanCode ch) (t : Nat)

/-- An answer with its response time; a held request has none yet. -/
def State.answer (s : State) (ch : Chan) (r : Resp) : State :=
  match r with
  | .held => s.reply ch r
  | _ => (s.reply ch r).latency ch

/-! ### RPDO entries (R494, R498) -/

/-- The channel of RPDO n (R488). -/
def State.rpdoChan (s : State) (n : Nat) : Chan := if bit (s.ob 0x2003 7) n then .canB else .canA 0

/-- The target that an RPDO entry has set waits for its loop sample without a channel to answer. -/
def State.unanswered (s : State) (idx : Nat) : State :=
  match resolve s.T idx with
  | some (.loopTarget, l) =>
    s.updLoop l (fun lp =>
      { lp with
        tg := { lp.tg with
          waiting := lp.tg.waiting.dropLast ++ (lp.tg.waiting.getLast?.map (fun w => { w with src := .dict none })).toList } })
  | _ => s

/-- One mapped entry: a dictionary write; an entry that fails is skipped and counted (R498). -/
def State.rpdoEntry (s : State) (ch : Chan) (e : Nat) (v : Nat) : State :=
  let idx := e / 65536
  if idx < 0x1000 then s
  else
    match s.doWrite ch idx (e / 256 % 256) (e % 256 / 8) v 0 with
    | (s1, .abort _) => { s1 with net := { s1.net with rpdoRefused := satAdd 32 s1.net.rpdoRefused 1 } }
    | (s1, .held) => s1.unanswered idx
    | (s1, _) => s1

/-- The entries of a mapping in order, each with its bytes. -/
def State.rpdoEntries (s : State) (ch : Chan) : List Nat → List Nat → State
  | [], _ => s
  | e :: es, bs =>
    let n := e % 256 / 8
    (s.rpdoEntry ch e (ofBytesLE (bs.take n))).rpdoEntries ch es (bs.drop n)

/-- The mapped entries of RPDO n. -/
def State.rpdoMapping (s : State) (n : Nat) : List Nat := (List.range (s.ob (0x1600 + n) 0)).map (fun j => s.ob (0x1600 + n) (j + 1))

/-- The data of an RPDO is applied (R498). -/
def State.applyRpdo (s : State) (n : Nat) (data : List Nat) : State := s.rpdoEntries (s.rpdoChan n) (s.rpdoMapping n) data

/-! ### Requests (R80, R81, R490) -/

/-- The processor of tile 0, the dictionary server, is not halted (R478). While it recovers, requests are still taken, and those
to the objects of tile 0 are refused (R25; DESIGN CHOICE, log entry 140). -/
def State.serverRuns (s : State) : Bool := !(s.tile 0).procHalted

/-- The dictionary is served on a channel (R20, R91, R478, R488, R507); a recovering tile 0 still takes requests for the objects of
other tiles (DESIGN CHOICE, log entry 140). -/
def State.served (s : State) (ch : Chan) : Bool :=
  let up (n : Nmt) : Bool := n == .operational || n == .preOperational
  s.md.mode != .reset && s.serverRuns &&
    (match ch with
      | .spi => true
      | .canA _ => s.net.enA && up s.net.nmtA && s.net.errA != 2
      | .canB => s.net.enB && up s.net.nmtB && s.net.errB != 2)

/-- A request that R81 holds while a commit is in flight: a C write, a COMMIT write or a discard. -/
def State.commitBound (s : State) (h : HeldReq) : Bool :=
  match h with
  | .write _ idx sub _ _ _ =>
    (match resolve s.T idx with
      | some (f, _) => (f == .commit && sub == 1) || (f == .shadowStatus && sub == 4) ||
          (match f.row sub with | some r => r.cls == .c | none => false)
      | none => false)
  | _ => false

/-- The channel that waits for the answer of a request; an RPDO has none. -/
def HeldReq.chan : HeldReq → Option Chan
  | .write ch _ _ _ _ _ => some ch
  | .read ch _ _ _ => some ch
  | .rpdo _ _ => none

/-- The transfer of a client (R491). -/
def State.transferOf (s : State) (ch : Chan) : Option OpenTransfer := (clientOf ch).bind (s.net.transfers.get none)

/-- The transfer of a client is open, with a frame of the client at the present time. -/
def State.openTransfer (s : State) (ch : Chan) (x : OpenTransfer) : State :=
  match clientOf ch with
  | some k => { s with net := { s.net with transfers := s.net.transfers.set none k (some { x with frameAt := s.now }) } }
  | none => s

/-- The answer to a read whose initiate request waits for it: the transfer holds the value as it stands now, and the answer carries
no data yet; a refusal ends the transfer (R491). -/
def State.answerInitiate (s : State) (ch : Chan) (x : OpenTransfer) (r : Resp) : State :=
  match r with
  | .ok bs => (s.answer ch (.ok [])).openTransfer ch { x with bytes := bs, waiting := false }
  | .held => (s.answer ch .held).openTransfer ch x
  | _ => s.answer ch r

/-- The answer to a read: whole, or to the initiate request that waits for it. -/
def State.answerRead (s : State) (ch : Chan) (r : Resp) : State :=
  match s.transferOf ch with
  | some x => if x.waiting then s.answerInitiate ch x r else s.answer ch r
  | none => s.answer ch r

/-- A request is handled. -/
def State.handle (s : State) (h : HeldReq) : State :=
  match h with
  | .write ch idx sub len v verify => let r := s.doWrite ch idx sub len v verify; r.1.answer ch r.2
  | .read ch idx sub len =>
    let r := if ch = .spi then s.spiDoRead idx sub len else s.doRead ch idx sub 0
    r.1.answerRead ch r.2
  | .rpdo n data => s.applyRpdo n data

/-- A request must wait: an earlier one waits, or it is held by the commit in flight (R80, R81). -/
def State.mustWait (s : State) (h : HeldReq) : Bool :=
  !s.obj.heldReqs.isEmpty || (s.obj.flight.isSome && s.commitBound h)

/-- The request joins those held. -/
def State.hold (s : State) (h : HeldReq) : State :=
  let s1 : State := { s with obj := { s.obj with heldReqs := s.obj.heldReqs ++ [h] } }
  match h.chan with
  | some ch => s1.answer ch .held
  | none => s1

/-- The previous SPI request is still busy (R511). -/
def State.spiBusy (s : State) (ch : Chan) : Bool := ch == .spi && s.net.spi == .busy

/-- The queue entry of a USDO or SDO client is occupied: its last request has not been answered (R490). -/
def State.clientBusy (s : State) (ch : Chan) : Bool := ch != .spi && s.respOf ch == .held

/-- The requests of the clients that `mine` names end without an answer: those held go, a target that waits for its loop sample,
a lane setting that waits for its transaction and a page write of pair 19 have nobody to answer, and open transfers
close. -/
def State.silence (s : State) (mine : Chan → Bool) : State :=
  let still (c : Option Chan) : Option Chan := c.filter (fun x => !mine x)
  let mute (w : Waiting) : Waiting :=
    match w.src with
    | .dict c => { w with src := .dict (still c) }
    | _ => w
  let open_ (k : Nat) : Bool := if h : k < 4 then mine (.canA ⟨k, h⟩) else mine .canB
  let deaf (o : CellOp) : CellOp :=
    match o with
    | .page i d b acks => .page i d b (acks.filter (fun x => !mine x))
    | o => o
  { s with
    obj := { s.obj with heldReqs := s.obj.heldReqs.filter (fun h => !(h.chan.any mine)) }
    net := { s.net with transfers := s.net.transfers.filter (fun e => !open_ e.1) }
    cel := { s.cel with
      cellars := s.cel.cellars.upd {} 0 (fun c => { c with queue := c.queue.map deaf, busy := c.busy.map deaf }) }
    lanes := s.lanes.updAll {} s.tileList (fun _ ln =>
      { ln with heldCfg := ln.heldCfg.map (fun e => (still e.1, e.2)) })
    loops := s.loops.updAll {} s.loopList (fun _ lp =>
      { lp with tg := { lp.tg with waiting := lp.tg.waiting.map mute } }) }

/-- A new frame of a client whose entry is occupied is an error of its transfer, which is aborted (R490, R492). A target that waits
for its loop sample and a value of pair 19 have passed their checks and take effect (DESIGN CHOICE, log entry 11). -/
def State.transferError (s : State) (ch : Chan) : State := (s.silence (· == ch)).reply ch (.abort 0x08000000)

/-- A request arrives on a channel: not served, discarded (R511), an error of its transfer (R490), held or handled. -/
def State.request (s : State) (ch : Chan) (h : HeldReq) : State :=
  if s.served ch = false then s
  else if s.spiBusy ch then { s with net := { s.net with spiDiscarded := satAdd 32 s.net.spiDiscarded 1 } }
  else if h.chan = some ch ∧ s.clientBusy ch then s.transferError ch
  else if s.mustWait h then s.hold h
  else s.handle h

/-- A write of `len` bytes from a channel. -/
def State.write (s : State) (ch : Chan) (idx sub len v : Nat) : State := s.request ch (.write ch idx sub len v 0)

/-- The first held request is handled once the flight has ended (R81). -/
def State.serveHeld (s : State) : State :=
  match s.obj.heldReqs with
  | [] => s
  | h :: rest =>
    if s.obj.flight.isSome && s.commitBound h then s
    else ({ s with obj := { s.obj with heldReqs := rest } } : State).handle h

/-- The LANE_CFG writes that waited for the end of a transaction are applied in order (R273). -/
def State.applyLaneCfg (s : State) (t : Nat) : State :=
  let ln := s.lane t
  match ln.heldCfg with
  | [] => s
  | _ =>
    let s1 := (s.reach ln.transEnd).updLane t (fun ln => { ln with heldCfg := [] })
    ln.heldCfg.foldl (fun s e =>
      let s2 := s.putX .laneCfg t (0x5000 + t) e.2.1 e.2.2
      match e.1 with
      | some ch => s2.answer ch (.ok [])
      | none => s2) s1

/-! ### Segmented transfers (R485, R491, R492) -/

/-- A protocol error: the transfer ends with abort 0x0800_0000 (R492). -/
def State.protocolError (s : State) (ch : Chan) : State := s.answer ch (.abort 0x08000000)

/-- A segment of a write: it is kept, and with the last one the whole value is one write (R491). -/
def State.writeSegment (s : State) (ch : Chan) (x : OpenTransfer) (len v : Nat) (toggle last : Bool) : State :=
  let bs := x.bytes ++ bytesLE len v
  if x.write = false ∨ toggle ≠ x.toggle then s.protocolError ch
  else if last then s.write ch x.idx x.sub bs.length (ofBytesLE bs)
  else (s.answer ch (.ok [])).openTransfer ch { x with bytes := bs, toggle := !x.toggle }

/-- A segment of a read: the next bytes of the value held; the spec gives a segment no size, which is a free number of at least
one byte (DESIGN CHOICE, log entry 11). -/
def State.readSegment (s : State) (ch : Chan) (x : OpenTransfer) (toggle : Bool) : State :=
  let k := Config.segmentBytes s.diag.fresh + 1
  let rest := x.bytes.drop k
  if x.write ∨ toggle ≠ x.toggle then s.protocolError ch
  else
    let s1 := s.answer ch (.ok (x.bytes.take k))
    if rest.isEmpty then s1 else s1.openTransfer ch { x with bytes := rest, toggle := !x.toggle }

/-- A frame of a segmented access reaches the server: not served, an error of the transfer of a client whose entry is still occupied
(R490), or acted on. -/
def State.transferFrame (s : State) (ch : Chan) (f : State → State) : State :=
  if s.served ch = false then s
  else if s.clientBusy ch then s.transferError ch
  else f s

/-- A write of a client in the parts that its frames carry. A new access ends a transfer that is open (R491, R492; DESIGN CHOICE,
log entry 11). -/
def State.writePart (s : State) (ch : Chan) (idx sub len v : Nat) (part : Transfer) : State :=
  match part with
  | .whole => s.write ch idx sub len v
  | .initiate =>
    s.transferFrame ch (fun s => (s.answer ch (.ok [])).openTransfer ch { write := true, idx := idx, sub := sub })
  | .segment toggle last => s.transferFrame ch (fun s => match s.transferOf ch with
    | some x => s.writeSegment ch x len v toggle last
    | none => s.protocolError ch)
  | .unknown => s.transferFrame ch (State.protocolError · ch)

/-- A read of a client in the parts that its frames carry. -/
def State.readPart (s : State) (ch : Chan) (idx sub len : Nat) (part : Transfer) : State :=
  match part with
  | .whole => s.request ch (.read ch idx sub len)
  | .initiate =>
    s.transferFrame ch (fun s =>
      let x : OpenTransfer := { write := false, idx := idx, sub := sub, waiting := true }
      if s.mustWait (.read ch idx sub len) then (s.hold (.read ch idx sub len)).openTransfer ch x
      else (s.openTransfer ch x).handle (.read ch idx sub len))
  | .segment toggle _ => s.transferFrame ch (fun s => match s.transferOf ch with
    | some x => s.readSegment ch x toggle
    | none => s.protocolError ch)
  | .unknown => s.transferFrame ch (State.protocolError · ch)

end Sys2Proof.Machine
end

