-- ==== Sys2Proof/Machine/NetOps.lean ====
section
/-! DEFINITION. PDOs, SYNC, heartbeat, NMT, SDO time-out, the SPI port and the SRDOs (R110, R491 to R511). -/

namespace Sys2Proof.Machine

/-! ### Channels (R110, R489, R507) -/

/-- The channel of a frame that the part has sent. -/
def Frame.chan : Frame → CanChan
  | .bootUp c | .heartbeat c _ | .emcy c _ _ _ | .tpdo c _ _ | .srdo c _ _ => c

/-- Its format (R486): CAN A sends in FD format with bit-rate switch, but SRDOs in classical format; CAN B sends no FD frame. -/
def Frame.format : Frame → CanFormat
  | .srdo _ _ _ => .classical
  | f => if f.chan = .a then .fd else .classical

/-- The part takes a received frame; CAN B ignores an FD frame without an error (R486). -/
def State.onFrame (s : State) (c : CanChan) (format : CanFormat) (f : State → State) : State :=
  if c = .b ∧ format = .fd then s else f s

/-- The channel is enabled and not bus-off. -/
def State.channelUp (s : State) (c : CanChan) : Bool :=
  match c with
  | .a => s.net.enA && s.net.errA != 2
  | .b => s.net.enB && s.net.errB != 2

/-- The NMT state of a channel. -/
def NetGrp.setNmt (n : NetGrp) (c : CanChan) (m : Nmt) : NetGrp :=
  match c with
  | .a => { n with nmtA := m }
  | .b => { n with nmtB := m }

/-- An NMT command reaches the part on a channel: it is served outside RESET (R91). -/
def State.nmtHeard (s : State) (c : CanChan) : Bool := s.md.mode != .reset && s.channelUp c

/-- PDOs run on the channel (R495). -/
def State.pdoUp (s : State) (c : CanChan) : Bool := s.channelUp c && s.nmtOf c == .operational

/-- The CAN channel of TPDO n (R488). -/
def State.tpdoChan (s : State) (n : Nat) : CanChan := if bit (s.ob 0x2003 6) n then .b else .a

/-- The CAN channel of RPDO n (R488). -/
def State.rpdoCan (s : State) (n : Nat) : CanChan := if bit (s.ob 0x2003 7) n then .b else .a

/-- The COB-ID of a PDO is valid: bit 31 clear (R495). -/
def State.pdoValid (s : State) (idx n : Nat) : Bool := !bit (s.ob (idx + n) 1) 31

/-- TPDO n may be sent: valid, operational, with an entry in its mapping (R495, R522). -/
def State.tpdoOn (s : State) (n : Nat) : Bool := decide (n < 16) && s.ob (0x1A00 + n) 0 != 0 && s.pdoValid 0x1800 n && s.pdoUp (s.tpdoChan n)

/-- RPDO n may be received; frames of one without an entry in its mapping are ignored (R495, R522). -/
def State.rpdoOn (s : State) (n : Nat) : Bool := decide (n < 16) && s.ob (0x1600 + n) 0 != 0 && s.pdoValid 0x1400 n && s.pdoUp (s.rpdoCan n)

/-- The session of CAN channel c closes (R471). -/
def SecGrp.leave (g : SecGrp) (c : CanChan) : SecGrp :=
  if g.session.any (fun x => x.1 == canChan c) then { g with session := none, tags := [] } else g

/-- The transfers of a CAN channel end without a response (R513), and its RPDOs that are not served yet are dropped. -/
def State.endTransfers (s : State) (c : CanChan) : State :=
  let s1 := s.silence (fun x => chanBus x == canChan c)
  let dead (h : HeldReq) : Bool := match h with | .rpdo n _ => s.rpdoCan n == c | _ => false
  { s1 with
    obj := { s1.obj with
      heldReqs := s1.obj.heldReqs.filter (fun h => !dead h)
      respA := if c = .a then s1.obj.respA.filter (fun e => e.2 != .held) else s1.obj.respA
      respB := if c = .b ∧ s1.obj.respB = .held then .none else s1.obj.respB } }

/-- Reset Communication (R110, R471, R489, R513): the values of NET_CFG come into use, the channel's queues are empty, its
transfers end, its session closes, and after the boot-up message the channel is pre-operational. -/
def State.resetComm (s : State) (c : CanChan) : State :=
  let s0 := s.endTransfers c
  let n := s0.net
  let n1 : NetGrp := match c with
    | .a =>
      { n with
        nodeA := s.ob 0x2003 1, rateA := s.ob 0x2003 3, dataRateA := s.ob 0x2003 4, enA := bit (s.ob 0x2003 9) 0
        emcyA := [], inhibitA := false }
    | .b =>
      { n with
        nodeB := s.ob 0x2003 2, rateB := s.ob 0x2003 5, enB := bit (s.ob 0x2003 9) 1, emcyB := [], inhibitB := false }
  let mine (k : Nat) : Bool := s.rpdoCan k != c
  let n2 : NetGrp :=
    { n1 with
      rpdoBuf := n1.rpdoBuf.filter (fun e => mine e.1), rpdoDue := n1.rpdoDue.filter (fun e => mine e.1)
      tpdos := n1.tpdos.filter (fun e => s.tpdoChan e.1 != c) }
  { s0 with net := (n2.bootUp c).setNmt c .preOperational, sec := s0.sec.leave c }

/-! ### TPDOs (R494 to R499) -/

/-- TPDO n. -/
def State.tpdo (s : State) (n : Nat) : Tpdo := s.net.tpdos.get {} n

/-- The record that a stream entry carries: none while CONSUMER is not 1, the TPDO is on CAN B or its type is not 254
(R499). -/
def State.streamRec (s : State) (n r j : Nat) : Option Rec :=
  if s.ob (0x4400 + r) 5 = 1 ∧ s.tpdoChan n = .a ∧ s.ob (0x1800 + n) 2 = 254 then ((s.ring r).unread)[j]? else none

/-- The bytes of one mapped entry, and what taking them clears (R325, R497); of an object that does not answer they are
free. -/
def State.tpdoEntry (s : State) (n e : Nat) : State × List Nat :=
  let w := e % 256 / 8
  match streamOf e with
  | some (r, j) => (s, match s.streamRec n r j with | some x => x.bytes | none => List.replicate 32 0)
  | none =>
    match s.doRead (canChan (s.tpdoChan n)) (e / 65536) (e / 256 % 256) 0 with
    | (s1, .ok bs) => (s1, (bs ++ List.replicate w 0).take w)
    | (s1, _) =>
      ({ s1 with diag := { s1.diag with fresh := s1.diag.fresh + 1 } },
        (List.range w).map (fun i => Config.absentByte (64 * s1.diag.fresh + i) % 256))

/-- All mapped values of a TPDO. -/
def State.tpdoValues (s : State) (n : Nat) : State × List Nat :=
  (s.tpdoMapping n).foldl (fun a e =>
    let r := a.1.tpdoEntry n e
    (r.1, a.2 ++ r.2)) (s, [])

/-- The smallest CAN FD data length that holds `k` bytes (R494). -/
def fdLength (k : Nat) : Nat := ([0, 1, 2, 3, 4, 5, 6, 7, 8, 12, 16, 20, 24, 32, 48, 64].find? (k ≤ ·)).getD 64

/-- The bytes on the bus: on CAN A padded with zeros (R494). -/
def State.onBus (s : State) (n : Nat) (bs : List Nat) : List Nat :=
  if s.tpdoChan n = .a then bs ++ List.replicate (fdLength bs.length - bs.length) 0 else bs

/-- A TPDO streams a ring now: CONSUMER is 1, and it is on CAN A with type 254 (R499). -/
def State.streaming (s : State) (n : Nat) : Bool :=
  match s.streamRing n with
  | some r => s.ob (0x4400 + r) 5 == 1 && s.tpdoChan n == .a && s.ob (0x1800 + n) 2 == 254
  | none => false

/-- Records that a stream frame carries. -/
def State.streamCount (s : State) (n : Nat) : Nat :=
  (((s.tpdoMapping n).filterMap streamOf).filter (fun e => (s.streamRec n e.1 e.2).isSome)).length

/-- A TPDO is sent with these values, `k` of them stream records (R496, R499). -/
def State.sendTpdo (s : State) (n : Nat) (bs : List Nat) (k : Nat) : State :=
  let s1 := s.updTpdo n (fun t =>
    { t with
      due := false, latched := none, sent := bs, inFlightRecs := k, sentAt := s.now
      inhibitUntil := s.now + 50000 * s.ob (0x1800 + n) 3 })
  { s1 with net := { s1.net with sent := .tpdo (s.tpdoChan n) n (s.onBus n bs) :: s1.net.sent } }

/-- At a frame boundary, a TPDO that a SYNC made due takes its values; type 0 only where they have changed (R496, R497). -/
def State.latchTpdo (s : State) (n : Nat) : State :=
  if (s.tpdo n).due = false then s
  else
    let r := s.tpdoValues n
    if s.ob (0x1800 + n) 2 = 0 ∧ r.2 = (s.tpdo n).sent then s.updTpdo n (fun t => { t with due := false })
    else r.1.updTpdo n (fun t => { t with due := false, latched := some r.2 })

/-- A TPDO of type 254 has new content: an unread record to stream, or a changed value (R496, R499). -/
def State.tpdoNews (s : State) (n : Nat) : Bool :=
  decide (s.ob (0x1800 + n) 2 = 254) &&
    (match s.streamRing n with
      | some _ => s.streamCount n != 0
      | none => (s.tpdoValues n).2 != (s.tpdo n).sent)

/-- The event timer applies to types 254 and 255 where it is not 0 (R496). -/
def State.tpdoTimed (s : State) (n : Nat) : Bool :=
  decide (254 ≤ s.ob (0x1800 + n) 2) && s.ob (0x1800 + n) 5 != 0

/-- When the event timer of a TPDO expires (R496). -/
def State.tpdoExpiry (s : State) (n : Nat) : Nat := (s.tpdo n).sentAt + 500000 * s.ob (0x1800 + n) 5

/-- An asynchronous TPDO takes its present values and is sent. -/
def State.sendNow (s : State) (n : Nat) : State :=
  let s1 := s.reach (s.tpdo n).inhibitUntil
  let r := s1.tpdoValues n
  r.1.sendTpdo n r.2 (s1.streamCount n)

/-- TPDO_TRANSMIT: latched values of a synchronous TPDO; a stream frame that was not acknowledged, with the same records
(R499); or the present values of an asynchronous one after its inhibit time, for news or at the event timer. -/
def State.transmitTpdo (s : State) (n : Nat) : State :=
  let t := s.tpdo n
  if s.tpdoOn n = false ∨ s.procRuns 0 = false then s
  else match t.latched with
    | some bs => s.sendTpdo n bs 0
    | none =>
      if t.inFlightRecs ≠ 0 ∧ s.streaming n then s.sendTpdo n t.sent t.inFlightRecs
      else if s.tpdoNews n then s.sendNow n
      else if s.tpdoTimed n then (s.reach (s.tpdoExpiry n)).sendNow n
      else s

/-- A stream frame is acknowledged (R499). -/
def State.ackTpdo (s : State) (n : Nat) : State :=
  let k := (s.tpdo n).inFlightRecs
  let s1 := s.updTpdo n (fun t => { t with inFlightRecs := 0 })
  match s.streamRing n with
  | some r => if k = 0 ∨ s.streaming n = false then s1 else s1.ringAdvance r k
  | none => s1

/-! ### SYNC (R496, R497) -/

/-- A SYNC reaches one TPDO: type 0 is due, types 1 to 240 at every n-th, counted from the start value. -/
def State.syncTpdo (s : State) (counter n : Nat) : State :=
  let ty := s.ob (0x1800 + n) 2
  let start := s.ob (0x1800 + n) 6
  if ty = 0 then s.updTpdo n (fun t => { t with due := true })
  else if 240 < ty then s
  else
    s.updTpdo n (fun t =>
      if t.started || start == 0 || decide (s.ob 0x1019 0 < 2) || counter == start then
        if ty ≤ t.syncs + 1 then { t with started := true, syncs := 0, due := true }
        else { t with started := true, syncs := t.syncs + 1 }
      else t)

/-- A SYNC on a channel: its synchronous TPDOs, and the RPDOs that were buffered since the last one (R497). -/
def State.sync (s : State) (c : CanChan) (counter : Nat) : State :=
  if s.pdoUp c = false then s
  else
    let s1 := ((List.range 16).filter (fun n => s.tpdoOn n && s.tpdoChan n == c)).foldl (fun s n => s.syncTpdo counter n) s
    let mine (e : Nat × List Nat) : Bool := s.rpdoCan e.1 == c
    { s1 with
      net := { s1.net with
        rpdoDue := (s1.net.rpdoBuf.filter mine).foldl (fun d e => Tab.set [] d e.1 e.2) s1.net.rpdoDue
        rpdoBuf := s1.net.rpdoBuf.filter (fun e => !mine e) } }

/-- The network work of a frame boundary: buffered synchronous RPDOs in ascending number, then the values of the TPDOs
that are due (R497). -/
def State.netFrame (s : State) : State :=
  let due := s.net.rpdoDue
  let s1 : State := { s with net := { s.net with rpdoDue := [] } }
  let s2 := due.foldl (fun s e => s.applyRpdo e.1 e.2) s1
  (List.range 16).foldl State.latchTpdo s2

/-- An RPDO arrives (R490, R496 to R498): a synchronous one is buffered, an asynchronous one is a request. A new one
replaces one that is not served yet. -/
def State.receiveRpdo (s : State) (n : Nat) (data : List Nat) : State :=
  if s.rpdoOn n = false then s
  else if s.ob (0x1400 + n) 2 ≤ 240 then { s with net := { s.net with rpdoBuf := Tab.set [] s.net.rpdoBuf n data } }
  else
    let same (h : HeldReq) : Bool := match h with | .rpdo m _ => m == n | _ => false
    if s.obj.heldReqs.any same then
      { s with obj := { s.obj with heldReqs := s.obj.heldReqs.map (fun h => if same h then .rpdo n data else h) } }
    else s.request (s.rpdoChan n) (.rpdo n data)

/-! ### SPI (R508 to R511) -/

/-- A request that is answered with status 0x03 (R507, R510). -/
def State.spiBad (s : State) : State :=
  { s with net := { s.net with spi := .bad, spiBad := satAdd 32 s.net.spiBad 1 } }

/-- A request while the last one is busy is discarded (R511). -/
def State.spiDiscard (s : State) : State :=
  { s with net := { s.net with spiDiscarded := satAdd 32 s.net.spiDiscarded 1 } }

/-- READ (R509 to R511). -/
def State.spiRead (s : State) (idx sub len : Nat) (crcOk : Bool) : State :=
  if s.served .spi = false then s
  else if s.net.spi = .busy then s.spiDiscard
  else if crcOk = false ∨ 4096 < len then s.spiBad
  else if s.mustWait (.read .spi idx sub len) then s.hold (.read .spi idx sub len)
  else s.handle (.read .spi idx sub len)

/-- WRITE. -/
def State.spiWrite (s : State) (idx sub len v : Nat) (crcOk : Bool) : State :=
  if s.served .spi = false then s
  else if s.net.spi = .busy then s.spiDiscard
  else if crcOk = false ∨ len = 0 ∨ 1024 < len then s.spiBad
  else s.write .spi idx sub len v

/-- RING_READ: whole records of a ring whose CONSUMER is 2 (R397, R509). -/
def State.ringRead (s : State) (r len : Nat) (crcOk : Bool) : State :=
  if s.served .spi = false then s
  else if s.net.spi = .busy then s.spiDiscard
  else if crcOk = false ∨ len < 32 ∨ 512 < len then s.spiBad
  else if 64 ≤ r then s.answer .spi (.abort 0x06020000)
  else if s.ob (0x4400 + r) 5 ≠ 2 then s.answer .spi (.abort 0x08000000)
  else
    let out := ((s.ring r).unread).take (len / 32)
    (s.ringAdvance r out.length).answer .spi (.ok (out.flatMap Rec.bytes))

/-- The response frame of a result (R510): status, length MSB first, data, CRC. -/
def SpiResult.frame (r : SpiResult) : List Nat :=
  let body := match r with
    | .busy => [0, 0, 0]
    | .done bs => [1, bs.length / 256 % 256, bs.length % 256] ++ bs
    | .aborted a => [2, 0, 4] ++ bytesLE 4 a
    | .bad => [3, 0, 0]
    | .none => [4, 0, 0]
  body ++ [body.foldl (fun c b => crc8 (c ^^^ b) 8) 0]

/-! ### SRDOs (R453, R454, R501) -/

/-- The SRDOs run on a channel that is enabled, operational, once their signatures are accepted (R501, R502). -/
def State.srdoChan (s : State) : CanChan := if s.ob 0x2003 8 = 0 then .a else .b

/-- SRDO i runs: its direction is set, its mapping lists normal and inverted entries alternately, and it has its COB-IDs. -/
def State.srdoRuns (s : State) (i : Nat) : Bool :=
  s.srdo.valid && s.ob (0x1301 + i) 1 != 0 && s.srdoPairs i && s.srdoCob i 5 != 0 && s.srdoCob i 6 != 0 && s.pdoUp s.srdoChan

/-- SRDO i runs as a receive SRDO; by default SRDO 2 (R453). -/
def State.srdoRx (s : State) (i : Nat) : Bool := decide (i < 8) && s.srdoRuns i && s.ob (0x1301 + i) 1 == 2

/-- SRDO i runs as a transmit SRDO; by default SRDO 1 (R453). -/
def State.srdoTx (s : State) (i : Nat) : Bool := decide (i < 8) && s.srdoRuns i && s.ob (0x1301 + i) 1 == 1

/-- Normal entries of a mapping: the odd subindices (R501). -/
def State.srdoEntries (s : State) (i : Nat) : List Nat :=
  (List.range ((s.ob (0x1381 + i) 0 + 1) / 2)).map (fun j => s.ob (0x1381 + i) (2 * j + 1))

/-- Loops in a set that are not in a severity-5 safe state. -/
def State.notSafe5 (s : State) (mask : Nat) : List Nat :=
  s.loopList.filter (fun l => bit mask l && !(s.loopSafe l && (s.loop l).pr.safeSev == 5))

/-- Receive SRDO i is lost: SRDO_LOSS_ACTION (R454, R461). -/
def State.srdoLost (s : State) (i : Nat) : State :=
  let s1 : State := { s with srdo := { s.srdo with lost := setBit s.srdo.lost i } }
  let a := s.ob 0x2600 7
  if a = 0 then s1
  else s1.dangerous (s1.notSafe5 (s.ob 0x2600 1)) 0 srdoLossCause 0xFFFF (a == 2)

/-- SRDO_LOSS (R454): its SCT has expired. -/
def State.srdoLoss (s : State) (i : Nat) : State := if s.srdoRx i then s.srdoLost i else s

/-- A valid pair of frames of SRDO i: the loss ends, and where it maps REQUEST_LOOPS, the safe state of the loops requested; a request
for loops that are in a severity-5 safe state already still acts by HOLD_CAUSES (R453, R454). -/
def State.srdoTake (s : State) (i normal : Nat) : State :=
  let s1 : State := { s with srdo := { s.srdo with lost := clrBit s.srdo.lost i } }
  if (s.srdoEntries i).head? = some 0x26010520 then
    let r := normal % 2 ^ 32
    let s2 : State := { s1 with srdo := { s1.srdo with request := r } }
    if s1.loopList.any (bit r) then s2.dangerous (s1.notSafe5 r) 0 0x0000 0xFFFF false else s2
  else s1

/-- SRDO_RECEIVED (R454, R501): both frames of a pair of SRDO i, `apartMs` apart. -/
def State.srdoIn (s : State) (i normal inverted apartMs : Nat) : State :=
  if s.srdoRx i then
    let bits := (s.srdoEntries i).foldl (fun a e => a + e % 256) 0
    let m := 2 ^ bits
    if apartMs ≤ s.ob (0x1301 + i) 3 ∧ normal % m + inverted % m + 1 = m then s.srdoTake i normal else s.srdoLost i
  else s

/-- The value that a mapped entry transmits, little-endian. -/
def State.srdoValue (s : State) (e : Nat) : Nat :=
  match resolve s.T (e / 65536) with
  | some (f, i) => ofBytesLE (s.readBytes (.canA 0) (e / 65536) (e / 256 % 256) f i)
  | none => 0

/-- The data of a transmit SRDO: its normal entries one after the other, and the number of bits. -/
def State.srdoData (s : State) (i : Nat) : Nat × Nat :=
  (s.srdoEntries i).foldl (fun a e => (a.1 + s.srdoValue e % 2 ^ (e % 256) * 2 ^ a.2, a.2 + e % 256)) (0, 0)

/-- SRDO_TRANSMIT (R453, R501): at its refresh time a transmit SRDO sends its normal and its inverted frame. -/
def State.srdoOut (s : State) (i : Nat) : State :=
  if s.srdoTx i then
    let s1 := s.reach ((s.srdo.sentAt.get 0 i) + 500000 * s.ob (0x1301 + i) 2)
    let d := s1.srdoData i
    { s1 with
      srdo := { s1.srdo with sentAt := Tab.set 0 s1.srdo.sentAt i s1.now }
      net := { s1.net with sent := .srdo s.srdoChan d.1 (2 ^ d.2 - 1 - d.1) :: s1.net.sent } }
  else s

end Sys2Proof.Machine
end

