-- ==== Sys2Proof/Machine/ClockOps.lean ====
section
/-! DEFINITION. The reference clock, SLOW and the watchdogs (R25 to R27, R64 to R67). -/

namespace Sys2Proof.Machine

/-- A tile runs: the part is out of RESET and the tile is present and not failed. -/
def State.tileRuns (s : State) (t : Nat) : Bool :=
  s.hasTile t && s.md.mode != .reset && (s.tile t).state != 2

/-- A reference-clock fault of a tile (R64 to R66): 1 missing edge, 2 unlock, 3 frequency. Holdover, the safe states of the
tile's loops, HOLD, and no way out but a reset. In holdover PLL_LOCKED stays as it was but for a loss of lock (DESIGN CHOICE, log
entry 144). -/
def State.refFault (s : State) (t kind : Nat) : State :=
  if s.tileRuns t = false then s
  else
    let c := s.clk
    let s1 : State :=
      { s with
        clk := { c with
          holdover := setBit c.holdover t, refLossCount := satAdd 16 c.refLossCount 1
          refPresent := if kind = 1 then clrBit c.refPresent t else c.refPresent
          pllLocked := if kind = 2 then clrBit c.pllLocked t else c.pllLocked } }
    let s2 := s1.report t srcClock 0x0101 5 t [kind]
    (s2.dangerous (s2.loopsOn t) t 0x0101 t true).markResetOnly

/-- REF_DEVIATION of a count over 256 SLOW periods, in 0.01 % of 25 MHz, nearest; the nominal count is 195,312.5 (R64,
R87). -/
def deviationOf (count : Nat) : Int := roundAway ((2 * (count : Int) - 390625) * 10000) 390625

/-- The count deviates from 25 MHz by more than 10 % (R64). -/
def frequencyBad (count : Nat) : Bool :=
  decide (10 * (2 * count) < 9 * 390625) || decide (11 * 390625 < 10 * (2 * count))

/-- The end of a REFCLK count (R64, R87); the check is suspended once SLOW has stopped (R67). -/
def State.frequencyCheck (s : State) (t count : Nat) : State :=
  if s.tileRuns t = false ∨ bit s.clk.slowOk t = false then s
  else
    let s1 : State := if t = 0 then
        { s with clk := { s.clk with refDeviation := clampI (deviationOf count) (-32768) 32767 } }
      else s
    if frequencyBad count then s1.refFault t 3 else s1

/-- SLOW of a tile stops (R67). -/
def State.slowStops (s : State) (t : Nat) : State :=
  if s.tileRuns t = false ∨ bit s.clk.slowOk t = false then s
  else
    let s1 : State := { s with clk := { s.clk with slowOk := clrBit s.clk.slowOk t } }
    s1.report t srcClock 0x0102 3 t []

/-- Watchdog expiries of a tile within the last second, the present one included (R27). -/
def State.recentExpiries (s : State) (t : Nat) : List Nat :=
  s.now :: (s.tile t).wdTimes.filter (fun x => decide (s.now < x + 500000000))

/-- A watchdog expires (R25, R27): the processor recovers; the third expiry within 1 s fails the tile. It is paused while
the processor is halted (R478), and an expiry of the proof test does not count toward R27 (R457). -/
def State.watchdog (s : State) (t : Nat) : State :=
  if s.tileRuns t = false ∨ (s.tile t).procHalted then s
  else
    let xs := s.recentExpiries t
    let s1 := s.updTile t (fun ti =>
      { ti with state := 1, wdCount := satAdd 32 ti.wdCount 1, wdTimes := if s.md.proofRunning then ti.wdTimes else xs })
    let s2 := s1.report t srcProc 0x0201 3 t [Nat.min xs.length 255]
    if s.md.proofRunning then s2 else if 3 ≤ xs.length then s2.failTile t 3 else s2

/-- A SYNC_IN edge (R295): the interval, the origin, and the state: locked once an interval is known, lost at the second
consecutive edge off the grid, which sets a new one. -/
def ClkGrp.syncEdge (c : ClkGrp) (t : Nat) : ClkGrp × Option Nat :=
  match c.syncLastEdge with
  | none => ({ c with syncLastEdge := some t }, none)
  | some p =>
    let d := t - p
    if d = 0 then (c, none)
    else
      let c1 : ClkGrp := { c with syncLastEdge := some t, syncInterval := fitN 16 (d : Nat), syncOrigin := fitN 16 (t % d : Nat) }
      match c.syncGrid with
      | none => ({ c1 with syncGrid := some (t, d), syncState := 1, syncOff := 0 }, none)
      | some (g, q) =>
        let r := (t - g) % q
        let dev := Nat.min r (q - r)
        if dev ≤ 2 then ({ c1 with syncGrid := some (t, q), syncState := 1, syncOff := 0 }, none)
        else if c.syncOff = 0 then ({ c1 with syncOff := 1 }, none)
        else if c.syncState = 2 then ({ c1 with syncGrid := some (t, d), syncOff := 0 }, none)
        else
          ({ c1 with syncGrid := some (t, d), syncOff := 0, syncState := 2, syncLost := satAdd 32 c.syncLost 1 }, some dev)

/-- The SYNC_IN input (R295): T is the edge less 4 ns and TRIM. -/
def State.syncIn (s : State) : State :=
  let m := s.ob 0x2100 1
  if s.md.mode = .reset ∨ ¬(m = 2 ∨ m = 3) then s
  else
    let r := s.clk.syncEdge ((s.now : Int) - 2 - s.obI 16 0x2102 2).toNat
    let s1 : State := { s with clk := r.1 }
    match r.2 with
    | some dev => s1.report 0 srcClock 0x020B 2 0xFFFF (two dev)
    | none => s1

/-- TIME (R71): latched where CLOCK_CFG selects the channel. -/
def State.timeRx (s : State) (c : CanChan) (v : Nat) : State :=
  if s.nmtHeard c && bit (s.ob 0x2100 2) (match c with | .a => 0 | .b => 1) then
    { s with clk := { s.clk with timeRx := v, timeRxAt := s.now } }
  else s

/-- One frame boundary with the network's part of it (R72, R497). -/
def State.frameBoundary (s : State) : State := if s.clk.running then s.frameWork.netFrame else s

end Sys2Proof.Machine
end

