-- ==== Sys2Proof/Machine/SeqOps.lean ====
section
/-! DEFINITION. What the sequencer commands do: TRELLIS steps, rail timers, retries, group shutdowns and system resets
(R345 to R370), and their deferral while a processor recovers (R25). -/

namespace Sys2Proof.Machine

/-! ### TRELLIS (R350 to R356) -/

/-- The sequence is active: in RUN, and in HOLD until the teardown is complete (R92, R101). -/
def State.seqActive (s : State) : Bool := s.md.mode == .run || (s.md.mode == .hold && !s.md.tornDown)

/-- An advance or a reversal on the line is counted, and the interval since the last one (R376, R533 source 10). -/
def State.stepped (s : State) : State :=
  let s1 := if s.seq.steps = 0 then s else s.histValue s.tileList 10 0xFFFF (((s.now - s.seq.lastStepAt) / 500 : Nat) : Int)
  { s1 with seq := { s1.seq with steps := wrapAdd 32 s1.seq.steps 1, lastStepAt := s.now } }

/-- An advance: counted, and followed by the mark from 0.5 µs to 2.5 µs after it; others may then hold the line (R351). -/
def State.marked (s : State) (others : Nat) : State :=
  let s1 := s.stepped
  { s1 with seq := { s1.seq with markEnd := s.now + 1250, freeAt := none, doneAt := [], others := others, stuck := false } }

/-- A requested reversal lets the present high become an advance: below TOP_STATE, where it came later than 1.5 µs after the
rising edge (R352). -/
def State.lateRequest (s : State) : Bool :=
  s.seq.reversing && !s.atTop && (match s.edgeAt with | some e => decide (e + 750 < s.seq.revAt) | none => false)

/-- An advance moves some tile: one below TOP_STATE upward, or one going down (R350, R353). -/
def State.moves (s : State) : Bool := s.tileList.any (fun t => (s.tileDir t == 1 && !s.topAt t) || s.tileDir t == 3)

/-- TRELLIS_ADVANCE (R350, R351, R353): the line, which every participant has released, has been high for 2.0 µs; with every
tile at TOP_STATE upward a high is no advance. `others`: the instant up to which another participant then holds it low. -/
def State.advance (s : State) (others : Nat) : State :=
  match s.edgeAt with
  | none => s
  | some e =>
    if s.seqActive = false ∨ s.seq.local_ ∨ s.released = false then s
    else if s.moves = false then { s with seq := { s.seq with others := others } }
    else if s.seq.reversing ∧ s.lateRequest = false then s
    else ((s.reach (e + 1000)).marked others).seqStep.noteLine

/-- TRELLIS_REVERSAL (R352, R368): the end of the hold of 200 µs after an aborted high; another participant's, where the part
requests none. `others`: the instant up to which another participant holds the line low after it. -/
def State.reverse (s : State) (others : Nat) : State :=
  if s.seqActive = false ∨ s.upward = false ∨ s.seq.local_ ∨ (s.seq.reversing ∧ s.holdAt.isNone) then s
  else
    let ext := if s.ob 0x4300 4 = 1 then DownCause.stop else .extReversal
    let c := if s.seq.reversing then s.md.downCause else worse s.md.downCause ext
    let s0 := if s.seq.reversing then s.reach ((s.holdAt.getD s.seq.revAt) + 100000) else s
    let s1 := s0.stepped
    let s2 := ({ s1 with
      md := { s1.md with downCause := c, substate := if s.md.mode = .hold then 6 else 4 }
      seq := { s1.seq with others := others } } : State).turnDown
    if s2.allZero then s2.atStateZero else s2.noteLine

/-- A local shutdown begins at the present state (R356). -/
def State.goLocal (s : State) : State :=
  let c := if s.md.mode = .hold then DownCause.hold else DownCause.stop
  let s1 : State :=
    { s with
      md := { s.md with downCause := worse s.md.downCause c, substate := if s.md.mode = .hold then 6 else 4 } }
  let s2 := if s1.seq.dir = 3 then s1 else s1.turnDown
  let s3 : State := { s2 with seq := { s2.seq with local_ := true } }
  if s3.allZero then s3.atStateZero else s3.progress

/-- TRELLIS_TIMEOUT (R356): STATE_MARGIN after the tile's work was done, or after the part released the line for its
reversal, which has found no rising edge, the line is still low. `others`: the instant up to which another participant holds
it low. -/
def State.lineTimeout (s : State) (t others : Nat) : State :=
  let since := if s.seq.reversing then (if s.atTop then none else s.seq.freeAt) else s.seq.doneAt.get none t
  match since with
  | none => s
  | some d =>
    let s0 := ({ s with seq := { s.seq with others := others } } : State).reach (d + 500000 * s.ob 0x4300 2)
    if s.tileRuns t = false ∨ s.seqActive = false ∨ s.seq.local_ ∨ s.tileDir t = 0 ∨ s0.lineHigh then s
    else
      let s1 := (s0.report t srcSeq 0x0908 4 0xFFFF [s.tileSt t, s.tileDir t]).failed 0xFF (s.tileSt t) 9
      let s2 : State :=
        { s1 with
          seq := { s1.seq with
            timeouts := satAdd 32 s1.seq.timeouts 1, stuck := true
            doneAt := s1.seq.doneAt.upd none t (fun o => o.map (fun _ => s1.now))
            freeAt := if s.seq.reversing then s1.seq.freeAt.map (fun _ => s1.now) else s1.seq.freeAt } }
      if s.md.mode = .hold ∨ s.ob 0x4300 3 = 1 then s2.goLocal else s2

/-- Tiles that go upward when the others go down already are not reached by a reversal any more: the stop turns them down
where they are (R355, DEDUCED, log entry 129). -/
def State.downWithOthers (s : State) : State :=
  if s.seq.dir = 3 then
    ({ s with
      seq := { s.seq with
        tileState := s.seq.tileState.updAll none s.tileList (fun _ o => o.map (fun p => (p.1, 3))) } } : State).noteLine
  else s

/-- STATE_REPORT (R355): a tile that disagrees is a fault and a stop; each tile then steps down from its own state. -/
def State.stateSeen (s : State) (t st dir : Nat) : State :=
  if s.tileRuns t = false ∨ s.seqActive = false then s
  else if st = s.seq.state ∧ dir = s.seq.dir then { s with seq := { s.seq with tileState := s.seq.tileState.set none t none } }
  else
    let s1 : State := { s with seq := { s.seq with tileState := s.seq.tileState.set none t (some (st, dir)) } }
    let m := bitmap (s1.tileList.filter (fun u => (s1.seq.tileState.get none u).isSome))
    (((s1.report 0 srcSeq 0x0909 4 0xFFFF [m]).failed 0xFF s.seq.state 10).requestDown .stop).downWithOthers

/-! ### Turning on (R357) -/

/-- The rail may be turned on now: its turn in the power-up, or in a retry; dependants of a retry come back in order of
state (R357, R362; the order is DEDUCED, log entry 128); a retry after an over-temperature shutdown waits for the end of the warning (R244). -/
def State.mayTurnOn (s : State) (n : Nat) : Bool :=
  let r := s.rail n
  s.md.mode == .run && s.tileDir (s.railTile n) == 1 && !s.seq.reversing && !s.seq.local_ && s.sequenced n && !r.on && r.groupOf.isNone &&
    ((r.status == 1 && s.inTurn n) ||
      (r.status == 6 && r.retryStep == 3 &&
        (match railLoop n with | some l => !r.otWait || (s.loop l).pr.otState == 0 | none => true)) ||
      (r.status == 6 && r.retryOf.isSome && r.discharged &&
        s.railList.all (fun m => (s.rail m).retryOf != r.retryOf || decide (s.rr n 0 2 ≤ s.rr m 0 2))))

/-- A parent's state is higher than the rail's own (R357). -/
def State.parentOrder (s : State) (n : Nat) : Option Nat := (s.parents n).find? (fun p => decide (s.rr n 0 2 < s.rr p 0 2))

/-- RAIL_TURN_ON (R357): turned on, kept off, or still waiting for a parent. -/
def State.turnOn (s : State) (n : Nat) : State :=
  if s.mayTurnOn n = false then s
  else
    let s1 := s.reach (s.rail n).onEnd
    match s1.parentOrder n with
    | some p =>
      let s2 := ((s1.railReport n 0x0902 3 [p]).failed n (s.rr n 0 2) 3).keptOff n 3
      (s2.keepDependants n).progress
    | none =>
      if (s1.parents n).any (fun p => s1.parentFailed p || s1.pathFault n p) then ((s1.keptOff n 2).keepDependants n).progress
      else if (s1.parents n).all (s1.parentGood n) then (s1.railOn n).updRail n (fun r => { r with retryOf := none })
      else s1

/-- PARENT_GOOD_NOTICE (R357): the declaration of rail n is known on tile t. -/
def State.parentNotice (s : State) (t n : Nat) : State :=
  if (s.rail n).declared ∧ bit s.link.mgmtFault (8 * t + s.railTile n) = false then
    { s with
      rails := s.rails.updAll {} (s.railList.filter (fun m => s.railTile m == t && (s.parents m).contains n))
        (fun _ r =>
          { r with knownGood := r.knownGood.filter (fun e => e.1 != n) ++ [(n, (s.rail n).goodAt)] }) }
  else s

/-! ### Declared good (R358, R360, R362) -/

/-- A retry whose rail is declared ends once none of its dependants is still to come back (R362). -/
def State.retryEnds (s : State) (n : Nat) : State :=
  if (s.rail n).retryStep = 4 ∧ (s.rail n).declared ∧ s.railList.all (fun m => (s.rail m).retryOf != some n) then
    (s.updRail n (fun r => { r with retryStep := 0, status := 4 })).finish n
  else s

/-- Every retry is looked at. -/
def State.retriesEnd (s : State) : State := (s.railList.filter (fun n => (s.rail n).retryStep == 4)).foldl State.retryEnds s

/-- The dependants of a retry whose last parent has just been declared: their ON_DELAY begins (R362). -/
def State.retryNext (s : State) (n : Nat) : State :=
  { s with
    rails := s.rails.updAll {}
      (s.railList.filter (fun m => (s.rail m).retryOf.isSome && (s.parents m).contains n &&
        (s.parents m).all (fun p => (s.rail p).declared)))
      (fun m r => { r with onEnd := s.railEnd m s.now (s.rr m 1 1) }) }

/-- The settle count of a rail reaches SETTLE: the spell of not good is over (R358, R360). It is hardware's and does not
wait for a processor (R370). -/
def State.settleDone (s : State) (n : Nat) : State :=
  if (s.rail n).on ∧ (s.rail n).settling then
    let s1 := s.reach (s.rail n).settleEnd
    s1.updRail n (fun r =>
      { r with settling := false, settled := true, filtering := false, badEnd := none, okSince := s1.now })
  else s

/-- RAIL_DECLARED_GOOD (R358, R360): the settle count has reached SETTLE; a running rail is good again. -/
def State.declareGood (s : State) (n : Nat) : State :=
  let s1 := s.settleDone n
  let r := s1.rail n
  let st := if r.retryStep = 4 ∨ r.status = 6 then 6 else if r.filtering then 5 else 4
  if r.on = false ∨ r.settled = false then s
  else if r.declared then (s1.updRail n (fun r => { r with settled := false, status := st })).progress
  else
    let s2 := s1.updRail n (fun r => { r with settled := false, declared := true, goodAt := s1.now, status := st })
    (s2.retryNext n).retriesEnd.progress

/-- RETRIES_USED_CLEAR (R362): declared good for 1 s without a break. -/
def State.clearRetries (s : State) (n : Nat) : State :=
  let r := s.rail n
  if r.declared ∧ r.good then (s.reach (r.okSince + 500000000)).updRail n (fun r => { r with retries := 0 }) else s

/-- PG_CHANGE (R348): PGj has held a level for `held` ticks, and its filter passes it once that is PG_FILTER. -/
def State.pgChanged (s : State) (n : Nat) (high : Bool) (held : Nat) : State :=
  if decide (n < 128) && s.hasRail n && decide (500 * s.rr n 0 0xA ≤ held) then
    let s1 : State := { s with pins := { s.pins with pg := s.pins.pg.set false n high } }
    if (s1.rail n).on then s1.railLook n else s1
  else s

/-! ### Running faults (R359, R360) -/

/-- The drop of a running rail is recorded and counted (R360). -/
def State.dropSeen (s : State) (n : Nat) : State :=
  (s.railReport n 0x0904 1 []).updRail n (fun r =>
    { r with
      drops := satAdd 32 r.drops 1, dropDue := r.dropDue - 1
      status := if r.status == 4 then 5 else r.status
      dropEnds := s.railEnd n s.now (s.rr n 1 8) :: r.dropEnds.filter (fun x => decide (s.now ≤ x)) })

/-- FAULT_DROPS drops within DROP_WINDOW (R360). -/
def State.dropFault (s : State) (n : Nat) : State :=
  if (s.rail n).declared ∧ s.rr n 2 4 ≤ (s.rail n).dropEnds.length then s.railFault n 5 false else s

/-- The good condition of the running rail has fallen. -/
def State.isDrop (s : State) (n : Nat) : Bool :=
  (s.rail n).on && ((s.rail n).declared || (s.rail n).settled) && (s.rail n).dropDue != 0

/-- RAIL_BAD_TIME (R360): once for each spell of not good. -/
def State.badTime (s : State) (n : Nat) : State :=
  let r := s.rail n
  match r.badEnd with
  | none => s
  | some d =>
    if r.on = false ∨ r.declared = false ∨ r.good then s
    else ((s.reach d).updRail n (fun r => { r with badEnd := none })).railFault n 4 false

/-- RAIL_DEADLINE (R241, R359, R362): not declared good in time; within its own retry the next retry starts at step 2. -/
def State.deadline (s : State) (n : Nat) : State :=
  let r := s.rail n
  if r.on = false ∨ r.declared ∨ r.noDeadline then s
  else
    let s1 := s.reach r.deadlineEnd
    if r.retryStep = 4 then
      if s.rr n 0 9 ≤ r.retries then ((s1.loopDown n).failRail n 7 0x0906 [r.retries]).retriesEnd.progress
      else (s1.loopDown n).retryRailOff n
    else ((s1.loopDown n).failRail n 1 0x0901 [s.rr n 0 2]).retriesEnd.progress

/-! ### Turning off and discharge (R362 to R364, R367) -/

/-- The dependants of a retry that go off now: those of the highest state that are still on or not discharged (R362). -/
def State.retryTurn (s : State) (m n : Nat) : Bool :=
  (s.dependants m).all (fun d =>
    (s.rail d).retryOf != some m || (!(s.rail d).on && (s.rail d).discharged) || decide (s.rr d 0 2 ≤ s.rr n 0 2))

/-- The OFF_DELAY end of a rail that is to go off now, and the status that it shows (R362, R363, R367). -/
def State.offDue (s : State) (n : Nat) : Option (Nat × Nat) :=
  let r := s.rail n
  if r.on = false then none
  else if s.railDown n then (if s.inTurn n then some (r.offEnd, 7) else none)
  else match r.groupOf, r.retryOf with
    | some g, _ => if s.rr n 0 2 = s.groupState g then some (r.offEnd, 7) else none
    | none, some m => if s.retryTurn m n then some (r.offEnd, 6) else none
    | none, none => none

/-- The group shutdown of rail g has moved on from a state: its next local step begins, or the reaction ends (R363). -/
def State.groupMoves (s : State) (g was : Nat) : State :=
  if (s.groupRails g).isEmpty ∨ s.groupState g < was then s.groupStep g else s

/-- What follows once a rail counts as discharged (R362 to R364, R367). -/
def State.dischargeDone (s : State) (n : Nat) : State :=
  let r := s.rail n
  let s1 := s.updRail n (fun r =>
    { r with
      discharged := true, groupOf := none
      onEnd := if r.retryStep == 2 then s.railEnd n s.now (s.rr n 1 1) else r.onEnd
      retryStep := if r.retryStep == 2 then 3 else r.retryStep
      status := if r.groupOf.isSome then 10 else if r.status == 7 then 0 else r.status })
  let s2 := match r.retryOf with
    | some m => if (s.rail m).retryStep = 1 then s1.retryOff m else s1
    | none => s1
  (match r.groupOf with
    | some g => s2.groupMoves g (s.groupState g)
    | none => s2).progress

/-- RAIL_DISCHARGED (R364). -/
def State.dischargedNow (s : State) (n : Nat) : State :=
  let r := s.rail n
  if r.on ∨ r.discharged ∨ s.dischargeCond n = false then s
  else (s.updRail n (fun r => { r with dischargedAt := s.now })).dischargeDone n

/-- What follows at once for a rail that was discharged as it went off (R364, R367). -/
def State.dischargeAtOnce (s : State) (n : Nat) : State := if (s.rail n).discharged then s.dischargeDone n else s

/-- The phases of a loop rail go off at the next PWM clock (R225). -/
def State.offNextClock (s : State) (n : Nat) : Bool :=
  match railLoop n with
  | some l => s.lo l 9 2 == 1
  | none => false

/-- RAIL_TURN_OFF (R362, R363, R367). -/
def State.turnOff (s : State) (n : Nat) : State :=
  match s.offDue n with
  | some (t, st) =>
    let s1 := ((s.reach t).railOff n st).dischargeAtOnce n
    if s.offNextClock n then s1.reach (t + 1) else s1
  | none => s

/-- DISCHARGE_TIMEOUT (R364): recorded, and taken as discharged. -/
def State.dischargeTimesOut (s : State) (n : Nat) : State :=
  let r := s.rail n
  if r.on ∨ r.discharged then s
  else
    let s1 := (s.reach r.dischargeEnd).railReport n 0x0907 2 []
    (s1.updRail n (fun r => { r with lastCause := 8 })).dischargeDone n

/-! ### System reset (R366) -/

/-- RESET_PULSE_END (R366 step 3). -/
def State.resetPulseEnd (s : State) : State :=
  if s.seq.pulse then
    let s1 := s.reach (s.seq.sysresetAt + 500000 * s.ob 0x4300 5)
    { s1 with
      seq := { s1.seq with
        pulse := false, sysreset := if s.seq.sysreset = 2 then 3 else s.seq.sysreset
        sysresetAt := if s.seq.sysreset = 2 then s1.now else s.seq.sysresetAt } }
  else s

/-- SYSRESET_RESTART (R366 step 4). -/
def State.sysRestart (s : State) : State :=
  if s.seq.sysreset = 3 ∧ s.md.mode = .run then (s.reach (s.seq.sysresetAt + 500000 * s.ob 0x2000 0x0B)).seqStart else s

/-- SYSRESET_COUNT_CLEAR (R366): the sequence has been up for 1 s. -/
def State.sysCountClear (s : State) : State :=
  match s.isUp, s.edgeAt with
  | true, some e =>
    let s1 := s.reach (e + 500000000)
    { s1 with seq := { s1.seq with sysresets := 0 } }
  | _, _ => s

/-! ### Deferral during a recovery (R25, R370) -/

/-- A rail's drop, as its hardware and its filter see it. -/
def State.railDropped (s : State) (n : Nat) : State := if s.isDrop n then (s.dropSeen n).dropFault n else s

/-- The rail outcomes that wait for a recovering processor, as they are acted on afterward. -/
def State.railOutcome (s : State) (i : Instr) : State :=
  match i with
  | .railTurnOn n => s.turnOn n
  | .railDeclaredGood n => s.declareGood n
  | .railDrop n => s.dropFault n
  | .railBadTime n => s.badTime n
  | .railDeadline n => s.deadline n
  | .railTurnOff n => s.turnOff n
  | .railDischarged n => s.dischargedNow n
  | .dischargeTimeout n => s.dischargeTimesOut n
  | _ => s

/-- What has waited for a recovering processor is acted on (R25). -/
def State.deferred (s : State) (d : Deferred) : State :=
  match d with
  | .outcome i => s.railOutcome i
  | .loopFault n => if (s.rail n).on then s.railFault n 6 true else s
  | .keepOff n cause => s.keptOff n cause

/-- A rail outcome comes due: acted on by a running processor, kept in order by a recovering one. Rails that are not
sequenced, or whose tile has failed, give none (R27, R345). -/
def State.railDue (s : State) (n : Nat) (i : Instr) : State :=
  let t := s.railTile n
  if s.hasRail n = false ∨ s.sequenced n = false ∨ s.seqActive = false ∨ (s.tile t).state = 2 then s
  else if (s.tile t).state = 1 then
    (if i = .railDeclaredGood n then s.settleDone n else s).updTile t (fun ti => { ti with waiting := ti.waiting ++ [.outcome i] })
  else s.railOutcome i

/-- RAIL_DROP: recorded at once; the reaction waits for the processor. -/
def State.railDropDue (s : State) (n : Nat) : State :=
  if s.hasRail n = false ∨ s.sequenced n = false ∨ s.isDrop n = false then s
  else (s.dropSeen n).railDue n (.railDrop n)

/-- A queued reaction of a target with none in progress is taken (R389). -/
def State.takeWaiting (s : State) (n : Nat) : State :=
  if (s.target n).cur.isNone && !(s.target n).queue.isEmpty then s.takeQueued n (s.target n).queue else s

/-- PROCESSOR_RECOVERED (R25): the tile runs again and acts on what came due, in order of occurrence, and on the rail reactions that
waited in their queues. -/
def State.recovered (s : State) (t : Nat) : State :=
  if s.hasTile t = false ∨ (s.tile t).state ≠ 1 then s
  else
    let due := (s.tile t).waiting
    let s1 := s.updTile t (fun ti => { ti with state := 0, waiting := [] })
    let s2 := due.foldl State.deferred s1
    let ns := s.railList.filter (fun n => s.railTile n == t)
    (ns.foldl State.takeWaiting s2).progress

end Sys2Proof.Machine
end

