-- ==== Sys2Proof/Machine/EdgeOps.lean ====
section
/-! DEFINITION. What the commands of the PWM generator do: edge decisions, carrier zeros, loop carrier boundaries,
read-back, truncations, trips and their release, SAFE_IN#, and the debug halt (R135 to R138, R158 to R181, R193 to R196,
R221, R294, R451). -/

namespace Sys2Proof.Machine

/-! ### Edge decisions (R135 to R138, R168) -/

/-- The decision point of the coming edge of a phase with the command that is in use from `a` on (R136): the first PWM clock from
`a` and from the edge frozen last at which clock + D reaches the edge. -/
def State.decisionFrom (s : State) (p : Nat) (ph : Phase) (a : Nat) : Nat :=
  let z : Int := (ph.zeroAt : Nat)
  let lead : Int := (ph.cfg.lead : Nat)
  let edge := (s.decideOn p ph a).ed.lastEdge
  Nat.max a (max (z + floorDiv ph.ed.lastEdge 32) (z + floorDiv (edge + 31) 32 - lead)).toNat

/-- The instant of the decision: the first one that comes before the next change of the command (R136). -/
def State.decisionTime (s : State) (p : Nat) (ph : Phase) : List Nat → Nat × Nat
  | [] => (s.now, s.now)
  | [a] => (a, s.decisionFrom p ph a)
  | a :: b :: rest =>
    if s.decisionFrom p ph a < b then (a, s.decisionFrom p ph a) else s.decisionTime p ph (b :: rest)

/-- The rising edge of the coming period of a phase whose present edges are frozen: it is frozen with the command in use at its
decision point where that comes before the carrier zero (R136). -/
def State.freezeAhead (s : State) (p : Nat) : State :=
  let ph := s.phase p
  if ph.decided && ph.ed.ahead.isNone && !ph.stopping then
    let next := ph.atZero ph.nextZero (s.phaseNow p) ph.offset none
    let d := s.decisionTime p next (s.dutyTimes p)
    if d.2 < ph.nextZero then
      (s.reach d.2).updPhase p (fun ph => { ph with ed := { ph.ed with ahead := some (s.commandOn p next d.1) } })
    else s
  else s

/-- EDGE_DECISION (R136): the edge is frozen at its decision point with the freshest command. -/
def State.edgeDecision (s : State) (p : Nat) : State :=
  let ph := s.phase p
  if s.hasPhase p && s.driven p then
    if ph.decided then s.freezeAhead p
    else
      let d := s.decisionTime p ph (s.dutyTimes p)
      (s.reach d.2).updPhase p (fun _ => s.decideEdge p d.1)
  else s

/-! ### Carrier zeros and loop carrier boundaries (R158, R193 to R196, R294) -/

/-- The first carrier zero at or after the present time (R158, R160). -/
def Phase.zeroAfter (ph : Phase) (now : Nat) : Nat :=
  let z := ph.nextZero
  if now ≤ z then z else nextCongruent now (z % (2 * ph.cfg.half)) (2 * ph.cfg.half)

/-- The offset that a phase of a loop moves to after a change of its carrier period (R196). -/
def State.newOffset (s : State) (p : Nat) (cfg : PhaseCfg) : Option Nat :=
  if cfg.half = (s.phase p).cfg.half then none
  else match s.loopOf p with
    | some l => ((s.spreadList l (s.loop l).pp.active).find? (fun e => e.1 == p)).map (·.2)
    | none => none

/-- A loop that has woken begins its next burst at this carrier zero of its active phase; on a tile that has lost a sample the
slot stays off. A burst under way has one carrier period less to come (R210, R212, R288). -/
def State.burstZero (s : State) (p z : Nat) : State :=
  match s.loopOf p with
  | some l =>
    let lost := match (s.loop l).pr.own.get none (p / 16) with | some r => r.stopped | none => false
    (match (s.loop l).pp.burstFrom with
      | some t => if (s.loop l).pp.burst = 2 ∧ t ≤ z ∧ s.burstPhase l = p ∧ lost = false then s.beginBurst l else s
      | none =>
        if (s.loop l).pp.burst = 1 ∧ s.burstPhase l = p then
          s.updLoop l (fun lp => { lp with pp := { lp.pp with burstLeft := lp.pp.burstLeft - 1 } })
        else s)
  | none => s

/-- CARRIER_ZERO (R72, R158, R178, R194 to R196). The zero at which an event tap swaps counts under its old setting (DESIGN
CHOICE, log entry 111). -/
def State.carrierZero (s : State) (p : Nat) : State :=
  let ph := s.phase p
  if s.hasPhase p && ph.on && !ph.frozen && !ph.reload && !s.md.halted then
    let z := ph.zeroAfter s.now
    let sa := if s.driven p && decide (s.now < z) then s.freezeAhead p else s
    let sz := sa.reach z
    let stops := decide (ph.stopping ∧ ph.stopFrom ≤ z)
    let s1 := (sz.noteEdges [p] (fun p => stops && sz.ballsLive p)).flushTaps p
    if stops then
      let s2 := s1.phasesSwapped [p]
      (s2.updPhase p (fun ph => ({ ph with cfg := s2.phaseNow p } : Phase).off)).burstZero p z
    else
      let s2 := (s1.tap p 0 z).phasesSwapped [p]
      let cfg := s2.phaseNow p
      let o := s2.newOffset p cfg
      (s2.updPhase p (fun ph => s2.zeroed p ph z cfg (o.getD ph.offset) o)).burstZero p z
  else s

/-- SYNC_OUT goes high 4 ns after a carrier boundary of the loop that SYNC:01 names, for 16 ns (R294). -/
def State.syncOut (s : State) (l b : Nat) : State :=
  let m := s.ob 0x2100 1
  if (m = 1 ∨ m = 3) ∧ s.ob 0x2102 1 = l ∧ s.md.mode ≠ .reset then
    { s with clk := { s.clk with syncOutUntil := b + 10 } }
  else s

/-- LOOP_CARRIER_BOUNDARY (R193, R194, R294). -/
def State.carrierBoundary (s : State) (l : Nat) : State :=
  if s.hasLoop l && s.clk.running then
    let b := nextCongruent s.now (s.spreadBase l) (s.period l)
    let s1 := (s.reach b).syncOut l b
    if s1.enabled l then s1.applyDue l else s1
  else s

/-! ### Read-back (R94, R164, R176, R177, R224) -/

/-- The instant of the next read-back (R177): carrier zero, top, and 12 ns after each edge that the part commands. -/
def State.readbackAt (s : State) (p : Nat) : Nat :=
  let ph := s.phase p
  let cand := [ph.zeroAt, ph.zeroAt + ph.cfg.half] ++ (s.edgePairs p).map (fun e => e.1.toNat / 32 + 6)
  ((cand.filter (fun t => decide (s.now ≤ t))).min?).getD s.now

/-- Commanded and read level differ; a ball at high impedance, or not read, is not compared. -/
def differs (cmd read : Option Bool) : Bool :=
  match cmd, read with
  | some a, some b => a != b
  | _, _ => false

/-- Output-stuck fault of phase p (R177): 0 PWMH, 1 PWML. -/
def State.outputStuck (s : State) (p ball : Nat) : State :=
  let s1 := s.updPhase p (fun ph => { ph with ct := { ph.ct with stuck := true } })
  let s2 := s1.report (p / 16) (p % 16) 0x0602 5 p [ball]
  match s.loopOf p with
  | some l => s2.dangerous [l] (p / 16) 0x0602 p false
  | none => (s2.updPhase p Phase.off).dangerous [] (p / 16) 0x0602 p false

/-- READBACK_SAMPLE (R177): a mismatch in two consecutive carrier periods is an output-stuck fault. -/
def State.readback (s : State) (p : Nat) (high low : Option Bool) : State :=
  let ph := s.phase p
  if s.hasPhase p && ph.on && ph.zeroSeen && !ph.frozen && !ph.reload && !s.md.halted then
    let s1 := s.reach (s.readbackAt p)
    let b := s1.balls p
    let h := differs b.1 high
    if h || differs b.2 low then
      let s2 := s1.updPhase p (fun ph => { ph with ct := { ph.ct with badNow := true } })
      if ph.ct.badLast && !ph.ct.stuck then s2.outputStuck p (if h then 0 else 1) else s2
    else s1
  else s

/-! ### Truncation and trips (R172 to R175, R180, R221) -/

/-- Some phases are truncated by a trip input (R174, R175). -/
def State.truncateAll (s : State) (ps : List Nat) : State :=
  let s1 := ps.foldl State.abortLearnOf (s.noteEdges ps (fun p => (s.balls p).1 == some true))
  ps.foldl (fun s p => s.cutPhase p false) s1

/-- "Trip input asserted" (R175, R405). -/
def State.tripRecord (s : State) (t src act : Nat) : State := s.report t src 0x0506 2 src [act]

/-- TRIPn is asserted (R175): one event for each assertion of an enabled trip, and its action. -/
def State.tripOn (s : State) (t n : Nat) : State :=
  if s.hasTile t && decide (n < 2) then
    let act := s.ob (0x3800 + 16 * t) (3 + n)
    let ps := s.tripPhases t n
    let was := s.pins.tripSeen.get false (8 * t + n)
    let s1 : State := { s with pins := { s.pins with tripSeen := s.pins.tripSeen.set false (8 * t + n) true } }
    if s.md.mode = .reset ∨ act = 0 then s1
    else
      let s2 := if was then s1 else s1.tripRecord t (122 + n) act
      if act = 1 then s2.truncateAll ps
      else if act = 2 then s2.tripOffSet ps n
      else s2.enterSafeAll (s2.loopsHolding ps) 3 0x0506
  else s

/-- SFLTk acts (R175, R180): one event for each of its assertions. -/
def State.sfltOn (s : State) (t k : Nat) : State :=
  if s.hasTile t && decide (k < 4) then
    let act := s.ob (0x3800 + 16 * t) 7
    let ps := s.sfltPhases t k
    let was := s.pins.sfltSeen.get false (4 * t + k)
    let s1 : State := { s with pins := { s.pins with sfltSeen := s.pins.sfltSeen.set false (4 * t + k) true } }
    if s.md.mode = .reset ∨ (s.md.halted ∧ s.obAt t 0x3880 1 = 0) then s1
    else
      let s2 := if was then s1 else s1.tripRecord t (118 + k) act
      if s.md.halted then { s2 with phases := s2.phases.updAll {} ps (fun _ ph => { ph with haltOff := true }) }
      else if act = 1 then s2.tripOffSet ps 2
      else if act = 2 then s2.enterSafeAll (s2.loopsHolding ps) 3 0x0506
      else s2
  else s

/-- SFLT_ASSERT (R173, R175): SFLTk is asserted anew and acts, unless a blanking window is open. -/
def State.sfltPin (s : State) (t k : Nat) : State :=
  if s.hasTile t && decide (k < 4) then
    let s1 : State :=
      { s with
        pins := { s.pins with
          sflt := s.pins.sflt.set false (4 * t + k) true, sfltSeen := s.pins.sfltSeen.set false (4 * t + k) false } }
    if s1.blanked t (.sflt k) then s1 else s1.sfltOn t k
  else s

/-- TRIP_ASSERT (R173, R175): TRIPn takes a level; an active one acts, unless a blanking window is open, and an inactive one ends
the assertion. -/
def State.tripPin (s : State) (t n : Nat) (level : Bool) : State :=
  if s.hasTile t && decide (n < 2) then
    let s1 : State := { s with pins := { s.pins with trip := s.pins.trip.set false (8 * t + n) level } }
    if s1.tripLevel t n = false then { s1 with pins := { s1.pins with tripSeen := s1.pins.tripSeen.set false (8 * t + n) false } }
    else if s1.blanked t (.trip n) then s1
    else s1.tripOn t n
  else s

/-- SAFE_IN# goes low and acts (R451): every phase off, the loops in STATE 1 to 5 to their safe states, and HOLD from
RUN. A phase frozen by a debug halt stays off until the halt ends (R180), and one that runs on after a soft stop stops. -/
def State.safeLow (s : State) : State :=
  if s.pins.safeIn = false then s
  else
    let ps := s.phaseList.filter (fun p => (s.phase p).on)
    let sn := ps.foldl State.flushTaps (s.noteEdges ps s.ballsLive)
    let s0 : State :=
      { sn with
        phases := sn.phases.updAll {} ps (fun _ ph => if ph.frozen then { ph with haltOff := true } else if ph.stopping then ph.off else ph) }
    let s1 : State := { s0 with pins := { s0.pins with safeIn := false } }
    if s.md.mode = .reset then s1
    else
      let s2 := s1.report 0 srcSafety 0x0C01 5 0xFFFF []
      let ls := s2.loopList.filter (fun l => s2.enabled l && decide (1 ≤ (s2.loop l).state) && decide ((s2.loop l).state ≤ 5))
      if s.md.mode = .run then s2.dangerous ls 0 0x0C01 0xFFFF true else s2.enterSafeAll ls 5 0x0C01

/-- SAFE_IN# is released (R451): a phase in no loop switches again from its next carrier zero. -/
def State.safeHigh (s : State) : State :=
  if s.pins.safeIn then s
  else
    { s with
      pins := { s.pins with safeIn := true }
      phases := s.phases.updAll {} (s.phaseList.filter (fun p => s.manual p && (s.phase p).on))
        (fun _ ph => if ph.frozen then ph else ph.resume (32 * (s.now - ph.zeroAt))) }

/-- A trip condition acts. -/
def State.tripActs (s : State) (t : Nat) (i : TripInput) : State :=
  match i with
  | .trip n => s.tripOn t n
  | .sflt k => s.sfltOn t k
  | .oc q => s.ocTruncate (16 * t + q)
  | .safeIn => s.safeLow

/-- BLANKING_WINDOW_END (R173): the open window closes, and a condition still present acts. -/
def State.windowEnds (s : State) (t : Nat) (i : TripInput) (present : Bool) : State :=
  if s.hasTile t then
    let s1 := s.reach ((s.openUntil t i s.now).getD s.now)
    if present then s1.tripActs t i else s1
  else s

/-- TRIP_RELEASE (R175): an input has been inactive for 1 µs. -/
def State.tripReleased (s : State) (t : Nat) (i : TripInput) : State :=
  if s.hasTile t = false then s
  else match i with
    | .trip n =>
      let s1 : State :=
        { s with
          pins := { s.pins with
            trip := s.pins.trip.set false (8 * t + n) (s.ob (0x3800 + 16 * t) (1 + n) == 1)
            tripSeen := s.pins.tripSeen.set false (8 * t + n) false } }
      s1.tripOffClear (s.tripPhases t n) n
    | .sflt k =>
      let s1 : State :=
        { s with
          pins := { s.pins with
            sflt := s.pins.sflt.set false (4 * t + k) false, sfltSeen := s.pins.sfltSeen.set false (4 * t + k) false } }
      s1.tripOffClear (s.sfltPhases t k) 2
    | .oc _ => s
    | .safeIn => s.safeHigh

/-- TRIPn of tile t causes severity-3 safe states of loop l (R221). -/
def State.tripEnds (s : State) (l t n : Nat) : Bool :=
  s.ob (0x3800 + 16 * t) (3 + n) == 3 && (s.tripPhases t n).any (fun p => bit (s.phaseSet l) p)

/-- Every trip input that causes severity-3 safe states of loop l is inactive (R221). -/
def State.tripInputsEnd (s : State) (l : Nat) : State :=
  { s with
    pins := { s.pins with
      trip := (s.tilesOf l).foldl (fun m t => ([0, 1]).foldl (fun m n =>
        if s.tripEnds l t n then Tab.set false m (8 * t + n) (s.ob (0x3800 + 16 * t) (1 + n) == 1) else m) m) s.pins.trip
      tripSeen := (s.tilesOf l).foldl (fun m t => ([0, 1]).foldl (fun m n =>
        if s.tripEnds l t n then Tab.set false m (8 * t + n) false else m) m) s.pins.tripSeen
      sflt := (s.tilesOf l).foldl (fun m t =>
        if s.ob (0x3800 + 16 * t) 7 = 2 then Tab.set false m (4 * t + s.slotOf l t) false else m) s.pins.sflt
      sfltSeen := (s.tilesOf l).foldl (fun m t =>
        if s.ob (0x3800 + 16 * t) 7 = 2 then Tab.set false m (4 * t + s.slotOf l t) false else m) s.pins.sfltSeen } }

/-- The off-time that follows a severity-3 safe state (R221): one hiccup toward HICCUP_MAX, or the latch-off there. It counts
neither in HICCUP_TOTAL nor as a record 0x0501 (DESIGN CHOICE, log entry 121). -/
def State.tripOffTime (s : State) (l : Nat) : State :=
  if s.lo l 0xE 3 ≤ (s.loop l).pr.hiccups then s.latchOff l
  else
    (s.updLoop l (fun lp =>
      { lp with
        state := 4
        pr := { lp.pr with
          hiccups := satAdd 8 lp.pr.hiccups 1, inHiccup := true, offUntil := s.now + 500 * s.lo l 0xE 2 } })).begin
      (loopTarget l) 3 0x0501

/-- SAFE_STATE_TRIP_RELEASE (R221): a loop whose rail is on runs an off-time and a soft start; one whose rail is off
returns to STATE 0. -/
def State.safeTripRelease (s : State) (l : Nat) : State :=
  if s.hasLoop l && s.loopSafe l && (s.loop l).pr.safeSev == 3 then
    let s1 := (s.tripInputsEnd l).loopCleared l
    if (s.rail (128 + l)).on && s.md.mode == .run then s1.tripOffTime l else s1
  else s

/-! ### Debug halt (R179 to R181, R478) -/

/-- DEBUG_HALT (R179): only on a part without the FIELD fuse, and only in SERVICE. The balls keep their levels, or the phases
go off. -/
def State.debugHalt (s : State) : State :=
  if s.md.mode = .service ∧ s.sec.field = false ∧ s.md.halted = false then
    let ps := s.phaseList.filter (fun p => (s.phase p).on)
    let s1 := ps.foldl State.flushTaps (s.noteEdges ps (fun p => s.obAt (p / 16) 0x3880 2 == 1 && s.ballsLive p))
    { s1 with
      md := { s1.md with halted := true }
      phases := s1.phases.updAll {} ps (fun p ph =>
        { ph with
          frozen := true, haltBalls := some (s1.balls p), haltCut := none, haltOff := s1.obAt (p / 16) 0x3880 2 == 1 })
      tiles := s1.tiles.updAll {} s1.tileList (fun _ ti => { ti with procHalted := true }) }
  else s

/-- The halt of a phase ends (R181): it goes off, and unless it was written 0 meanwhile it waits for the reload of its
counter. -/
def Phase.thaw (ph : Phase) : Phase :=
  let ph1 := { ph with frozen := false, haltOff := false, haltBalls := none, haltCut := none }
  if ph.on then (if ph.stopping then ph1.off else { ph1.off with on := true, reload := true }) else ph1

/-- HALT_END (R181): every frozen phase goes off and waits for the reload of its counter at the next frame boundary. -/
def State.haltEnd (s : State) : State :=
  if s.md.halted then
    let s1 := s.noteEdges (s.phaseList.filter (fun p => (s.phase p).frozen)) s.ballsLive
    { s1 with
      md := { s.md with halted := false }
      phases := s.phases.updAll {} s.phaseList (fun _ ph => ph.thaw)
      tiles := s.tiles.updAll {} s.tileList (fun _ ti => { ti with procHalted := false }) }
  else s

/-! ### Writes with a row of their own -/

/-- A dictionary write to subindex `sub` of an instance; an instance that the part does not have is no object of the
dictionary (R492 check 1). -/
def State.writeAt (s : State) (ok : Bool) (ch : Chan) (idx sub len v : Nat) : State :=
  s.write ch (if ok then idx else 0) sub len v

end Sys2Proof.Machine
end

