-- ==== Sys2Proof/Machine/TransOps.lean ====
section
/-! DEFINITION. What the commands of phase population, transients and output protection do: dwell, share events, burst,
the soft-start hold, Canopy, previews, hiccup, over-temperature restart, undervoltage reports and the end of "low sides
on" (R197 to R213, R223, R226 to R244, R441, R448). -/

namespace Sys2Proof.Machine

/-- An enabled loop of the part. -/
def State.loopIs (s : State) (l : Nat) : Bool := s.hasLoop l && s.enabled l

/-! ### Shedding, share events, learning -/

/-- min(C_level, BUDGET) for the level that a completed dwell gives, with the settings under which the dwell began (R74, R191,
R197). -/
def State.dwellCap (s : State) (l : Nat) (lam : Int) : Nat :=
  let c := (s.loop l).pp.dwellCfg
  let n := if s.lo l 0xC 1 = 0 then noCap
    else match c.levels.find? (fun e => (e.1 : Int) == lam) with
      | some e => e.2.2
      | none => c.min
  s.capFor l n

/-- SHED_DWELL_EXPIRY (R198 step 2): the dwell count has reached DWELL. -/
def State.dwellExpiry (s : State) (l : Nat) : State :=
  let pp := (s.loop l).pp
  if s.loopIs l && (s.loop l).state == 2 && !s.learning l && !(s.loop l).previewing && decide (0 ≤ pp.level) &&
      decide (0 < pp.dwell) && decide (pp.dwellCfg.len ≤ pp.dwell) && !pp.trigFrame then
    let c := pp.dwellCfg
    let lam := (s.levelFor l c.levels 0 c.hyst).getD (-1)
    let s1 := s.updLoop l (fun lp =>
      { lp with
        pp := { lp.pp.decide_ (s.decision l (s.dwellCap l lam) lp.pp.mark lp.pp.level ((s.frame + 1) * ticksPerFrame) true) with
          level := lam, dwell := 0, keep := false } })
    s1.levelRecord l pp.level lam (s.capCount l (s.dwellCap l lam) pp.mark)
  else s

/-- TRIM_LEARN_ITERATION (R207): the frames of an iteration have passed. -/
def State.learnEnds (s : State) (l : Nat) : State :=
  if s.loopIs l && s.learning l && decide (s.learnLength l ≤ (s.loop l).pp.learnFrames) then s.learnIteration l else s

/-- SHARE_EVENT (R205). -/
def State.shareTells (s : State) (p : Nat) : State :=
  let tl := (s.phase p).tl
  match s.loopOf p, tl.share with
  | some l, some e =>
    if s.hasPhase p && s.monitored l && !tl.shareTold && decide (s.lo l 0x10 0xD ≤ tl.shareRun) then
      let s1 := s.updPhase p (fun ph => { ph with tl := { ph.tl with shareTold := true } })
      (s1.report (p / 16) (p % 16) 0x0601 2 p (two (ofInt 16 e))).latch l 14
    else s
  | _, _ => s

/-! ### Burst (R209 to R213) -/

/-- BURST_ENTRY (R209): at the next carrier zero of the active phase, which begins the first burst. -/
def State.burstEnters (s : State) (l : Nat) : State :=
  if s.loopIs l && s.burstFit l && (s.loop l).pp.burst == 0 && (s.loop l).ac.action == 0 && !(s.loop l).previewing && decide (s.lo l 0xD 4 ≤ (s.loop l).pp.burstDwell) then
    let z := (s.phase (s.burstPhase l)).zeroAfter s.now
    let s1 := ((s.reach z).updLoop l (fun lp => { lp with state := 3, pp := { lp.pp with shortSleeps := 0 } })).beginBurst l
    (s1.loopReport srcReg l 0x0309 0 [1, 0]).manageLoop l
  else s

/-- BURST_SLEEP (R210): the zero that ends the burst; every phase is off. BURST_COUNT counts there, as in the section's example
(DEDUCED, log entry 138). -/
def State.burstSleeps (s : State) (l : Nat) : State :=
  if s.loopIs l && (s.loop l).pp.burst == 1 then
    let s0 := s.reach (s.burstEnd l)
    let s1 := (s.phasesOf l).foldl State.flushTaps (s0.noteEdges (s.phasesOf l) s0.ballsLive)
    s1.updLoop l (fun lp =>
      { lp with
        pp := { lp.pp with
          burst := 2, burstFrom := none, sleepAt := s1.now, burstCount := wrapAdd 32 lp.pp.burstCount 1 } })
  else s

/-- The cause of a burst exit holds (R213); those that another mechanism brings are its own concern. -/
def State.exitHolds (s : State) (l : Nat) : BurstExitCause → Bool
  | .forbidden => s.lo l 0xD 1 == 0 || s.lo l 0xD 2 == 0
  | .shortSleeps => decide (s.lo l 0xD 9 ≤ (s.loop l).pp.shortSleeps)
  | _ => true

/-- The code of a burst exit (R213). -/
def exitCode : BurstExitCause → Nat
  | .preview => 1 | .canopy => 2 | .forbidden => 3 | .shortSleeps => 4 | .precedence => 5

/-- BURST_EXIT (R213). -/
def State.burstExits (s : State) (l : Nat) (cause : BurstExitCause) : State :=
  if s.loopIs l && (s.loop l).pp.burst != 0 && s.exitHolds l cause then s.endBurst l (exitCode cause) else s

/-! ### Soft start, Canopy, preview -/

/-- SOFT_START_HOLD_TIMEOUT (R223). -/
def State.holdTimeout (s : State) (l : Nat) : State :=
  let lp := s.loop l
  if s.loopIs l && lp.state == 1 && lp.tg.holdAbove then (s.reach (lp.tg.startAt + 500 * lp.tg.onRamp)).holdEnds l else s

/-- CANOPY_TRIGGER (R226 to R228): a crossing of the undervoltage comparator. -/
def State.canopyCross (s : State) (l : Nat) : State :=
  if s.loopIs l && bit (s.lo l 0xA 1) 0 then s.canopyTrigger l 1 (s.loop l).cp.u1 else s

/-- CANOPY_MAX_TIME (R230, R231). -/
def State.canopyTimeout (s : State) (l : Nat) : State :=
  let ac := (s.loop l).ac
  match ac.actCfg with
  | some c => if s.loopIs l && ac.action != 0 then (s.reach (ac.actAt + c.maxTime)).releaseAction l else s
  | none => s

/-- An LPREV edge on one loop (R225, R233, R234): merged, whatever the STATE (DESIGN CHOICE, log entry 148), fired, or unarmed. -/
def State.lprev (s : State) (l : Nat) : State :=
  let pv := (s.loop l).pv
  let merged : Bool := match pv.lastFire with
    | some t => decide (s.now < t + 50 * s.lo l 0xB 8)
    | none => false
  if merged then
    let s1 := s.updLoop l (fun lp => { lp with pv := { lp.pv with merged := satAdd 32 lp.pv.merged 1 } })
    (s1.loopReport srcTrans l 0x0406 0 []).latch l 4
  else
    let unarmed (s : State) : State :=
      let s1 := s.updLoop l (fun lp => { lp with pv := { lp.pv with unarmed := satAdd 32 lp.pv.unarmed 1 } })
      (s1.loopReport srcTrans l 0x0405 2 []).latch l 3
    match pv.armed with
    | some p => if (s.loop l).state = 2 ∨ (s.loop l).state = 3 then s.firePreview l p else unarmed s
    | none => unarmed s

/-- LPREV_EDGE (R234): every loop anchored on the tile. -/
def State.lprevEdge (s : State) (t : Nat) : State :=
  if s.hasTile t && s.md.mode != .reset then
    (s.loopList.filter (fun l => s.enabled l && s.anchor l == t)).foldl State.lprev s
  else s

/-- The fired preview that is applied next: the earliest instant of application, the earlier firing first. -/
def nextApply (fs : List Fired) : Option Fired :=
  (fs.filter (fun f => !f.applied)).foldl (fun b f => match b with
    | some x => if f.applyAt < x.applyAt then some f else b
    | none => some f) none

/-- PREVIEW_APPLY (R235): the offset is in force from P + lead; an earlier preview ends there. -/
def State.applyPreview (s : State) (l : Nat) : State :=
  match nextApply (s.loop l).pv.fired with
  | none => s
  | some f =>
    if s.loopIs l then
      let fs := (s.loop l).pv.fired
      let later := fs.dropWhile (fun g => g != f)
      let old := fs.length - later.length
      let s1 := (s.reach f.applyAt).updLoop l (fun lp =>
        { lp with pv := { lp.pv with fired := later.map (fun g => if g = f then { g with applied := true } else g) } })
      (List.range old).foldl (fun s _ => s.loopReport srcTrans l 0x0407 1 [2]) s1
    else s

/-- The applied preview that ends first. -/
def nextEnd (fs : List Fired) : Option Fired :=
  (fs.filter (·.applied)).foldl (fun b f => match b with
    | some x => if f.endAt < x.endAt then some f else b
    | none => some f) none

/-- PREVIEW_END (R235): the offset is removed and the preview is consumed. -/
def State.endPreview (s : State) (l : Nat) : State :=
  match nextEnd (s.loop l).pv.fired with
  | none => s
  | some f =>
    if s.loopIs l then
      let s1 := (s.reach f.endAt).updLoop l (fun lp =>
        { lp with pv := { lp.pv with fired := lp.pv.fired.filter (fun g => g != f) } })
      s1.consume l
    else s

/-! ### Hiccup, latch-off, over-temperature -/

/-- HICCUP_TRIGGER (R238, R239, R388, R389): at the next PWM clock; one in the soft start of a hiccup belongs to it. -/
def State.hiccupTriggers (s : State) (p : Nat) : State :=
  match s.loopOf p with
  | none => s
  | some l =>
    let st := (s.loop l).state
    if s.hasPhase p && (st == 1 || st == 2 || st == 3) && !s.md.halted &&
        decide (s.lo l 0xE 1 ≤ (s.phase p).ct.ocRun) then
      let s1 := s.reach (s.now + 1)
      let sev := if s.lo l 0xE 3 ≤ (s.loop l).pr.hiccups then 5 else 3
      if (s.loop l).pr.inHiccup || s.admits (loopTarget l) sev then s1.hiccup l p false
      else (s1.loopReport srcProt l 0x0501 3 [(s.loop l).pr.hiccups, p]).queueReaction (loopTarget l) 3 0x0501
    else s

/-- HICCUP_OFF_TIME_END (R239). -/
def State.offTimeEnds (s : State) (l : Nat) : State :=
  let lp := s.loop l
  if s.loopIs l && lp.state == 4 then (s.reach lp.pr.offUntil).softStart l else s

/-- HICCUP_COUNT_CLEAR (R239): 1 s continuously in STATE 2 or 3. -/
def State.hiccupsClear (s : State) (l : Nat) : State :=
  let lp := s.loop l
  if s.loopIs l && (lp.state == 2 || lp.state == 3) then
    (s.reach (lp.pr.cleanSince + 500000000)).updLoop l (fun lp => { lp with pr := { lp.pr with hiccups := 0 } })
  else s

/-- OT_AUTO_RESTART (R244). -/
def State.otRestarts (s : State) (l : Nat) : State :=
  let lp := s.loop l
  if s.loopIs l && lp.pr.otRestart && lp.pr.otState == 0 && lp.state == 0 && (s.rail (128 + l)).on &&
      s.md.mode == .run then
    (s.updLoop l (fun lp => { lp with pr := { lp.pr with otRestart := false } })).softStart l
  else s

/-! ### Undervoltage and "low sides on" (R441, R448) -/

/-- UV_REPORT (R448): the condition has held for UV_TIME. -/
def State.uvReports (s : State) (l : Nat) : State :=
  let pr := (s.loop l).pr
  if s.loopIs l && pr.uvCond && !pr.uvReport && ((s.loop l).state == 2 || (s.loop l).state == 3) then
    let s1 := (s.reach (pr.uvSince + 8 * s.ob 0x2600 6)).updLoop l (fun lp => { lp with pr := { lp.pr with uvReport := true } })
    (s1.loopReport srcProt l 0x0508 3 (two (s.loop l).sn.sample)).latch l 13
  else s

/-- UV_REPORT_END (R448): the condition has been absent for UV_TIME. -/
def State.uvEnds (s : State) (l : Nat) : State :=
  let pr := (s.loop l).pr
  if s.loopIs l && pr.uvReport && !pr.uvCond then
    (s.reach (pr.uvSince + 8 * s.ob 0x2600 6)).updLoop l (fun lp => { lp with pr := { lp.pr with uvReport := false } })
  else s

/-- LS_DISCHARGE_TIMEOUT (R441): the phases stay tri-stated until the safe state is cleared. -/
def State.lowSidesTimeout (s : State) (l : Nat) : State :=
  let lp := s.loop l
  let lim := s.ob 0x2600 5 * 500000
  if s.loopIs l && lp.state == 7 && lp.pr.lowSides then
    (s.reach (lp.pr.lowSince + (lim - lp.pr.lowTotal))).updLoop l (fun lp =>
      { lp with pr := { lp.pr with lowSides := false, lowTotal := Nat.max lp.pr.lowTotal lim } })
  else s

end Sys2Proof.Machine
end

