-- ==== Sys2Proof/Machine/LaneOps.lean ====
section
/-! DEFINITION. The load command lane: frames, the checks of an answer, the opcodes, and what a transaction leaves (R251
to R276, R561). -/

namespace Sys2Proof.Machine

/-! ### Frames (R257 to R260) -/

/-- A request frame with its CRC (R257, R259). -/
def requestFrame (k op payload seq : Nat) : Nat :=
  let b := k % 4 * 2 ^ 26 + op % 64 * 2 ^ 20 + payload % 65536 * 16 + seq % 16
  13 * 2 ^ 36 + b * 256 + crc8 b 28

/-- A response frame with its CRC (R258, R259); statuses 0 ACK, 1 NAK_CRC, 2 NAK_RANGE, 3 NAK_OWNER. -/
def responseFrame (status k payload : Nat) : Nat :=
  let b := status % 4 * 2 ^ 18 + k % 4 * 2 ^ 16 + payload % 65536
  11 * 2 ^ 28 + b * 256 + crc8 b 20

/-- An unsigned value through the lane (R266). -/
def laneU (v : Int) : Nat := (clampI v 0 65535).toNat
/-- A signed value through the lane (R266). -/
def laneI (v : Int) : Nat := ofInt 16 (clampI v (-32768) 32767)

/-! ### Opcodes (R266 to R270) -/

/-- The opcodes that need OWNER = 1 (R266). -/
def ownerOp (op : Nat) : Bool := op == 1 || op == 2 || op == 3 || op == 4 || op == 0xA
/-- The opcodes that ACCEPTED_SETS counts as their answer is checked (R276); a SET_TARGET counts at its loop sample. -/
def setOp (op : Nat) : Bool := op == 2 || op == 3 || op == 0xA

/-- Check 5 (R262, R266, R269, R270). -/
def State.laneRange (s : State) (l op v : Nat) : Bool :=
  match op with
  | 1 => decide (s.lo l 7 3 ≤ v) && decide (v ≤ s.lo l 7 4)
  | 2 => decide (10 ≤ v) && decide (v ≤ 10000)
  | 3 => decide (v ≤ 128)
  | 4 =>
    field v 7 3 == 0 && decide (1 ≤ field v 0 7) && decide (field v 0 7 ≤ 100) && s.lo l 0xB 1 == 1 &&
      ((s.loop l).state == 2 || (s.loop l).state == 3)
  | 9 => v == 0
  | 0xB => true
  | _ => decide (v ≤ 1)

/-- The effect of a SET opcode, ARM_PREVIEW or ACK_ALERT (R233, R266, R268). -/
def State.laneSet (s : State) (t k l op v : Nat) : State :=
  match op with
  | 1 => s.newTarget l v (.lane t k)
  | 2 => s.put (loopIdx l 2) 1 v
  | 3 => s.put (loopIdx l 0xC) 7 v
  | 4 => s.updLoop l (fun lp => { lp with pv := { lp.pv with armed := some ⟨field v 14 2, field v 10 4, field v 0 7⟩ } })
  | 0xA => (s.put (loopIdx l 0xD) 2 v).burstForbidden l
  | 0xB => s.clearAlerts l v
  | _ => s

/-- The ACK payload, read after the effect (R266). -/
def State.laneAck (s : State) (l op v : Nat) : Nat :=
  let lp := s.loop l
  match op with
  | 3 => lp.pp.active * 256 + v
  | 5 => if v = 0 then s.laneWord l else lp.ln.latch
  | 6 => laneU (if v = 0 then (lp.tl.vout : Int) else (lp.sn.sample * 25 / 16 : Nat))
  | 7 => laneU (roundAway (if v = 0 then lp.tl.iout else s.current l) 100)
  | 8 => laneI (if v = 0 then lp.pr.temp.getD 0 else (s.slotDie l).getD 0)
  | 9 => laneU (roundAway lp.tl.pout 100)
  | 0xB => lp.ln.latch
  | _ => v

/-! ### Checks 3 to 5 (R262) -/

/-- A NAK: counted on the slot's loop and recorded (R262, R276, R405). -/
def State.laneNak (s : State) (t op status : Nat) (l : Option Nat) : State :=
  let s1 := match l with
    | some l => s.updLoop l (fun lp =>
        { lp with
          ln := if status = 2 then { lp.ln with nakRange := satAdd 32 lp.ln.nakRange 1 }
                else { lp.ln with nakOwner := satAdd 32 lp.ln.nakOwner 1 } })
    | none => s
  s1.report t srcLane 0x0701 1 t [status, op]

/-- ACCEPTED_SETS of a loop (R276). -/
def State.countSet (s : State) (l : Nat) : State :=
  s.updLoop l (fun lp => { lp with ln := { lp.ln with acceptedSets := wrapAdd 32 lp.ln.acceptedSets 1 } })

/-- A new answer with a good CRC: the first failing check decides, otherwise it is applied; the state and the response. -/
def State.laneExec (s : State) (t k op v : Nat) : State × Nat :=
  let l? := s.anchoredAt t k
  match l? with
  | none => (s.laneNak t op 2 none, responseFrame 2 k 0)
  | some l =>
    if op = 0 ∨ 0xB < op then (s.laneNak t op 2 l?, responseFrame 2 k 0)
    else if ownerOp op && s.lo l 0 8 != 1 then (s.laneNak t op 3 l?, responseFrame 3 k 0)
    else if s.laneRange l op v = false then (s.laneNak t op 2 l?, responseFrame 2 k 0)
    else
      let s1 := s.laneSet t k l op v
      let s2 := if setOp op then s1.countSet l else s1
      (s2, responseFrame 0 k (s1.laneAck l op v))

/-- LAST_OPCODE, LAST_PAYLOAD and LAST_STATUS of the loop in slot k (R276). -/
def State.laneLast (s : State) (t k op v rsp : Nat) : State :=
  match s.anchoredAt t k with
  | some l =>
    s.updLoop l (fun lp =>
      { lp with ln := { lp.ln with lastOpcode := op, lastPayload := v, lastStatus := field rsp 26 2 } })
  | none => s

/-! ### A transaction (R253, R260 to R265) -/

/-- What the check of an answer leaves on the tile's lane: the response driven, and whether the transaction failed. -/
structure LaneOut where
  st : State
  rsp : Option Nat
  failed : Bool
  /-- The answer passed check 1 and clears the count of failures. -/
  clears : Bool

/-- The answer is checked (R261, R262, R264). -/
def State.laneAnswer (s : State) (t : Nat) (answer : Option Nat) (stillLow : Bool) : LaneOut :=
  let miss : LaneOut :=
    ⟨s.updLane t (fun ln => { ln with missing := satAdd 32 ln.missing 1 }), none, true, false⟩
  match answer with
  | none => miss
  | some w =>
    if field w 36 4 ≠ 13 then miss
    else if crc8 (field w 8 28) 28 ≠ w % 256 then
      ⟨s.updLane t (fun ln => { ln with crcErrors := satAdd 32 ln.crcErrors 1 }), some (responseFrame 1 0 0), true, false⟩
    else
      let k := field w 34 2
      let op := field w 28 6
      let v := field w 12 16
      let seq := field w 8 4
      let ln := s.lane t
      if op = 0x3F then
        if v = 0 then
          ⟨s.laneLast t k op v (responseFrame 0 k 0), some (responseFrame 0 k 0), stillLow, !stillLow⟩
        else
          ⟨(s.laneNak t op 2 (s.anchoredAt t k)).laneLast t k op v (responseFrame 2 k 0), some (responseFrame 2 k 0), false, true⟩
      else if ln.seqValid ∧ ln.lastSeq = seq then
        ⟨(s.updLane t (fun ln => { ln with dups := satAdd 32 ln.dups 1 })).laneLast t k op v ln.stored, some ln.stored, false, true⟩
      else
        let r := s.laneExec t k op v
        ⟨(r.1.updLane t (fun ln => { ln with seqValid := true, lastSeq := seq, stored := r.2 })).laneLast t k op v r.2,
          some r.2, false, true⟩

/-- The retries are exhausted: record, LANE_ERROR in every slot's latch, back-off (R265). -/
def State.laneExhausted (s : State) (t n : Nat) : State :=
  let s1 := s.report t srcLane 0x0702 2 t [n]
  let s2 := (List.range 4).foldl (fun s k => match s.anchoredAt t k with
    | some l => s.latch l 15
    | none => s) s1
  s2.updLane t (fun ln =>
    { ln with backoff := true, backoffUntil := ln.transEnd + 500 * s.ob (0x5000 + t) 3, backoffs := satAdd 32 ln.backoffs 1 })

/-- POLL (R253 to R265): one transaction, from the part's POLL frame to the gap; the present instant is its acceptance. Each lane has
its own poll count, whose first SEQ is 0 (DESIGN CHOICE, log entry 151). -/
def State.transact (s : State) (t : Nat) (answer : Option Nat) (stillLow : Bool) : State :=
  if s.hasTile t && s.laneOn t && !(s.lane t).backoff then
    let s0 := s.reach ((s.lane t).transEnd + 820)
    let s1 := s0.updLane t (fun ln =>
      { ln with
        poll := requestFrame 0 0x3F (s0.pollPayload t) ln.polls, polls := wrapAdd 32 ln.polls 1
        transactions := wrapAdd 32 ln.transactions 1, transEnd := s0.now + 360, alertLow := stillLow })
    let r := s1.laneAnswer t answer stillLow
    let n := if r.failed then (r.st.lane t).fails + 1 else if r.clears then 0 else (r.st.lane t).fails
    let s2 := r.st.updLane t (fun ln => { ln with response := r.rsp, fails := n })
    if r.failed && decide (s2.ob (0x5000 + t) 2 + 1 ≤ n) then s2.laneExhausted t n else s2
  else s

/-- A lane command: a transaction whose answer is a good frame with this opcode, after which LALERT# is high. -/
def State.laneCommand (s : State) (t k op seq payload : Nat) : State := s.transact t (some (requestFrame k op payload seq)) false

/-- LANE_BACKOFF_END (R265). -/
def State.backoffEnds (s : State) (t : Nat) : State :=
  if s.hasTile t && (s.lane t).backoff then
    (s.reach (s.lane t).backoffUntil).updLane t (fun ln => { ln with backoff := false, fails := 0 })
  else s

/-- LANE_LEVEL_FAULT (R49, R561): Tt_VLANE at a level outside the strapped window disables the lane of the tile until the
next POR or RESET#. -/
def State.laneLevel (s : State) (t mv : Nat) : State :=
  if s.hasTile t && s.md.mode != .reset && !(s.tile t).laneLevelFault && !vlaneGood (bit s.pins.lvsel t) mv then
    (((s.updTile t (fun ti => { ti with laneLevelFault := true })).laneStops t).dictOwns t).report t srcLane 0x0703 3 t []
  else s

/-! ### One loop sample, with the acceptance of targets (R13, R121, R140, R144, R146, R263, R273) -/

/-- A SET_TARGET that the lane delivered fails its checks with the owner and the limits in force at its acceptance: its
response becomes a NAK (R146, R262, R263, R273). -/
def State.laneRefuses (s : State) (t k l status : Nat) : State :=
  let rsp := responseFrame status k 0
  ((s.laneNak t 1 status (some l)).updLane t (fun ln => { ln with response := some rsp, stored := rsp })).updLoop l
    (fun lp => { lp with ln := { lp.ln with lastStatus := status } })

/-- The answer to a dictionary target as its loop sample accepts or refuses it (R140, R144, R146, R492). -/
def State.targetAnswer (s : State) (l v : Nat) : Resp :=
  if s.lo l 7 3 ≤ v ∧ v ≤ s.lo l 7 4 then (if s.lo l 0 8 = 0 then .ok [] else .abort 0x08000000) else .abort 0x06090030

/-- A waiting target meets its loop sample: accepted, or refused by the owner and the limits in force then. -/
def State.acceptOne (s : State) (l : Nat) (w : Waiting) : State :=
  match w.src with
  | .lane t k =>
    if s.lo l 0 8 ≠ 1 then s.laneRefuses t k l 3
    else if s.laneRange l 1 w.v = false then s.laneRefuses t k l 2
    else (s.acceptTarget l w.v 1).countSet l
  | .dict ch =>
    let r := s.targetAnswer l w.v
    let s1 := if r = .ok [] then s.acceptTarget l w.v 0 else s
    match ch with
    | some ch => s1.answer ch r
    | none => if r = .ok [] then s1 else { s1 with net := { s1.net with rpdoRefused := satAdd 32 s1.net.rpdoRefused 1 } }

/-- The waiting targets of a loop meet their loop sample in the order of their arrival. -/
def State.acceptWaiting (s : State) (l : Nat) : State :=
  let ws := (s.loop l).tg.waiting
  ws.foldl (fun s w => s.acceptOne l w) (s.updLoop l (fun lp => { lp with tg := { lp.tg with waiting := [] } }))

/-- The frame boundary at the time of the next loop sample comes first (R13, R69). -/
def State.boundaryFirst (s : State) : State :=
  let t := s.nextSample
  if t % ticksPerFrame = 0 ∧ s.clk.frameDone < t / ticksPerFrame then s.frameBoundary else s

/-- One loop sample (R13, R121): waiting targets, every enabled loop, the comparators that their managers give back, and the
capture units. -/
def State.oneSample (s : State) (cs : List Conv) : State :=
  if s.clk.running = false then s
  else
    let t := s.nextSample
    let s1 := s.boundaryFirst
    let s0 : State := { s1 with clk := { s1.clk with time := t, sampleDone := t / ticksPerSample } }
    let s2 := s0.loopList.foldl State.acceptWaiting s0
    let ls := s2.loopList.filter s2.enabled
    let s3 := ls.foldl (fun s l => (s.sampleLoop cs (t / ticksPerSample) l).returnLoop l) s2
    s3.tileList.foldl State.captureSample s3

end Sys2Proof.Machine
end

