-- ==== Sys2Proof/Machine/LinkOps.lean ====
section
/-! DEFINITION. The Pergola link: sample slots, control bytes, frame slots, port loss and management traffic as a receiving
tile sees them (R277 to R293). -/

namespace Sys2Proof.Machine

/-- The pair of receiver r and sender s carries traffic: both tiles of the part, distinct, trained, not failed. -/
def State.pairUp (s : State) (r t : Nat) : Bool :=
  s.clk.running && r != t && s.hasTile r && s.hasTile t && bit s.link.trained r && bit s.link.trained t &&
    (s.tile r).state != 2 && (s.tile t).state != 2

/-- The loops in which both tiles take part. -/
def State.sharedLoops (s : State) (r t : Nat) : List Nat := s.loopList.filter (fun l => s.partakes l r && s.partakes l t)

/-! ### Sample slots (R279, R280, R288) -/

/-- The fields of a sample slot (R279). -/
structure SampleSlot where
  error : Int
  action : Nat
  wake : Bool
  preview : Bool
  pTick : Nat
  deriving DecidableEq, Repr

/-- The fields that a sample slot carries (R279). -/
def sampleFields (w : Nat) : SampleSlot :=
  { error := toInt 16 (field w 16 16), action := field w 14 2, wake := bit w 13, preview := bit w 12, pTick := field w 9 3 }

/-- The 32 bits of a sample slot with its CRC-8 over bits 31:8 (R279). -/
def SampleSlot.word (f : SampleSlot) : Nat :=
  let hi := ofInt 16 f.error * 256 + f.action % 4 * 64 + b2n f.wake * 32 + b2n f.preview * 16 + f.pTick % 8 * 2
  hi * 256 + crc8 hi 24

/-- The CRC of a sample slot passes: CRC-8 over bits 31:8 (R279). -/
def sampleCrcOk (w : Nat) : Bool := crc8 (w / 256 % 2 ^ 24) 24 == w % 256

/-- An instant lies in the 16 ns up to the start of a link cycle: that cycle carries its flag (R278, R279). -/
def inCycle (start : Nat) (at_ : Option Nat) : Bool :=
  match at_ with | some x => decide (x ≤ start) && decide (start < x + ticksPerSample) | none => false

/-- The sample slot that tile t sends for its slot k in the link cycle of the present loop sample; zeros with a valid CRC where
no loop is anchored there (R278, R279). -/
def State.sampleSent (s : State) (t k : Nat) : Nat :=
  let start := s.now / ticksPerSample * ticksPerSample + 1
  match s.anchoredAt t k with
  | some l =>
    let lp := s.loop l
    SampleSlot.word
      { error := lp.sn.err
        action := if lp.ac.action ≠ 0 then lp.ac.action else if inCycle start lp.ac.relAt then 3 else 0
        wake := inCycle start lp.pp.wakeAt
        preview := inCycle start lp.pv.lastFire
        pTick := if inCycle start lp.pv.lastFire then start - lp.pv.lastFire.getD 0 else 0 }
  | none => SampleSlot.word ⟨0, 0, false, false, 0⟩

/-- Phases of loop l on tile r. -/
def State.tilePart (s : State) (l r : Nat) : List Nat := (s.phasesOf l).filter (fun p => p / 16 == r)

/-- The compensator of tile r stops before the sample that did not arrive (R288 step 1). -/
def State.stopReplica (s : State) (l r : Nat) : State :=
  s.updLoop l (fun lp =>
    { lp with
      pr := { lp.pr with
        own := match lp.pr.own.get none r with
          | some q => lp.pr.own.set none r (some (if q.stopped then q else ⟨q.cp.without, true⟩))
          | none => lp.pr.own.set none r (some ⟨lp.cp.without, true⟩) } })

/-- The flags of the slot delivered at `at_` do not reach a phase: an action that would have begun begins with the next slot, an
action that would have been released lasts until MAX_TIME (R288 step 2, R293). -/
def Phase.missFlags (ph : Phase) (at_ endAt : Nat) : Phase :=
  if ph.actKind = 0 then ph
  else if ph.actTo = some at_ then ph.released (Nat.max at_ endAt)
  else if ph.actTo = none ∧ ph.actFrom = at_ then
    ({ ph with ed := ph.edBefore } : Phase).meet ph.actKind (at_ + ticksPerSample) ph.actHigh
  else ph

/-- A slot is lost for loop l on tile r: one severity-5 record, and the safe state at the next frame boundary (R288, R289). -/
def State.slotLost (s : State) (l r from_ kind : Nat) : State :=
  if bit (s.loop l).pr.lostTiles r then s
  else
    (s.report r srcPort 0x0203 5 l [from_, kind]).updLoop l (fun lp =>
      { lp with pr := { lp.pr with lostTiles := setBit lp.pr.lostTiles r } })

/-- The preview that tile r does not learn of, when the slot of its own link cycle is lost: neither its count nor its offset reach
the tile (R280, R288). -/
def State.missPreview (s : State) (l r : Nat) : State :=
  if inCycle (s.now / ticksPerSample * ticksPerSample + 1) (s.loop l).pv.lastFire then
    let s1 := s.updLoop l (fun lp =>
      { lp with
        pv := { lp.pv with
          fired := lp.pv.fired.map (fun f => if some f.at_ = lp.pv.lastFire then { f with missed := setBit f.missed r } else f) } })
    { s1 with phases := s1.phases.updAll {} (s1.tilePart l r) (fun _ ph => ph.missCount) }
  else s

/-- A sample slot of loop l was lost on tile r, which holds the command and the flags of the slot before (R288). -/
def State.sampleLost (s : State) (l r t : Nat) : State :=
  let s1 := (s.slotLost l r t 1).stopReplica l r
  let s2 : State :=
    { s1 with
      phases := s1.phases.updAll {} (s1.tilePart l r) (fun _ ph => ph.missFlags s1.now (s1.loop l).ac.actEnd) }
  s2.missPreview l r

/-- Tile r computes with the error sample that it received, where it is not the anchor's (R280). -/
def State.takeError (s : State) (l r n : Nat) (e : Int) : State :=
  let c := s.compOf l r
  let stopped : Bool := match (s.loop l).pr.own.get none r with | some q => q.stopped | none => false
  if stopped || !(s.loop l).computes || c.dutyAt != n || c.e1 == e then s
  else
    s.updLoop l (fun lp =>
      { lp with
        pr := { lp.pr with
          own := lp.pr.own.set none r
            (some ⟨(c.without.next (s.coefs l) (s.lo l 7 1) (s.lo l 7 2) e).dated n, false⟩) } })

/-- Tile r acts on an ACTION that has arrived, where its phases do not follow it already (R228, R230, R231, R280). -/
def State.takeAction (s : State) (l r act : Nat) : State :=
  let ps := s.tilePart l r
  if act = 3 then s.releaseTile (ps.filter (fun p => (s.phase p).actAt s.now != 0)) s.now
  else if act = 0 then s
  else
    s.actTile act
      (ps.filter (fun p => (s.phase p).actAt s.now != act && (act == 2 || (s.enabledPhases l).contains p))) s.now

/-- A good sample slot delivers its error sample and its flags to the replica slot (R280). A wake and a preview of the anchor
act on every tile from their own instants: boundary B of a preview does not lie before the delivery (R212, R235), and a tile that
loses its slot takes no part in it (`State.missPreview`). -/
def State.deliver (s : State) (l r : Nat) (f : SampleSlot) : State :=
  let s1 := (s.takeError l r (s.now / ticksPerSample) f.error).takeAction l r f.action
  if f.wake then s1.wakeLoop l else s1

/-- SAMPLE_SLOT_RECEIVED (R278 to R280, R288): tile r takes the sample slot of the sender's slot k, 10 ns after the start of a
link cycle. -/
def State.sampleSlot (s : State) (r t k w : Nat) : State :=
  if s.pairUp r t then
    let s0 := s.reach ((s.now + 1) / 8 * 8 + 6)
    match s0.anchoredAt t k with
    | some l =>
      if s0.partakes l r then
        if sampleCrcOk w then s0.deliver l r (sampleFields w)
        else
          let s1 : State := { s0 with link := { s0.link with sampleErrors := satAdd 32 s0.link.sampleErrors 1 } }
          s1.sampleLost l r t
      else s0
    | none => s0
  else s

/-! ### Port loss (R290, R291) -/

/-- The loss of port t at receiver r is declared (R291 steps 1 and 2). -/
def State.portLost (s : State) (r t : Nat) : State :=
  if s.pairUp r t && !bit s.link.pairLost (8 * r + t) then
    let s1 : State := { s with link := { s.link with
      pairLost := setBit s.link.pairLost (8 * r + t), lostAt := s.link.lostAt.set 0 (8 * r + t) s.now } }
    let s2 := s1.report r srcPort 0x0206 5 t [r]
    let s3 := s2.dangerous (s2.sharedLoops r t) r 0x0206 t false
    let others := s3.tileList.filter (fun u => u != 0 && (s3.tile u).state != 2)
    if t = 0 ∧ others.all (fun u => bit s3.link.pairLost (8 * u)) then (s3.enterHold r 0x0206 t).markResetOnly else s3
  else s

/-- Receivers at which port t is lost. -/
def State.losers (s : State) (t : Nat) : List Nat := s.tileList.filter (fun r => bit s.link.pairLost (8 * r + t))

/-- PORT_LOSS_DECISION (R291): a failed tile, or a pair fault. Port 0 lost at every other tile is the teardown that each has
entered already. -/
def State.decideLoss (s : State) (t : Nat) (answered : Bool) : State :=
  let lost := (s.losers t).length
  if s.clk.running && s.hasTile t && (s.tile t).state != 2 && decide (0 < lost) then
    if t = 0 then (if 2 ≤ lost ∧ lost + 1 < s.T then s.failTile 0 4 else s)
    else if 2 ≤ lost ∨ s.T = 2 then s.failTile t 4
    else if answered then s else s.failTile t 5
  else s

/-! ### Control bytes (R281, R290) -/

/-- Odd parity over bits 7:1 in bit 0: the eight bits have an odd number of ones. -/
def parityOk (b : Nat) : Bool := (bitsOf b 8).length % 2 == 1

/-- A SAFE_REQ bit takes the loop in the sender's slot to its safe state, with severity 5 under DANGER (R281). -/
def State.safeRequested (s : State) (r t b : Nat) : State :=
  let sev := if bit b 3 then 5 else 3
  (List.range 4).foldl (fun s k => match s.heldAt t k with
    | some l =>
      if bit b (4 + k) && s.partakes l r && !((s.loop l).state == 7 && decide (sev ≤ (s.loop l).pr.safeSev)) then
        s.enterSafe l sev 0x0505
      else s
    | none => s) s

/-- The control byte that tile t sends in link cycle n (R281): SAFE_REQ of each slot whose loop is in STATE 7, DANGER while one
of them stands for a severity-5 cause, CYCLE, and odd parity. -/
def State.controlSent (s : State) (t n : Nat) : Nat :=
  let ks := (List.range 4).filter (fun k => match s.heldAt t k with | some l => (s.loop l).state == 7 | none => false)
  let five := ks.any (fun k => match s.heldAt t k with | some l => (s.loop l).pr.safeSev == 5 | none => false)
  let b := bitmap (ks.map (4 + ·)) + b2n five * 8 + n % 4 * 2
  if parityOk b then b else b + 1

/-- CONTROL_BYTE_RECEIVED (R278, R281, R290): a control byte of cycle n is delivered 14 ns after the cycle's start, at a
device time divisible by eight ticks. -/
def State.controlByte (s : State) (r t b : Nat) : State :=
  if s.pairUp r t then
    let at_ := (s.now + 7) / 8 * 8
    let s1 := s.reach at_
    let i := 8 * r + t
    if parityOk b && field b 1 2 == (at_ / 8 + 3) % 4 then
      let s2 : State :=
        { s1 with
          link := { s1.link with
            badControl := s1.link.badControl.set 0 i 0, safeReq := s1.link.safeReq.set 0 i (b / 8) } }
      s2.safeRequested r t b
    else
      let n := s1.link.badControl.get 0 i + 1
      let s2 : State :=
        { s1 with
          link := { s1.link with
            controlErrors := satAdd 32 s1.link.controlErrors 1, badControl := s1.link.badControl.set 0 i n } }
      if 3 ≤ n then s2.portLost r t else s2
  else s

/-! ### Frame slots (R282, R286, R287, R289, R292) -/

/-- The content of a frame slot (R282). Lists run over slots k = 0 to 3. -/
structure FrameSlot where
  deviceTime : Nat
  hashes : List Nat
  token : Bool
  ready : Bool
  commitMiss : Bool
  tokenTag : Nat
  isum : List Int
  vin : Nat
  counts : List Nat
  tmon : List Nat
  dieTemp : Int
  deriving DecidableEq, Repr

/-- `n` bytes from byte `i`, as a number (R282; DEDUCED little-endian, log entry 123). -/
def bytesAt (bs : List Nat) (i n : Nat) : Nat := ((bs.drop i).take n).foldr (fun b v => b + 256 * v) 0

/-- The fields that the 64 bytes of a frame slot carry (R282). -/
def frameFields (bs : List Nat) : FrameSlot :=
  let four {α : Type} (f : Nat → α) : List α := (List.range 4).map f
  let flags := bytesAt bs 24 1
  { deviceTime := bytesAt bs 0 8, hashes := four (fun k => bytesAt bs (8 + 4 * k) 4)
    token := bit flags 0, ready := bit flags 1, commitMiss := bit flags 2, tokenTag := bytesAt bs 25 4
    isum := four (fun k => toInt 32 (bytesAt bs (29 + 4 * k) 4)), vin := bytesAt bs 45 2
    counts := four (fun k => bytesAt bs (47 + k) 1), tmon := four (fun k => bytesAt bs (51 + 2 * k) 2)
    dieTemp := (bytesAt bs 59 1 : Int) - 64 }

/-- The CRC-32C of a frame slot over bytes 0 to 59 passes (R282). -/
def frameCrcOk (bs : List Nat) : Bool := crc32c (bs.take 60) == bytesAt bs 60 4

/-- The 64 bytes of a frame slot (R282). -/
def FrameSlot.bytes (f : FrameSlot) : List Nat :=
  let bs := bytesLE 8 f.deviceTime ++ f.hashes.flatMap (bytesLE 4) ++
    [b2n f.token + 2 * b2n f.ready + 4 * b2n f.commitMiss] ++ bytesLE 4 f.tokenTag ++
    f.isum.flatMap (fun v => bytesLE 4 (ofInt 32 v)) ++ bytesLE 2 f.vin ++ f.counts.map (· % 256) ++
    f.tmon.flatMap (bytesLE 2) ++ [ofInt 8 (f.dieTemp + 64)]
  bs ++ bytesLE 4 (crc32c bs)

/-- A flight is in the frame before its frame F (R82). -/
def State.tokenFrame (s : State) : Option Flight :=
  match s.obj.flight with
  | some fl => if !fl.swapped && s.frame + 1 == fl.frame then some fl else none
  | none => none

/-- The frame slot that tile t sends in the present frame (R82, R282, R289): the values latched at the boundary that started
it. -/
def State.frameSent (s : State) (t : Nat) : List Nat :=
  let four {α : Type} (f : Nat → α) : List α := (List.range 4).map f
  let fl := s.tokenFrame
  FrameSlot.bytes
    { deviceTime := s.frame * ticksPerFrame, hashes := four (fun k => s.link.hashes.get 0 (4 * t + k))
      token := t == 0 && fl.isSome
      ready := match fl with | some f => bit f.named t && (s.tile t).state == 0 | none => false
      commitMiss := s.obj.tookFrame == s.frame && bit s.obj.notReady t
      tokenTag := if t = 0 ∧ fl.isSome then s.obj.tag else 0
      isum := four (fun k => (s.link.isum.get none (4 * t + k)).getD 0), vin := s.link.vin.get 0 t
      counts := four (fun k => s.link.counts.get 0 (4 * t + k))
      tmon := four (fun k => (s.link.tmon.get none (4 * t + k)).getD 0)
      dieTemp := wholeDegrees ((s.link.die.get none t).getD 0) }

/-- Loops l shared by both tiles have no sum or TMON of tile t for this frame. -/
def State.slotGone (s : State) (l t : Nat) : State :=
  let i := 4 * t + s.slotOf l t
  { s with link := { s.link with isum := s.link.isum.set none i none, tmon := s.link.tmon.set none i none } }

/-- Tile r does not take the commit at F: a frame slot of frame F − 1 reached it corrupted, or without the token (R82, R83,
R289). -/
def State.missCommit (s : State) (r t : Nat) : State :=
  match s.tokenFrame with
  | some fl =>
    if bit fl.named r && (t == 0 || bit fl.named t) then
      { s with obj := { s.obj with flight := some { fl with missed := setBit fl.missed r } } }
    else s
  | none => s

/-- A corrupted frame slot (R289, R290). -/
def State.frameSlotBad (s : State) (r t : Nat) : State :=
  let i := 8 * r + t
  let n := s.link.badFrame.get 0 i + 1
  let s1 : State :=
    { s with
      link := { s.link with
        frameErrors := satAdd 32 s.link.frameErrors 1, badFrame := s.link.badFrame.set 0 i n
        slotBad := setBit s.link.slotBad i } }
  let s2 := (s1.sharedLoops r t).foldl (fun s l => (s.slotLost l r t 2).slotGone l t) s1
  let s3 := s2.missCommit r t
  if 2 ≤ n then s3.portLost r t else s3

/-- What a good slot of frame F − 1 says of the commit (R82): a named tile's slot without READY, or tile 0's slot without the
token of this commit, which its receiver then does not take (DEDUCED, log entry 112). -/
def State.commitSeen (s : State) (r t : Nat) (f : FrameSlot) : State :=
  match s.tokenFrame with
  | some fl =>
    let s1 : State :=
      if bit fl.named t && !f.ready then
        { s with obj := { s.obj with flight := some { fl with notReady := setBit fl.notReady t } } }
      else s
    if t = 0 ∧ ¬(f.token ∧ f.tokenTag = s.obj.tag) then s1.missCommit r t else s1
  | none => s

/-- COMMIT_MISS of tile t in frame F reaches a tile r that has swapped: the loops that they share go to their safe states (R83,
R289). -/
def State.missSeen (s : State) (r t : Nat) : State :=
  if s.obj.tookFrame = s.frame ∧ bit s.obj.takers r then
    let s1 : State := { s with obj := { s.obj with notReady := setBit s.obj.notReady t, result := 4 } }
    s1.enterSafeAll (s1.sharedLoops r t) 5 0x0E01
  else s

/-- A wrong DEVICE_TIME (R292). -/
def State.timeWrong (s : State) (r t : Nat) : State :=
  let s1 := s.report r srcPort 0x0208 5 r [t]
  let s2 : State := { s1 with link := { s1.link with timeFault := setBit (setBit s1.link.timeFault r) t } }
  (s2.dangerous (s2.sharedLoops r t) r 0x0208 r true).markResetOnly

/-- A mismatch frame of the loop that tile r saw first, in the hashes of the tiles `b`: counted once; the second one in succession is
a replica mismatch (R287). -/
def State.mismatch (s : State) (l r b : Nat) : State :=
  let n := (s.loop l).pr.mismatch
  let s1 := s.updLoop l (fun lp => { lp with pr := { lp.pr with mismatch := n + 1 } })
  let s2 : State := { s1 with link := { s1.link with hashMismatch := satAdd 32 s1.link.hashMismatch 1 } }
  if n = 0 then s2.report r srcPort 0x0204 2 l [b] else (s2.report r srcPort 0x0205 5 l [b]).dangerous [l] r 0x0205 l false

/-- Once every needed frame slot of the frame has arrived, all good, a difference among the hashes makes it a mismatch frame; with a
slot that failed its CRC the frame is neither a mismatch frame nor a match (R287). -/
def State.hashLook (s : State) (l : Nat) : State :=
  match (s.loop l).pr.differ with
  | some d => if s.slotsIn l && !s.slotsBad l then s.mismatch l d.1 d.2 else s
  | none => s

/-- The hash that tile t sends for loop l differs from that of tile r (R287). -/
def State.hashDiffers (s : State) (l r t : Nat) : State :=
  s.updLoop l (fun lp =>
    { lp with
      pr := { lp.pr with
        differ := some (match lp.pr.differ with
          | none => (r, 2 ^ t)
          | some d => if d.1 = r then (r, setBit d.2 t) else d) } })

/-- The hashes of a frame slot against the receiver's own (R287). -/
def State.compareHashes (s : State) (r t : Nat) (hs : List Nat) : State :=
  (s.sharedLoops r t).foldl
    (fun s l => if hs.getD (s.slotOf l t) 0 ≠ s.link.hashes.get 0 (4 * r + s.slotOf l r) then s.hashDiffers l r t else s) s

/-- The count that the anchor's frame slot brings, 0 for none: it replaces the one that waits for the same boundary (R199,
R282). -/
def State.takeCount (s : State) (l n : Nat) : State :=
  s.updLoop l (fun lp =>
    { lp with
      pp := { lp.pp with
        decided := lp.pp.decided.map (fun d =>
          if n ≠ 0 ∧ d.start = (s.frame + 1) * ticksPerFrame then { d with count := n } else d) } })

/-- The values of a frame slot that a receiver uses (R128, R133, R242, R282): sums and TMON of the loops shared, die
temperature, and VIN and count of the loops anchored on the sender. -/
def State.takeValues (s : State) (r t : Nat) (f : FrameSlot) : State :=
  let s1 : State := { s with link := { s.link with die := s.link.die.set none t (some (10 * f.dieTemp)) } }
  (s1.sharedLoops r t).foldl (fun s l =>
    let k := s.slotOf l t
    let s2 : State :=
      { s with
        link := { s.link with
          isum := s.link.isum.set none (4 * t + k) (some (f.isum.getD k 0))
          tmon := s.link.tmon.set none (4 * t + k) (some (f.tmon.getD k 0)) } }
    if s.anchor l = t then
      let s3 := s2.takeCount l (f.counts.getD k 0)
      if (s.lo l 0 9 = 1 ∨ s.lo l 0xB 1 = 1) ∧ (s.loop l).cp.ffLatched.isSome then
        s3.updLoop l (fun lp => { lp with cp := { lp.cp with ffLatched := some f.vin } })
      else s3
    else s2) s1

/-- A frame slot whose CRC has passed. -/
def State.frameSlotGood (s : State) (r t : Nat) (f : FrameSlot) : State :=
  let s1 : State := { s with link := { s.link with badFrame := s.link.badFrame.set 0 (8 * r + t) 0 } }
  let s2 := if f.deviceTime = s.frame * ticksPerFrame then s1 else s1.timeWrong r t
  let s3 := (s2.compareHashes r t f.hashes).commitSeen r t f
  let s4 := if f.commitMiss then s3.missSeen r t else s3
  s4.takeValues r t f

/-- FRAME_SLOT_RECEIVED (R282, R287, R289, R292): a receiver uses the content 1,028 ns after the boundary, once the CRC has passed;
with the last slot of a frame the hashes have been compared. -/
def State.frameSlot (s : State) (r t : Nat) (bs : List Nat) : State :=
  if s.pairUp r t then
    let s0 := s.reach (s.frame * ticksPerFrame + 514)
    let s1 : State := { s0 with link := { s0.link with slotSeen := setBit s0.link.slotSeen (8 * r + t) } }
    let s2 := if frameCrcOk bs then s1.frameSlotGood r t (frameFields bs) else s1.frameSlotBad r t
    if bit s.link.slotSeen (8 * r + t) then s2 else (s.sharedLoops r t).foldl State.hashLook s2
  else s

/-! ### Management traffic (R283) -/

/-- Credits that must not be in use for a packet to be sent: the last two carry only responses (R283). -/
def creditsFor (response : Bool) : Nat := if response then 8 else 6

/-- A new packet of pair i is sent and takes a credit (R283); one that stays unacknowledged is kept for its resends. -/
def State.mgmtSend (s : State) (i : Nat) (q : Packet) (acked : Bool) : State :=
  { s with
    link := { s.link with
      creditsUsed := s.link.creditsUsed.upd 0 i (· + 1)
      flying := if acked then s.link.flying else s.link.flying.upd [] i (· ++ [q])
      buffered := if acked then s.link.buffered.upd 0 i (· + 1) else s.link.buffered } }

/-- The resend `q` of a packet of pair i arrives (R283): acknowledged and buffered, or discarded for a bad CRC. -/
def State.mgmtAgain (s : State) (i : Nat) (q : Packet) (crcOk : Bool) : State :=
  { s with
    link := { s.link with
      flying := s.link.flying.upd [] i (fun qs =>
        if crcOk then qs.erase q else qs.replace q { q with away := false })
      buffered := if crcOk then s.link.buffered.upd 0 i (· + 1) else s.link.buffered } }

/-- MGMT_PACKET_RECEIVED (R283): the oldest resend of its kind that is on its way, else a new packet. A good one takes a buffer of
the receiver and is acknowledged; a bad one is discarded, and its sender still waits for the acknowledgement. -/
def State.mgmtPacket (s : State) (r t : Nat) (response crcOk : Bool) : State :=
  let i := 8 * r + t
  if s.pairUp r t && !bit s.link.mgmtFault i then
    match (s.link.flying.get [] i).find? (fun q => q.away && q.response == response) with
    | some q => s.mgmtAgain i q crcOk
    | none =>
      if s.link.creditsUsed.get 0 i < creditsFor response then s.mgmtSend i { response := response, sentAt := s.now } crcOk else s
  else s

/-- The unacknowledged packet of a pair that was sent first (R283). -/
def oldestPacket (qs : List Packet) : Option Packet :=
  qs.foldl (fun b q => match b with
    | none => some q
    | some x => if q.sentAt < x.sentAt then some q else some x) none

/-- MGMT_RESEND_TIMEOUT (R283): the oldest unacknowledged packet is resent 5 µs after it was last sent, up to three times; after the
last one the path is faulty. Where the pair holds none, a new packet has been lost whole: a request, or a response where no request
may be sent (DEDUCED, log entry 142). -/
def State.mgmtTimeout (s : State) (t d : Nat) : State :=
  let i := 8 * d + t
  if s.pairUp d t && !bit s.link.mgmtFault i then
    match oldestPacket (s.link.flying.get [] i) with
    | some q =>
      let s1 := s.reach (q.sentAt + 2500)
      if q.resends < 3 then
        { s1 with
          link := { s1.link with
            flying := s1.link.flying.upd [] i (fun qs =>
              qs.replace q { q with resends := q.resends + 1, sentAt := s1.now, away := true })
            mgmtRetries := satAdd 32 s1.link.mgmtRetries 1 } }
      else
        ({ s1 with link := { s1.link with mgmtFault := setBit s1.link.mgmtFault i } } : State).report t srcPort 0x0207 3 t [d]
    | none =>
      if s.link.creditsUsed.get 0 i < 8 then
        let s1 := s.mgmtSend i
          { response := decide (6 ≤ s.link.creditsUsed.get 0 i), sentAt := s.now, resends := 1, away := true } false
        { s1 with link := { s1.link with mgmtRetries := satAdd 32 s1.link.mgmtRetries 1 } }
      else s
  else s

/-- MGMT_CREDIT_RETURN (R283, R293): the processor of tile d frees a buffer that holds a packet; while it recovers or is halted, its
credits are held. -/
def State.mgmtCredit (s : State) (t d : Nat) : State :=
  let i := 8 * d + t
  if s.pairUp d t && s.procRuns d && decide (0 < s.link.buffered.get 0 i) then
    { s with
      link := { s.link with
        creditsUsed := s.link.creditsUsed.upd 0 i (· - 1), buffered := s.link.buffered.upd 0 i (· - 1) } }
  else s

end Sys2Proof.Machine
end

