-- ==== Sys2Proof/Machine/StartOps.lean ====
section
/-! DEFINITION. Calibration and the power-up steps (R95 to R99, R314 to R317, R417, R422, R428). -/

namespace Sys2Proof.Machine

/-! ### Calibration (R314 to R316) -/

/-- The conditions under which a converter passes (R316). -/
def calPasses (r : CalResult) : Bool :=
  decide (31785 ≤ r.gain) && decide (r.gain ≤ 33751) && decide (-256 ≤ r.offset) && decide (r.offset ≤ 256) &&
    r.trims.all (fun w => w != 0 && w != 0x03FF) && decide (3070 ≤ r.check) && decide (r.check ≤ 3074)

/-- What was measured on a converter; one that is not listed passes with the factors that it has (log entry 53). -/
def measured (rs : List CalResult) (t c : Nat) : Option CalResult := rs.find? (fun r => r.t == t && r.c == c)

/-- A converter fails its calibration. -/
def calFails (rs : List CalResult) (t c : Nat) : Bool :=
  match measured rs t c with
  | some r => !calPasses r
  | none => false

/-- A converter that passes takes its new factors. -/
def Tile.calibrate (ti : Tile) (rs : List CalResult) (t : Nat) : Tile :=
  { ti with
    cal := (List.range 6).foldl (fun m c => match measured rs t c with
      | some r => if calPasses r then m.set none c (some (r.gain, r.offset, r.trims)) else m
      | none => m) ti.cal }

/-- The 60 words of CAL_FACTORS as kept in pairs 1 to 4, fifteen in each (R339, R411). -/
def State.calWord (s : State) (t sub : Nat) : Nat :=
  let f := ((s.tile t).cal.get none ((sub - 1) / 10)).getD resetFactors
  match (sub - 1) % 10 with
  | 0 => f.1
  | 1 => ofInt 16 f.2.1
  | n => f.2.2.getD (n - 2) 0x0200

/-- The factors of a tile are written to its Cellar (R418). -/
def State.keepCal (s : State) (t : Nat) : State :=
  (List.range 4).foldl (fun s i =>
    s.cellWrite t (i + 1) ((List.range 15).map (fun j => (okey (0x2030 + t) (15 * i + j + 1), s.calWord t (15 * i + j + 1))))
      (0x2030 + t)) s

/-- The tiles that calibration runs on (R314). -/
def State.calTiles (s : State) : List Nat := s.tileList.filter (fun t => bit s.link.trained t)

/-- What calibration leaves on one tile: factors, the record of a failure, the Cellar pairs (R316, R418). -/
def State.calTile (rs : List CalResult) (s : State) (t : Nat) : State :=
  let bad := (List.range 6).filter (calFails rs t)
  let s1 := s.updTile t (fun ti => ti.calibrate rs t)
  if bad.isEmpty then s1.keepCal t else s1.report t srcTelem 0x0801 3 t [bitmap bad]

/-- The end of a calibration (R314, R316): the tables resume at entry 0. -/
def State.calFinish (s : State) (rs : List CalResult) : State :=
  let ts := s.calTiles
  let bad := bitmap (ts.flatMap (fun t => ((List.range 6).filter (calFails rs t)).map (fun c => 6 * t + c)))
  let s1 : State :=
    { s with
      cal := {
        state := if bad = 0 then 2 else 3, startedAt := s.cal.startedAt, valid := decide (bad = 0), failed := bad
        completedAt := s.now, runs := wrapAdd 32 s.cal.runs 1 } }
  let s2 := ts.foldl (State.calTile rs) s1
  ts.foldl State.restartTables s2

/-! ### Step 3: recovery (R417, R425, R428, R430) -/

/-- A tile that is not failed and whose PLL locks takes part in step 3. -/
def State.lives (s : State) (i : PowerUpIn) (t : Nat) : Bool := !bit i.pllFailed t && (s.tile t).state != 2

/-- What recovery found on each tile: page and object rolled back, tallies completed. -/
def State.findings (s : State) (i : PowerUpIn) : List (Nat × Option (Nat × Nat) × List Nat) :=
  (s.tileList.filter (s.lives i)).map (fun t =>
    let r := (s.cellar t).recover t (bit i.marginal t)
    (t, r.2.1, r.2.2))

/-- The tile header, pair 0, keeps the last recovery result: bit 0 a write rolled back, bit 1 a tally completed. It is written when
the result is another than the one that it holds; when and how it is coded is not given (DESIGN CHOICE, log entry 31). -/
def State.keepHeader (s : State) (t result : Nat) : State :=
  if ((s.cellar t).value t 0 3).getD 0 = result then s
  else s.cellWrite t 0 [(0, 0), (1, t), (2, s.part.number), (3, result)] (pairObject t 0)

/-- Step 3 on every tile, with the tallies ROLLBACKS, and RESETS after POR and RESET# (R423, R430). -/
def State.recoverAll (s : State) (i : PowerUpIn) : State :=
  let fs := s.findings i
  let ts := s.tileList.filter (s.lives i)
  let back := (fs.filter (fun f => f.2.1.isSome)).map (·.1)
  let s1 : State :=
    { s with
      cel := { s.cel with
        cellars := s.cel.cellars.updAll {} ts (fun t c => (c.recover t (bit i.marginal t)).1)
        recoveryTime := i.recoveryUs, rolledBack := bitmap back
        tallyDone := bitmap ((fs.filter (fun f => !f.2.2.isEmpty)).map (·.1)) } }
  let s2 := fs.foldl (fun s f => s.keepHeader f.1 (b2n f.2.1.isSome + 2 * b2n (!f.2.2.isEmpty))) s1
  let s3 := s2.tally back 5
  if s.md.lastCause = 2 then s3 else s3.tally ts 6

/-- The records of step 3 on one tile (R417, R425, R428). -/
def State.recoverRecords (s : State) (f : Nat × Option (Nat × Nat) × List Nat) : State :=
  let s1 : State := match f.2.1 with
    | some (page, obj) => s.report f.1 srcCellar 0x0B01 2 page (two obj)
    | none => s
  let s2 : State := f.2.2.foldl (fun s y => s.report f.1 srcCellar 0x0B02 1 y []) s1
  if s2.cel.storeResult = 1 then s2.report f.1 srcCellar 0x0B03 1 f.1 [0]
  else if s2.cel.storeResult = 2 then s2.report f.1 srcCellar 0x0B03 3 f.1 [1]
  else s2

/-! ### Step 5: loading (R12, R96, R390, R411, R422) -/

/-- The values that a page pair of a tile holds become active. -/
def State.loadPair (s : State) (t i : Nat) : State :=
  { s with
    obj := { s.obj with
      act := ((s.cellar t).values t i).foldl (fun a e => Tab.set none a e.1 (some e.2)) s.obj.act } }

/-- A failure record from its pair (R369, R377). -/
def State.failFrom (s : State) (i idx : Nat) : FailRec :=
  let v (n d : Nat) : Nat := ((s.cellar 0).value 0 i (okey idx n)).getD d
  { valid := v 1 0 == 1, rail := v 2 0xFF, state := v 3 0, cause := v 4 0, time := v 5 0, timeRx := v 6 0 }

/-- A record from its 32 bytes (R385). -/
def recFrom (v : Nat) : Rec :=
  let ts := v / 2 ^ 80 % 256
  { time := v % 2 ^ 64, seq := v / 2 ^ 64 % 65536, tile := ts % 8, sev := field ts 3 3, code := v / 2 ^ 96 % 65536
    inst := v / 2 ^ 112 % 65536, data := (bytesLE 6 (v / 2 ^ 176)), rpt := v / 2 ^ 128 % 65536
    delta := v / 2 ^ 144 % 2 ^ 32, pre := bit ts 7, sat := bit ts 6, num := v / 2 ^ 64 % 65536 }

/-- The first-fault record that pair 23 keeps (R390). -/
def State.firstFrom (s : State) : Option Rec :=
  match (s.cellar 0).value 0 23 (okey 0x4501 5) with
  | some v => if v = 0 then none else some (recFrom v)
  | none => none

/-- The calibration factors of a tile from pairs 1 to 4, where they hold some (R411). -/
def State.calFrom (s : State) (t : Nat) : Tab (Option (Nat × Int × List Nat)) :=
  let w (sub : Nat) : Option Nat := (s.cellar t).value t ((sub - 1) / 15 + 1) (okey (0x2030 + t) sub)
  (List.range 6).foldl (fun m c => match w (10 * c + 1) with
    | some g =>
      m.set none c (some (g, toInt 16 ((w (10 * c + 2)).getD 0), (List.range 8).map (fun j => (w (10 * c + 3 + j)).getD 0x0200)))
    | none => m) []

/-- Pairs without a valid copy: their objects have the defaults that they take without a value, and each is recorded (R414,
R434). -/
def State.lostPairs (s : State) (t : Nat) : State :=
  ((pairsOn t).filter (fun i => (((s.cellar t).pair i).newestA i).isNone)).foldl (fun s i =>
    s.report t srcCellar 0x0B04 3 (2 * i) [2]) s

/-- The communication settings in use follow NET_CFG at RESET (R489). -/
def State.netFromCfg (s : State) : State :=
  { s with
    net := { s.net with
      nodeA := s.ob 0x2003 1, nodeB := s.ob 0x2003 2, rateA := s.ob 0x2003 3, dataRateA := s.ob 0x2003 4
      rateB := s.ob 0x2003 5, enA := bit (s.ob 0x2003 9) 0, enB := bit (s.ob 0x2003 9) 1 } }

/-- Step 5: the device-level pairs, the calibration factors, the trims and the active set, straight into the active
registers. -/
def State.loadAll (s : State) : State :=
  let dir := ((s.cellar 0).value 0 25 (okey 0x4810 1)).getD 0
  let s1 : State :=
    { s with
      cel := { s.cel with activeSet := dir }
      seq := { s.seq with first := s.failFrom 21 0x4302, last := s.failFrom 22 0x4303 }
      ev := { s.ev with first := s.firstFrom }
      tiles := s.tiles.updAll {} s.tileList (fun t ti => { ti with cal := s.calFrom t }) }
  let s2 := ((s1.loadPair 0 19).loadPair 0 20).loadValues dir
  ({ s2 with phases := s2.phases.updAll {} s2.phaseList (fun p ph => { ph with cfg := s2.phaseNow p }) } : State).netFromCfg

/-! ### The power-up (R95) -/

/-- The reset record of a tile is its first one (R392). -/
def State.resetRecord (s : State) (t : Nat) : State :=
  { (s.report t srcMode 0x0007 0 0xFFFF [s.md.lastCause]).writeNext t with clk := s.clk }

/-- Steps 1 to 4 leave their traces on one tile: lane level, PLL, training (R49, R63, R97). The lane level is compared when
the straps are sampled, which a Reset Node does not do (R48). -/
def State.tileUp (i : PowerUpIn) (s : State) (t : Nat) : State :=
  let s1 := if s.md.lastCause = 2 ∨ vlaneGood (bit s.pins.lvsel t) (i.vlane.getD t 0) then s
    else ((s.updTile t (fun ti => { ti with laneLevelFault := true })).dictOwns t).report t srcLane 0x0703 3 t []
  if s.lives i t = false then s1.failTile t (if (s.tile t).state = 2 then (s.tile t).failCause else 1)
  else if bit i.trainFailed t then s1.failTile t 2
  else s1.updTile t (fun ti => { ti with trainTime := i.trainUs })

/-- The LVSEL straps: sampled at POR and RESET#, kept over a Reset Node (R48). -/
def State.strapsNow (s : State) (i : PowerUpIn) : Nat := if s.md.lastCause = 2 then s.pins.lvsel else i.lvsel

/-- At POR the copies of the fuses are read, and the key area with its CRC (R473 sources 3 and 5, R475). -/
def State.porAlarms (s : State) : State :=
  let bad := b2n (disagree s.sec.fieldCopies) + 2 * b2n (disagree s.sec.provisionCopies)
  let s1 := if bad = 0 then s
    else ({ s with sec := { s.sec with integrity := s.sec.integrity ||| bad } } : State).alarmActs 3
  if s1.keyAreaBad then s1.alarmActs 5 else s1

/-- Steps 1 to 5: device time starts in step 4 at 0 and has run for the four frames of step 6 of R284 when step 5 begins;
everything recorded before carries that TIME, and the record of a missing set comes after that start (R95, R96, R385). -/
def State.powerUpLoad (s : State) (i : PowerUpIn) : State :=
  let fs := s.findings i
  let up := bitmap (s.tileList.filter (fun t => s.lives i t && !bit i.trainFailed t))
  let locked := bitmap (s.tileList.filter (s.lives i))
  let s1 := s.recoverAll i
  let s2 : State :=
    { s1 with
      pins := { s1.pins with lvsel := s1.strapsNow i }
      clk := { s1.clk with
        time := 4 * ticksPerFrame, running := false, pllLocked := locked, refPresent := locked, holdover := 0
        slowOk := s1.clk.slowOk % 2 ^ s1.T }
      link := { s1.link with trained := up } }
  let loaded := s2.loadAll
  let s3 := s2.tileList.foldl State.resetRecord loaded
  let s4a := fs.foldl State.recoverRecords s3
  let s4 : State := { s4a with cel := { s4a.cel with storeResult := 0 } }
  let s5 := s4.tileList.foldl State.lostPairs s4
  let s6 := s5.tileList.foldl (State.tileUp i) s5
  let s6a := if s.md.lastCause = 0 then s6.porAlarms else s6
  let s7 := if i.test ∧ s.md.lastCause ≠ 2 then s6a.alarmActs 4 else s6a
  ({ s7 with clk := { s7.clk with running := true, frameDone := 4, sampleDone := 4 * samplesPerFrame } } : State).noSetRecord
    s7.cel.activeSet

/-- Every comparator evaluates its input for the first time (R571): those named are beyond their thresholds. -/
def State.firstLook (s : State) (active : List Nat) : State :=
  let s1 := active.foldl (fun s k => s.updComp (k / 64) (k % 64) (fun c => { c with beyond := true })) s
  (active.filter (fun k => s.hasTile (k / 64) && decide (k % 64 < 56))).foldl (fun s k => s.firstEval (k / 64) (k % 64)) s1

/-- AUTO_MODE at the end of power-up (R101, R104, R112): the entry check, STANDBY, and the automatic start. -/
def State.autoMode (s : State) : State :=
  let a := s.ob 0x2000 4
  if a = 0 ∨ s.md.mode ≠ .configure then s
  else
    match s.entryFail with
    | some k => s.reqAnswer (entryResult k) k
    | none =>
      let s1 := s.enterMode .standby 3 0
      if a = 2 then s1.beginStart .automatic else s1

/-- Steps 6 and 7; a SAFE_IN# that is low as the part leaves RESET is a fault from then on (R451). -/
def State.powerUpEnd (s : State) (i : PowerUpIn) : State :=
  let s1 : State := { s with cal := { s.cal with startedAt := s.now } }
  let s2 := (s1.reach (s.now + 1300000)).calFinish i.cal
  let s2a := if s2.pins.safeIn then s2 else s2.report 0 srcSafety 0x0C01 5 0xFFFF []
  let s3 := s2a.enterMode .configure 3 0
  let s4 : State :=
    { s3 with
      md := { s3.md with powerupTime := i.upTime10us, vinGoodSince := s3.now }
      clk := { s3.clk with frameDone := s3.now / ticksPerFrame, sampleDone := s3.now / ticksPerSample } }
  (s4.firstLook i.compActive).autoMode

/-- The power-up (R95): after POR or a reset; TEST on a part without the FIELD fuse enters factory test (R50), and
without tile 0 the part stays in RESET (R63, R97). The straps are sampled at POR and RESET# only: a Reset Node keeps them
(R48, R100; DEDUCED, log entry 56). -/
def State.powerUp (s : State) (i : PowerUpIn) : State :=
  let s0 := if i.por ∧ ¬(s.md.mode = .reset ∧ s.md.lastCause = 0 ∧ ¬s.md.factoryTest) then s.afterReset 0 true else s
  if s0.md.mode ≠ .reset ∨ s0.md.factoryTest then s0
  else if i.test ∧ s0.sec.field = false ∧ s0.md.lastCause ≠ 2 then
    { s0 with md := { s0.md with factoryTest := true }, pins := { s0.pins with lvsel := i.lvsel } }
  else if s0.lives i 0 = false ∨ bit i.trainFailed 0 then { s0 with pins := { s0.pins with lvsel := s0.strapsNow i } }
  else (s0.powerUpLoad i).powerUpEnd i

end Sys2Proof.Machine
end

