-- ==== Sys2Proof/Machine/SenseOps.lean ====
section
/-! DEFINITION. Sensing: sequence tables and their results, check conversions, plausibility, and the comparators' edges
with all that they act on (R237, R299 to R333, R571). -/

namespace Sys2Proof.Machine

/-! ### Results of sequence entries (R304 to R310) -/

/-- The result of an entry from the sum of its samples (R306). -/
def entryResultOf (k sh sum : Nat) : Nat := if sh < k then (sum + 2 ^ (k - sh - 1)) / 2 ^ (k - sh) else sum

/-- VOLTS of a result of shift `sh`: 0.1 mV, nearest (R119, R307, R337). -/
def voltsOf (sh r : Nat) : Nat := fitN 16 (roundUp (r * 390625) (100000 * 2 ^ sh) : Nat)

/-- The uses of a new result of channel `ch` of tile t by entry e of converter v: stale counts, VIN of the loops whose
FF_ENTRY it is, phase peak and histogram (R127, R310, R326, R533). -/
def State.useResult (s : State) (t v e ch : Nat) : State :=
  let s1 : State :=
    { s with
      loops := s.loops.updAll {} (s.loopList.filter (fun l => (s.loop l).tl.stale.get 0 (64 * t + ch) != 0))
        (fun _ lp => { lp with tl := { lp.tl with stale := lp.tl.stale.set 0 (64 * t + ch) 0 } }) }
  let ffs := s1.loopList.filter (fun l => s1.enabled l && s1.anchor l == t && s1.lo l 0 0xB == 64 * v + e)
  let s2 : State :=
    { s1 with loops := s1.loops.updAll {} ffs (fun _ lp => { lp with cp := { lp.cp with ffSeen := true } }) }
  if ch < 16 then
    let p := 16 * t + ch
    match s2.phase10 p with
    | some i => (s2.updPhase p (fun ph => { ph with tl := { ph.tl with curPeak := maxOpt ph.tl.curPeak (some i) } })).histValue [t] 4 p i
    | none => s2
  else s2

/-- The tables of a tile at the present time, with every event that has reached its taps. -/
def State.tablesNow (s : State) (t : Nat) : State := (s.flushTile t).tablesAt t s.now

/-- The instant of the next result of converter `v`, 9 clocks after the last sampling clock of its entry (R307). -/
def State.resultTime (s : State) (t v : Nat) : Option Nat :=
  match ((s.tile t).seq v).done with
  | d :: _ => some (10 * (d.last + 9))
  | [] => (s.startClock t v).map (fun c => 10 * (lastClock (2 ^ field (s.entryWord t v) 8 4) c + 9))

/-- A result is written: RAW, VOLTS, LATEST, and the pass that it ends (R306, R307, R335). -/
def Tile.write (ti : Tile) (v : Nat) (d : DoneEntry) (sum : Nat) : Tile :=
  let r := entryResultOf (field d.word 8 4) (field d.word 12 4) sum
  let volts := voltsOf (field d.word 12 4) r
  { ti.updSeq v (fun q => { q with done := q.done.drop 1, passes := if d.ends then wrapAdd 32 q.passes 1 else q.passes }) with
    raw := ti.raw.upd (0, 0, false, 0) (64 * v + d.entry) (fun o => (r, (o.2.1 + 1) % 256, d.late, volts))
    latest := ti.latest.set none (field d.word 0 7) (some volts) }

/-- The sum of an entry's samples after the calibration correction (R300, R306, R317). -/
def State.sumOf (s : State) (t v : Nat) (codes : List Nat) : Nat := (codes.map (s.corrected t (4 + v))).sum

/-- TELEMETRY_RESULT (R300, R306, R307, R317): the 2^k stage-trimmed codes of the entry whose result is the next of converter
`v`; another number of codes is no result of it. -/
def State.telemResult (s : State) (t v : Nat) (codes : List Nat) : State :=
  if s.hasTile t && decide (v < 2) then
    let s0 := s.tablesNow t
    match s0.resultTime t v with
    | none => s0
    | some at_ =>
      let s1 := (s0.reach at_).tablesNow t
      match ((s1.tile t).seq v).done with
      | [] => s0
      | d :: _ =>
        if codes.length = 2 ^ field d.word 8 4 then
          (s1.updTile t (fun ti => ti.write v d (s1.sumOf t v codes))).useResult t v d.entry (field d.word 0 7)
        else s0
  else s

/-- TELEMETRY_TRIGGER (R302, R304): the pulses of the taps up to the present time reach the entry of a converter that waits for
them; an edge of the wake line does so by itself. -/
def State.telemTrigger (s : State) (t v : Nat) : State :=
  if s.hasTile t && decide (v < 2) then s.tablesNow t else s

/-- The next clock at which the timer fires for the entry of converter `v` (R304, R308). -/
def State.timerNext (s : State) (t v : Nat) : Nat :=
  let p := 10 * Nat.max 1 (s.entryNow t v).period
  (s.now + p - 1) / p * p

/-- TELEMETRY_TIMER (R304): the tile's timer fires at its next clock; for an entry of old tables with their period (R308). -/
def State.telemTimer (s : State) (t : Nat) : State :=
  if s.hasTile t && s.tablesRun t then
    let s0 := s.tablesNow t
    let at_ := Nat.min (s0.timerNext t 0) (s0.timerNext t 1)
    let s1 := (s0.reach at_).tablesNow t
    s1.triggerAt t 2 at_ (fun v => s1.timerNext t v == at_)
  else s

/-- TELEMETRY_WAIT_LIMIT (R304): no trigger has come, and the entry proceeds LATE. -/
def State.telemLimit (s : State) (t v : Nat) : State :=
  if s.hasTile t && decide (v < 2) then
    let s0 := s.tablesNow t
    let q := (s0.tile t).seq v
    let n := s0.entryNow t v
    if s0.tablesRun t && q.first.isNone && field n.word 29 2 != 0 then
      let c0 := q.last + 1 + n.limit
      let s1 := (s0.reach (10 * c0)).tablesNow t
      if ((s1.tile t).seq v).first.isSome || ((s1.tile t).seq v).last != q.last then s1
      else
        s1.updTile t (fun ti =>
          { ti.updSeq v (fun q => { q with first := some (c0 + entryDelay n.word), late := true }) with
            late := satAdd 32 ti.late 1 })
    else s0
  else s

/-- TELEMETRY_STALE (R310): the channel `c` = 64 · tile + code has gone 8 whole frames without a new result. -/
def State.telemStale (s : State) (l c : Nat) : State :=
  if s.loopIs l && (s.loop l).tl.stale.get 0 c == 9 then
    let s1 := s.updLoop l (fun lp => { lp with tl := { lp.tl with stale := lp.tl.stale.set 0 c 10 } })
    s1.loopReport srcReg l 0x0307 3 [c % 64]
  else s

/-! ### Check conversions (R311, R312) -/

/-- One check: bit i of the failed checks, fault at the second failure in succession. Kind 0 REF_B, 1 sense pair. -/
def State.checkOne (s : State) (t v i kind : Nat) (fails : Bool) : State :=
  let ti := s.tile t
  let was := bit (if kind = 0 then ti.refBad else ti.senseBad) i
  let had := bit (if kind = 0 then ti.refFault else ti.senseFault) i
  let fault := fails && (was || had)
  let s1 := s.updTile t (fun ti =>
    if kind = 0 then
      { ti with
        refBad := putBit ti.refBad i fails, refFault := putBit ti.refFault i fault
        refFails := satAdd 32 ti.refFails (b2n fails) }
    else
      { ti with
        senseBad := putBit ti.senseBad i fails, senseFault := putBit ti.senseFault i fault
        senseFails := satAdd 32 ti.senseFails (b2n fails) })
  if fails then
    if fault && !had then
      let s2 := s1.report t srcTelem 0x0803 5 t [v, kind]
      s2.dangerous (s2.loopsOn t) t 0x0803 t false
    else if had then s1
    else s1.report t srcTelem 0x0802 2 t [v, kind]
  else s1

/-- A REF_B code is off by more than 8 LSB. -/
def refOff (c : Nat) : Bool := decide (c + 8 < 3072) || decide (3080 < c)
/-- Two codes differ by more than a tolerance. -/
def codesDiffer (a b tol : Nat) : Bool := decide (a + tol < b) || decide (b + tol < a)

/-- The sense pair of slot k through converter v (R312); a slot without an anchored loop is not judged. -/
def State.checkSense (s : State) (t v k c loop : Nat) : State :=
  match s.anchoredAt t k with
  | some _ => s.checkOne t v k 1 (codesDiffer c loop (s.ob (0x3A03 + 32 * t) 1))
  | none => s

/-- The die temperature of two codes, 0.1 °C, nearest (R299, R312). -/
def dieOf (c0 c1 : Nat) : Int := roundAway (((c0 + c1) * 1953125 : Nat) - 6000000000) 3000000

/-- The next check of converter `v` of tile t and the TADC clock at which it takes it: at its own clock 512·n, or after the
start-up of a converter that is powered down there, in order and on consecutive clocks; no clock is known while the entry that
powered it down waits for its trigger (R303, R311). -/
def State.checkNext (s : State) (t v : Nat) : Option (Nat × Nat) :=
  let q := (s.tile t).seq v
  let w := s.entryWord t v
  let due := Nat.max q.check ((s.now + 5119) / 5120)
  if s.tablesRun t && powersDown w then
    let from_ := (q.last + 1 + 511) / 512
    let n := if (match q.readyClock w with | some c => decide (s.now < 10 * c) | none => true)
      then Nat.max q.check (Nat.min from_ due) else due
    match q.wakeClock w with
    | some c => some (n, if from_ ≤ n ∧ 512 * from_ < c ∧ 512 * n < c + (n - from_) then c + (n - from_) else 512 * n)
    | none => if from_ ≤ n then none else some (n, 512 * n)
  else some (due, 512 * due)

/-- Converter `v` of tile t takes check n: stage-trimmed codes of the check and of the loop converter in the same clock (R311,
R312, R317). -/
def State.checkTake (s : State) (t v n code loop : Nat) : State :=
  let s1 := s.updTile t (fun ti => ti.updSeq v (fun q => { q with check := n + 1 }))
  let x := s.corrected t (4 + v) code
  match n % 4 with
  | 0 => s1.checkOne t v v 0 (refOff x)
  | 1 => s1.checkSense t v (2 * v) x (s.corrected t (2 * v) loop)
  | 2 =>
    let s2 := s1.updTile t (fun ti => ti.updSeq v (fun q => { q with die := some (n, x) }))
    match ((s2.tile t).seq 0).die, ((s2.tile t).seq 1).die with
    | some a, some b => if a.1 = b.1 then s2.updTile t (fun ti => { ti with dieTemp := dieOf a.2 b.2 }) else s2
    | _, _ => s2
  | _ => s1.checkSense t v (2 * v + 1) x (s.corrected t (2 * v + 1) loop)

/-- CHECK_CONVERSION (R311, R312): the next check clock of a tile; a code of a converter that takes no check at that clock is
none. -/
def State.checkConv (s : State) (t c0 c1 loop0 loop1 : Nat) : State :=
  if s.hasTile t && s.md.mode != .reset && s.cal.state != 1 && s.clk.running then
    let s0 := s.tablesNow t
    let a := s0.checkNext t 0
    let b := s0.checkNext t 1
    match ((a.toList ++ b.toList).map (·.2)).min? with
    | none => s0
    | some m =>
      let take (s : State) (v : Nat) (x : Option (Nat × Nat)) (code loop : Nat) : State :=
        match x with
        | some e => if e.2 = m then s.checkTake t v e.1 code loop else s
        | none => s
      take (take (s0.reach (10 * m)) 0 a c0 loop0) 1 b c1 loop1
  else s

/-- BANDGAP_DRIFT (R449): the largest difference, and a fault where it has been outside ±1.5 % (0.01 % units). -/
def State.bandgap (s : State) (t diff : Nat) : State :=
  if s.hasTile t && s.md.mode != .reset then
    let s1 : State := { s with diag := { s.diag with bandgap := Nat.max s.diag.bandgap diff } }
    let s2 := s1.updTile t (fun ti => { ti with bandFault := decide (150 < diff) })
    if diff ≤ 150 ∨ (s.tile t).bandFault then s2
    else
      let s3 := s2.report t srcTelem 0x0803 5 t [0]
      s3.dangerous (s3.loopsOn t) t 0x0803 t false
  else s

/-! ### Plausibility (R321) -/

/-- PLAUSIBILITY_TIMEOUT (R321): the condition has lasted PLAUS_TIME. -/
def State.plausTimeout (s : State) (l : Nat) : State :=
  if s.loopIs l && s.plausible l && (s.loop l).pr.plaus == 2 then
    let s1 := s.reach ((s.loop l).pr.plausSince + 500 * s.lo l 0x13 0xA)
    let s2 := s1.updLoop l (fun lp => { lp with pr := { lp.pr with plaus := 3 } })
    let s3 := s2.loopReport srcReg l 0x0805 5 [3]
    s3.dangerous [l] (s.anchor l) 0x0805 l false
  else s

/-! ### Comparator edges (R327 to R333, R571) -/

/-- COMPARATOR_ACTIVATION (R327, R330). -/
def State.compOn (s : State) (t c : Nat) : State :=
  if s.hasTile t && decide (c < 56) && s.md.mode != .reset then
    if s.mayActivate t c then (s.activate t c).compActs t c else s.updComp t c (fun k => { k with beyond := true })
  else s

/-- COMPARATOR_RELEASE (R328). -/
def State.compOff (s : State) (t c : Nat) : State :=
  if s.hasTile t && decide (c < 56) && s.md.mode != .reset then
    let k := s.comp t c
    if k.output && !k.masked && !k.settling then s.release t c else s.updComp t c (fun k => { k with beyond := false })
  else s

/-- COMPARATOR_SETTLED (R329, R571): the output follows its input again. -/
def State.compSettled (s : State) (t c : Nat) (beyond : Bool) : State :=
  if s.hasTile t && decide (c < 56) && (s.comp t c).settling then
    let s1 := (s.reach (s.comp t c).settleUntil).updComp t c (fun k => { k with settling := false })
    if beyond then s1.compOn t c else s1.compOff t c
  else s

/-! ### Calibration (R314, R315) -/

/-- CALIBRATION_COMPLETE (R315, R316): 2.6 ms after the start. -/
def State.calComplete (s : State) (rs : List CalResult) : State :=
  if s.cal.state = 1 then (s.reach (s.cal.startedAt + 1300000)).calFinish rs else s

end Sys2Proof.Machine
end

