-- ==== Sys2Proof/Machine/Cellar.lean ====
section
/-! DEFINITION. The Cellar: cell operations, tallies, the power-fail store, the scrub and configuration sets (R410 to R438). -/

namespace Sys2Proof.Machine
/-- The clients whose page write of tile 0 has completed are answered (R489). -/
def State.answerKept (s : State) : State :=
  ((s.cellar 0).kept).foldl (fun s ch => s.answer ch (.ok [])) (s.updCellar 0 (fun c => { c with kept := [] }))

/-- The step in progress on tile t is complete. -/
def State.stepCompletes (s : State) (t : Nat) : State :=
  ((s.reach ((s.cellar t).stepEnd s.now)).updCellar t (fun c => c.stepDone t s.cel.saveSet (s.trimBytes t))).answerKept

/-- PAGE_WRITE_COMPLETE (R415): 3.0 ms after its start, a page write, the base write of a fold or a page of a save; a store stops it
(R427, R431). -/
def State.pageCompletes (s : State) (t : Nat) : State :=
  if s.hasTile t && s.cel.storeState == 0 then
    match (s.cellar t).busy with
    | some (.page _ _ _ _) | some (.foldBase _) | some .save => s.stepCompletes t
    | _ => s
  else s

/-- TALLY_INCREMENT (R424): the operation of tally i, at the head of the queue of a free controller, begins. -/
def State.tallyBegins (s : State) (t i : Nat) : State :=
  if s.hasTile t && (s.cellar t).queue.head? == some (.tally i) then s.cellStart t else s

/-- TALLY_BIT_PROGRAMMED (R424): a bit after 0.2 ms, a fold after 6.0 ms; the controller is free. -/
def State.tallyCompletes (s : State) (t : Nat) : State :=
  if s.hasTile t && s.cel.storeState == 0 then
    match (s.cellar t).busy with
    | some (.tally _) | some (.foldErase _) => s.stepCompletes t
    | some (.foldBase _) => (s.stepCompletes t).stepCompletes t
    | _ => s
  else s

/-- Frames of an hour. -/
def framesPerHour : Nat := 878906250

/-- HOUR_TALLY (R423): the next full hour of tile t in RUN (tally 0), or of device time (tally 1), is complete. -/
def State.hourEnds (s : State) (t i : Nat) : State :=
  let h := s.cellar t
  if s.hasTile t && s.clk.running && i == 0 then
    let due := (h.runHours + 1) * framesPerHour
    if due ≤ s.md.runFrames ∨ s.md.mode = .run then
      let s1 := s.reach (if s.md.runFrames < due then (s.frame + (due - s.md.runFrames)) * ticksPerFrame else s.now)
      let s2 : State := { s1 with md := { s1.md with runFrames := Nat.max s1.md.runFrames due } }
      (s2.updCellar t (fun c => { c with runHours := c.runHours + 1 })).tally [t] 0
    else s
  else if s.hasTile t && s.clk.running && i == 1 then
    let s1 := s.reach ((h.powerHours + 1) * framesPerHour * ticksPerFrame - s.clk.powerBase)
    (s1.updCellar t (fun c => { c with powerHours := c.powerHours + 1 })).tally [t] 1
  else s

/-- CELLAR_SCRUB (R434): every tile whose 24 h of POWER_HOURS are over reads its pairs and images. -/
def State.scrub (s : State) : State := if s.clk.running then s.tileList.foldl State.scrubTile s else s

/-- CELL_OPERATION_START (R410). -/
def execCellOperationStart (t : Nat) (s : State) : Out := .next (if s.hasTile t then s.cellStart t else s)

/-- PAGE_WRITE_COMPLETE (R415). -/
def execPageWriteComplete (t : Nat) (s : State) : Out := .next (s.pageCompletes t)

/-- TALLY_INCREMENT (R424). -/
def execTallyIncrement (t i : Nat) (s : State) : Out := .next (s.tallyBegins t i)

/-- TALLY_BIT_PROGRAMMED (R424). -/
def execTallyBitProgrammed (t : Nat) (s : State) : Out := .next (s.tallyCompletes t)

/-- HOUR_TALLY (R423). -/
def execHourTally (t i : Nat) (s : State) : Out := .next (s.hourEnds t i)

/-- STORE_REQUEST (R427): a write of CELLAR_STORE:01. -/
def execStoreRequest (ch : Chan) (v : Nat) (s : State) : Out := .next (s.writeAt true ch 0x4801 1 1 v)

/-- STORE_COMPLETE (R427, R428). -/
def execStoreComplete (vholdMv : Nat) (s : State) : Out := .next (s.endStore vholdMv)

/-- CELLAR_SCRUB (R434). -/
def execCellarScrub (s : State) : Out := .next (s.scrub)

/-- CONFIG_SAVE (R421): a write of CONFIG_SET:02. -/
def execConfigSave (ch : Chan) (n : Nat) (s : State) : Out := .next (s.writeAt true ch 0x4810 2 1 n)

/-- CONFIG_SNAPSHOT (R421). -/
def execConfigSnapshot (s : State) : Out := .next (s.snapshotSet)

/-- CONFIG_SAVE_COMPLETE (R421). -/
def execConfigSaveComplete (s : State) : Out := .next (s.completeSave.answerKept)

/-- CONFIG_ACTIVE (R438): a write of CONFIG_SET:01. -/
def execConfigActive (ch : Chan) (n : Nat) (s : State) : Out := .next (s.writeAt true ch 0x4810 1 1 n)

/-- CONFIG_RESTORE (R438): a write of CONFIG_SET:03. -/
def execConfigRestore (ch : Chan) (n : Nat) (s : State) : Out := .next (s.writeAt true ch 0x4810 3 1 n)

end Sys2Proof.Machine
end

