-- ==== Sys2Proof/Machine/Clock.lean ====
section
/-! DEFINITION. Clocks, device time, watchdogs, and the two periodic commands (R13, R25, R64 to R72, R295). -/

namespace Sys2Proof.Machine

/-- REFCLK_MISSING_EDGE (R64): a missing edge. -/
def execRefclkMissingEdge (t : Nat) (s : State) : Out := .next (s.refFault t 1)

/-- PLL_UNLOCK (R65): loss of lock. -/
def execPllUnlock (t : Nat) (s : State) : Out := .next (s.refFault t 2)

/-- REFCLK_FREQUENCY_CHECK (R64): the count over 256 SLOW periods. -/
def execRefclkFrequencyCheck (t count : Nat) (s : State) : Out := .next (s.frequencyCheck t count)

/-- SLOW_STOPPED (R67). -/
def execSlowStopped (t : Nat) (s : State) : Out := .next (s.slowStops t)

/-- WATCHDOG_EXPIRY (R25). -/
def execWatchdogExpiry (t : Nat) (s : State) : Out := .next (s.watchdog t)

/-- PROCESSOR_RECOVERED (R25). -/
def execProcessorRecovered (t : Nat) (s : State) : Out := .next (s.recovered t)

/-- FRAME_BOUNDARY (R72). -/
def execFrameBoundary (s : State) : Out := .next (s.frameBoundary)

/-- LOOP_SAMPLE (R121). -/
def execLoopSample (cs : List Conv) (s : State) : Out := .next (s.oneSample cs)

/-- SYNC_IN_EDGE (R295). -/
def execSyncInEdge (s : State) : Out := .next (s.syncIn)

/-- TIME (R71). -/
def execTimeMessage (ch : CanChan) (format : CanFormat) (v : Nat) (s : State) : Out :=
  .next (s.onFrame ch format (State.timeRx · ch v))

end Sys2Proof.Machine
end

