-- ==== Sys2Proof/Machine/Commit.lean ====
section
/-! DEFINITION. Writes and commits of the dictionary (R75 to R90). -/

namespace Sys2Proof.Machine

/-- COMMIT (R80): a write of COMMIT:01. -/
def execCommit (ch : Chan) (tag : Nat) (s : State) : Out := .next (s.writeAt true ch 0x2010 1 4 tag)

/-- HELD_REQUEST_SERVED (R81). -/
def execHeldRequestServed (s : State) : Out := .next (s.serveHeld)

/-- DISCARD (R85): a write of SHADOW_STATUS:04. -/
def execDiscard (ch : Chan) (v : Nat) (s : State) : Out := .next (s.writeAt true ch 0x2011 4 1 v)

/-- OBJECT_WRITE (R75, R491, R492). -/
def execObjectWrite (ch : Chan) (idx sub len v : Nat) (part : Transfer) (s : State) : Out :=
  .next (s.writePart ch idx sub len v part)

end Sys2Proof.Machine
end

