-- ==== Sys2Proof/Machine/Event.lean ====
section
/-! DEFINITION. Events, rings, recorder and faults (R378 to R409). -/

namespace Sys2Proof.Machine
/-- Severity of a code; where R405 gives a range, the data decide: an area, a REACTION, an outcome, a state, and for 0x0505
whether the causing code is a trip's (R221, R378). 0x0003 is here without its range. -/
def sevOf (code : Nat) (data : List Nat) : Option Nat :=
  let d0 := data.getD 0 0
  match code with
  | 0x0001 | 0x0007 | 0x0301 | 0x0302 | 0x0303 | 0x0308 | 0x0309 | 0x0404 | 0x0406 | 0x0A05 | 0x0F01 => some 0
  | 0x0209 | 0x030A | 0x0401 | 0x0402 | 0x0403 | 0x0407 | 0x0408 | 0x0701 | 0x0806 | 0x0904 | 0x0A03 | 0x0A08 | 0x0B02
  | 0x0C03 => some 1
  | 0x0006 | 0x0204 | 0x020B | 0x0304 | 0x0305 | 0x0405 | 0x0503 | 0x0506 | 0x0601 | 0x0702 | 0x0802 | 0x0903 | 0x0907
  | 0x0A01 | 0x0A02 | 0x0A04 | 0x0A06 | 0x0A07 | 0x0A09 | 0x0B01 | 0x0D01 | 0x0E02 | 0x0E04 => some 2
  | 0x0002 | 0x0004 | 0x0005 | 0x0102 | 0x0201 | 0x0207 | 0x0307 | 0x0501 | 0x0504 | 0x0508 | 0x0703 | 0x0801 | 0x0804
  | 0x0901 | 0x0902 | 0x0906 | 0x0B04 | 0x0E01 => some 3
  | 0x0908 | 0x0909 | 0x090A => some 4
  | 0x0101 | 0x0202 | 0x0203 | 0x0205 | 0x0206 | 0x0208 | 0x0306 | 0x0502 | 0x0507 | 0x0602 | 0x0803 | 0x0805
  | 0x0C01 | 0x0C02 => some 5
  | 0x0D02 => some 6
  | 0x020A => some (if d0 = 4 ∨ d0 = 5 then 5 else 3)
  | 0x0505 => some (if data.take 2 = two 0x0506 then 3 else 5)
  | 0x0905 => some (reactionSev (data.getD 1 0))
  | 0x0B03 => some (if d0 = 0 then 1 else 3)
  | 0x0E03 => some (if d0 = 2 then 3 else 2)
  | _ => none

/-- The catalogue gives a code this severity; 0x0003 is of severity 0 where a trigger is ignored and 1 where it is refused (R101,
R104, R378, R405). -/
def sevOk (code sev : Nat) (data : List Nat) : Bool :=
  if code = 0x0003 then decide (sev ≤ 1) else sevOf code data == some sev

/-- EVENT_REPORT (R381, R384): a report of a code of the catalogue at a severity it gives that code. -/
def State.eventReport (s : State) (t src code sev inst : Nat) (data : List Nat) : State :=
  if s.hasTile t && decide (src < 132) && sevOk code sev data then s.report t src code sev inst data else s

/-- The oldest record of a list of unread ones of ring r leaves the ring and is forwarded. -/
def State.forwardHead (s : State) (r : Nat) : List Rec → State
  | x :: _ => (s.ringAdvance r 1).forwarded x
  | [] => s

/-- RECORD_FORWARD (R403): the oldest unread record of the host tile's ring with CONSUMER 4 reaches tile 0; the processors of both
tiles do this (R23), and until they run the record stays in its ring. -/
def State.forwardNext (s : State) (t : Nat) : State :=
  if s.hasTile t && s.procRuns t && s.procRuns 0 then
    match s.forwardRing t with
    | some r => s.forwardHead r (s.ring r).unread
    | none => s
  else s

/-- EMCY_INHIBIT_END (R504): the oldest waiting EMCY of a channel is sent and begins a new inhibit time. -/
def State.inhibitEnds (s : State) (c : CanChan) : State :=
  match c with
  | .a => match s.net.emcyA with
    | e :: q =>
      { s with
        net := { s.net with
          emcyA := q, sent := if s.emcyOn .a then .emcy .a e.1 e.2.1 e.2.2 :: s.net.sent else s.net.sent } }
    | [] => { s with net := { s.net with inhibitA := false } }
  | .b => match s.net.emcyB with
    | e :: q =>
      { s with
        net := { s.net with
          emcyB := q, sent := if s.emcyOn .b then .emcy .b e.1 e.2.1 e.2.2 :: s.net.sent else s.net.sent } }
    | [] => { s with net := { s.net with inhibitB := false } }

/-- QUEUED_REACTION_START (R389): only where no reaction is in progress on the target. -/
def State.queuedStart (s : State) (n : Nat) : State :=
  if s.hasRail n then s.takeWaiting n else s

/-- QUEUED_REACTION_START (R389). -/
def execQueuedReactionStart (target : Nat) (s : State) : Out := .next (s.queuedStart target)

/-- EVENT_REPORT (R381, R384). -/
def execEventReport (t src code sev inst : Nat) (data : List Nat) (s : State) : Out :=
  .next (s.eventReport t src code sev inst data)

/-- RECORD_WRITE (R383, R382). -/
def execRecordWrite (t : Nat) (s : State) : Out := .next (if s.hasTile t then s.writeNext t else s)

/-- RECORD_FORWARD (R403, R404). -/
def execRecordForward (t : Nat) (s : State) : Out := .next (s.forwardNext t)

/-- EMCY_INHIBIT_END (R504). -/
def execEmcyInhibitEnd (ch : CanChan) (s : State) : Out := .next (s.inhibitEnds ch)

/-- RECORDER_READ (R399, R400): a read of REC_WINDOW:01. -/
def execRecorderRead (ch : Chan) (part : Transfer) (s : State) : Out := .next (s.readPart ch 0x4482 1 1024 part)

/-- VIEW (R399): a write of REC_CURSOR:01. -/
def execView (ch : Chan) (v : Nat) (s : State) : Out := .next (s.writeAt true ch 0x4481 1 1 v)

/-- POSITION (R399): a write of REC_CURSOR:02. -/
def execPosition (ch : Chan) (v : Nat) (s : State) : Out := .next (s.writeAt true ch 0x4481 2 4 v)

/-- REC_CLEAR (R401): a write of REC_CLEAR:01. -/
def execRecClear (ch : Chan) (v : Nat) (s : State) : Out := .next (s.writeAt true ch 0x4484 1 1 v)

/-- FAULT_ACK (R403): a write of FAULT_ACTIVE:04. -/
def execFaultAck (ch : Chan) (v : Nat) (s : State) : Out := .next (s.writeAt true ch 0x4501 4 1 v)

/-- FIRST_CLEAR (R390): a write of FAULT_ACTIVE:06. -/
def execFirstClear (ch : Chan) (v : Nat) (s : State) : Out := .next (s.writeAt true ch 0x4501 6 1 v)

/-- SEQ_FIRST_FAIL_CLEAR (R369): a write of SEQ_FIRST_FAIL:07. -/
def execSeqFirstFailClear (ch : Chan) (v : Nat) (s : State) : Out := .next (s.writeAt true ch 0x4302 7 1 v)

end Sys2Proof.Machine
end

