-- ==== Sys2Proof/Machine/Link.lean ====
section
/-! DEFINITION. The Pergola link (R277 to R293). -/

namespace Sys2Proof.Machine

/-- SAMPLE_SLOT_RECEIVED (R280, R279, R288). -/
def execSampleSlotReceived (r t k word : Nat) (s : State) : Out := .next (s.sampleSlot r t k word)

/-- CONTROL_BYTE_RECEIVED (R281, R290). -/
def execControlByteReceived (r t byte : Nat) (s : State) : Out := .next (s.controlByte r t byte)

/-- FRAME_SLOT_RECEIVED (R282, R287, R289, R292). -/
def execFrameSlotReceived (r t : Nat) (bytes : List Nat) (s : State) : Out := .next (s.frameSlot r t bytes)

/-- PORT_LOSS (R290, R291). -/
def execPortLoss (r t : Nat) (s : State) : Out := .next (s.portLost r t)

/-- PORT_LOSS_DECISION (R291). -/
def execPortLossDecision (t : Nat) (answered : Bool) (s : State) : Out := .next (s.decideLoss t answered)

/-- MGMT_PACKET_RECEIVED (R283). -/
def execMgmtPacketReceived (r t : Nat) (response crcOk : Bool) (s : State) : Out :=
  .next (s.mgmtPacket r t response crcOk)

/-- MGMT_RESEND_TIMEOUT (R283). -/
def execMgmtResendTimeout (t d : Nat) (s : State) : Out := .next (s.mgmtTimeout t d)

/-- MGMT_CREDIT_RETURN (R283, R293). -/
def execMgmtCreditReturn (t d : Nat) (s : State) : Out := .next (s.mgmtCredit t d)

end Sys2Proof.Machine
end

