-- ==== Sys2Proof/Machine/LoadLane.lean ====
section
/-! DEFINITION. The load command lane (R251 to R276, R561). -/

namespace Sys2Proof.Machine

/-- POLL (R253, R254 to R265). -/
def execPoll (t : Nat) (answer : Option Nat) (stillLow : Bool) (s : State) : Out := .next (s.transact t answer stillLow)

/-- SET_TARGET (R266). -/
def execSetTarget (t k seq payload : Nat) (s : State) : Out := .next (s.laneCommand t k 1 seq payload)

/-- SET_SLEW (R266). -/
def execSetSlew (t k seq payload : Nat) (s : State) : Out := .next (s.laneCommand t k 2 seq payload)

/-- SET_PHASE_BUDGET (R266). -/
def execSetPhaseBudget (t k seq payload : Nat) (s : State) : Out := .next (s.laneCommand t k 3 seq payload)

/-- ARM_PREVIEW (R233, R266, R269). -/
def execArmPreview (t k seq payload : Nat) (s : State) : Out := .next (s.laneCommand t k 4 seq payload)

/-- GET_STATUS (R267). -/
def execGetStatus (t k seq payload : Nat) (s : State) : Out := .next (s.laneCommand t k 5 seq payload)

/-- GET_VOUT (R266). -/
def execGetVout (t k seq payload : Nat) (s : State) : Out := .next (s.laneCommand t k 6 seq payload)

/-- GET_IOUT (R266). -/
def execGetIout (t k seq payload : Nat) (s : State) : Out := .next (s.laneCommand t k 7 seq payload)

/-- GET_TEMP (R266). -/
def execGetTemp (t k seq payload : Nat) (s : State) : Out := .next (s.laneCommand t k 8 seq payload)

/-- GET_POWER (R266). -/
def execGetPower (t k seq payload : Nat) (s : State) : Out := .next (s.laneCommand t k 9 seq payload)

/-- SET_POWER_STATE (R266). -/
def execSetPowerState (t k seq payload : Nat) (s : State) : Out := .next (s.laneCommand t k 0xA seq payload)

/-- ACK_ALERT (R268). -/
def execAckAlert (t k seq payload : Nat) (s : State) : Out := .next (s.laneCommand t k 0xB seq payload)

/-- ALERT_CLEAR (R268): a write of LANE_STATUS:09. -/
def execAlertClear (ch : Chan) (l mask : Nat) (s : State) : Out :=
  .next (s.writeAt (s.hasLoop l) ch (0x5010 + l) 9 2 mask)

/-- LANE_BACKOFF_END (R265). -/
def execLaneBackoffEnd (t : Nat) (s : State) : Out := .next (s.backoffEnds t)

/-- LANE_CFG_HELD_WRITE (R75, R273). -/
def execLaneCfgHeldWrite (t : Nat) (s : State) : Out := .next (if s.hasTile t then s.applyLaneCfg t else s)

/-- LANE_LEVEL_FAULT (R561, R49). -/
def execLaneLevelFault (t mv : Nat) (s : State) : Out := .next (s.laneLevel t mv)

end Sys2Proof.Machine
end

