-- ==== Sys2Proof/Machine/Mode.lean ====
section
/-! DEFINITION. Modes, starts, VIN and restart (R46, R101 to R108, R319). -/

namespace Sys2Proof.Machine

/-- A START edge (R46, R101, R104). -/
def State.startEdge (s : State) : State :=
  let s1 : State := { s with pins := { s.pins with start := true } }
  if s.md.mode = .reset then s1
  else if s.pins.safeIn = false ∨ s.startBusy then s1.triggerRecord 0 1
  else if s.md.mode = .standby then s1.beginStart .startEdge
  else s1.triggerRecord 1 1

/-- START held low for 1 ms (R106, R108). -/
def State.startLow (s : State) : State :=
  let s1 : State := { s with pins := { s.pins with start := false } }
  if s.ob 0x2000 5 ≠ 1 then s1
  else if s.md.mode = .run then s1.requestStopSeq
  else if s.md.mode = .standby ∧ s.md.restartWait then s1.cancelRestart
  else s1

/-- T0_VINSEN0 falls to a level (R107): below VIN_FAIL, VIN fails; the monitor is off with VIN_GOOD = 0. -/
def State.vinFalls (s : State) (mv : Nat) : State :=
  let s1 : State := { s with pins := { s.pins with vin := mv } }
  if s.ob 0x2000 7 ≠ 0 ∧ mv < s.ob 0x2000 8 then s1.vinLost 2 else s1

/-- PFAIL rises (R107, R427). -/
def State.pfailRises (s : State) : State := ({ s with pins := { s.pins with pfail := true } } : State).vinLost 1

/-- T0_VINSEN0 rises to a level, with PFAIL low again: at or above VIN_GOOD, VIN becomes good (R107, R108). -/
def State.vinRises (s : State) (mv : Nat) : State :=
  let s1 : State := { s with pins := { s.pins with pfail := false, vin := mv } }
  if s.vinOk = false ∧ s1.vinOk then { s1 with md := { s1.md with vinGoodSince := s.now } } else s1

/-- The waiting restart triggers RUN (R108). -/
def State.restartNow (s : State) : State :=
  if s.md.mode = .standby ∧ s.md.restartWait ∧ s.vinOk ∧ s.startBusy = false then
    (s.reach s.restartAt).beginStart .restart
  else s

/-- NMT Start (R101, R110): with NMT_START = 1 also a trigger to RUN, refused with an event where the table of R101 does not
allow it (in RUN, and while the checks run, ignored as in R104; DEDUCED, log entry 118). -/
def State.nmtStart (s : State) (c : CanChan) : State :=
  if s.nmtHeard c = false then s
  else
    let s1 : State := { s with net := s.net.setNmt c .operational }
    if s.ob 0x2000 6 ≠ 1 then s1
    else if s.startBusy then s1.triggerRecord 0 3
    else if s.md.mode = .standby then s1.beginStart .nmtStart
    else s1.triggerRecord 1 3

/-- NMT Stop and Enter Pre-operational (R110). -/
def State.nmtSet (s : State) (c : CanChan) (m : Nmt) : State :=
  if s.nmtHeard c then { s with net := s.net.setNmt c m } else s

/-- Reset Communication (R110). -/
def State.nmtResetComm (s : State) (c : CanChan) : State := if s.nmtHeard c then s.resetComm c else s

/-- Reset Node (R100, R110): a reset, or Reset Communication on both channels with a record. -/
def State.nmtResetNode (s : State) (c : CanChan) : State :=
  if s.nmtHeard c = false then s
  else if s.md.mode = .run ∨ s.md.mode = .hold then
    ((s.resetComm .a).resetComm .b).report 0 srcMode 0x0006 2 0xFFFF [chanCode (canChan c)]
  else s.afterReset 2 false

/-- REQUEST_CONFIGURE (R101): DEV_MODE_REQ:01 = 1. -/
def execRequestConfigure (ch : Chan) (s : State) : Out := .next (s.write ch 0x2001 1 1 1)

/-- REQUEST_STANDBY (R102): DEV_MODE_REQ:01 = 2. -/
def execRequestStandby (ch : Chan) (s : State) : Out := .next (s.write ch 0x2001 1 1 2)

/-- REQUEST_STOP (R106): DEV_MODE_REQ:01 = 2. -/
def execRequestStop (ch : Chan) (s : State) : Out := .next (s.write ch 0x2001 1 1 2)

/-- REQUEST_RUN (R104): DEV_MODE_REQ:01 = 3. -/
def execRequestRun (ch : Chan) (s : State) : Out := .next (s.write ch 0x2001 1 1 3)

/-- OPEN_WIRE_SET_END (R319). -/
def execOpenWireSetEnd (readings : List OpenReading) (active : List Nat) (s : State) : Out :=
  .next (s.endOpenWire readings active)

/-- PRE_START_CHECKS_COMPLETE (R104). -/
def execPreStartChecksComplete (s : State) : Out := .next (s.endStart)

/-- HOLD_CLEAR (R105): DEV_MODE_REQ:02. -/
def execHoldClear (ch : Chan) (v : Nat) (s : State) : Out := .next (s.write ch 0x2001 2 1 v)

/-- SERVICE_ENTER (R101): DEV_MODE_REQ:03. -/
def execServiceEnter (ch : Chan) (v : Nat) (s : State) : Out := .next (s.write ch 0x2001 3 1 v)

/-- START_RISING_EDGE (R46). -/
def execStartRisingEdge (s : State) : Out := .next (s.startEdge)

/-- START_LOW_STOP (R106). -/
def execStartLowStop (s : State) : Out := .next (s.startLow)

/-- VIN_FAIL (R107). -/
def execVinFail (mv : Nat) (s : State) : Out := .next (s.vinFalls mv)

/-- PFAIL_RISE (R427). -/
def execPfailRise (s : State) : Out := .next (s.pfailRises)

/-- VIN_GOOD_AGAIN (R108). -/
def execVinGoodAgain (mv : Nat) (s : State) : Out := .next (s.vinRises mv)

/-- RESTART (R108). -/
def execRestart (s : State) : Out := .next (s.restartNow)

/-- START_REMOTE_NODE (R110). -/
def execStartRemoteNode (ch : CanChan) (format : CanFormat) (s : State) : Out :=
  .next (s.onFrame ch format (State.nmtStart · ch))

/-- STOP_REMOTE_NODE (R110). -/
def execStopRemoteNode (ch : CanChan) (format : CanFormat) (s : State) : Out :=
  .next (s.onFrame ch format (State.nmtSet · ch .stopped))

/-- ENTER_PRE_OPERATIONAL (R110). -/
def execEnterPreOperational (ch : CanChan) (format : CanFormat) (s : State) : Out :=
  .next (s.onFrame ch format (State.nmtSet · ch .preOperational))

/-- RESET_COMMUNICATION (R110). -/
def execResetCommunication (ch : CanChan) (format : CanFormat) (s : State) : Out :=
  .next (s.onFrame ch format (State.nmtResetComm · ch))

/-- RESET_NODE (R110). -/
def execResetNode (ch : CanChan) (format : CanFormat) (s : State) : Out :=
  .next (s.onFrame ch format (State.nmtResetNode · ch))

end Sys2Proof.Machine
end

