-- ==== Sys2Proof/Machine/Monitor.lean ====
section
/-! DEFINITION. Histograms and the transient capture (R533 to R542). -/

namespace Sys2Proof.Machine
/-- CAPTURE_COMPLETE (R540): 65,535 − P samples after the trigger sample have been recorded. -/
def State.captureEnds (s : State) (t : Nat) : State :=
  let c := s.caps.get {} t
  if s.hasTile t && c.state == 2 && decide (65536 ≤ c.after + c.p) then s.captureDone t c.p else s

/-- HISTOGRAM_CLEAR (R536): a write of HISTOGRAM:0A. -/
def execHistogramClear (ch : Chan) (t u v : Nat) (s : State) : Out :=
  .next (s.writeAt (s.hasTile t && decide (u < 16)) ch (0x4C00 + 16 * t + u) 0x0A 1 v)

/-- ARM (R541): a write of CAPTURE:01. -/
def execArmCapture (ch : Chan) (t : Nat) (s : State) : Out := .next (s.writeAt (s.hasTile t) ch (0x4D00 + t) 1 1 1)

/-- DISARM (R541): a write of CAPTURE:01. -/
def execDisarmCapture (ch : Chan) (t : Nat) (s : State) : Out := .next (s.writeAt (s.hasTile t) ch (0x4D00 + t) 1 1 0)

/-- CAPTURE_COMPLETE (R540). -/
def execCaptureComplete (t : Nat) (s : State) : Out := .next (s.captureEnds t)

end Sys2Proof.Machine
end

