-- ==== Sys2Proof/Machine/Network.lean ====
section
/-! DEFINITION. Networks and the SPI port (R485 to R511). -/

namespace Sys2Proof.Machine
/-- HEARTBEAT (R506): a channel that is served sends its NMT state, where the heartbeat time is not 0. -/
def State.beat (s : State) (c : CanChan) : State :=
  if s.nmtHeard c && s.ob 0x1017 0 != 0 then
    { s with net := { s.net with sent := .heartbeat c (s.nmtOf c).code :: s.net.sent } }
  else s

/-- CAN_ERROR_STATE_CHANGE (R507): 0 active, 1 passive, 2 bus-off. -/
def State.canState (s : State) (c : CanChan) (st : Nat) : State :=
  let old := match c with | .a => s.net.errA | .b => s.net.errB
  let on := match c with | .a => s.net.enA | .b => s.net.enB
  let k := match c with | .a => 0 | .b => 1
  if s.md.mode = .reset ∨ on = false ∨ st = old ∨ 2 < st then s
  else
    let n := s.net
    let up := b2n (st == 2)
    let s1 : State :=
      { s with
        net := match c with
          | .a => { n with errA := st, busOffsA := satAdd 32 n.busOffsA up }
          | .b => { n with errB := st, busOffsB := satAdd 32 n.busOffsB up } }
    s1.report 0 srcNet 0x0E03 (if st = 2 then 3 else 2) k [if st = 0 then 3 else st]

/-- The client of a number: the four USDO clients are on CAN A, the SDO server's is on CAN B. -/
def clientChan (client : Nat) : Chan := if h : client < 4 then .canA ⟨client, h⟩ else .canB

/-- SDO_TIMEOUT (R491): 1 s after the last frame of a client's open transfer, it is aborted. -/
def State.sdoEnds (s : State) (client : Nat) : State :=
  let ch := clientChan client
  if client < 5 ∧ s.served ch = true then
    match s.transferOf ch with
    | some x => (s.reach (x.frameAt + 500000000)).protocolError ch
    | none => s
  else s

/-- FETCH (R510, R511): the response frame of the last request. -/
def State.fetch (s : State) : State :=
  if s.md.mode = .reset then s else { s with obj := { s.obj with respSpi := .ok s.net.spi.frame } }

/-- SPI_TRANSACTION_TIMEOUT (R456, R508): the transaction is discarded. -/
def State.spiTimeout (s : State) (bytes : Nat) : State :=
  if s.md.mode = .reset then s
  else
    let s1 : State := { s with net := { s.net with spiAborted := satAdd 32 s.net.spiAborted 1 } }
    s1.report 0 srcNet 0x0E04 2 0xFFFF (bytesLE 4 bytes)

/-- SYNC (R497). -/
def execSyncMessage (ch : CanChan) (format : CanFormat) (counter : Nat) (s : State) : Out :=
  .next (s.onFrame ch format (State.sync · ch counter))

/-- RPDO_RECEIVED (R498). -/
def execRpdoReceived (n : Nat) (format : CanFormat) (data : List Nat) (s : State) : Out :=
  .next (s.onFrame (s.rpdoCan n) format (State.receiveRpdo · n data))

/-- TPDO_TRANSMIT (R496). -/
def execTpdoTransmit (n : Nat) (s : State) : Out := .next (s.transmitTpdo n)

/-- TPDO_ACKNOWLEDGED (R499). -/
def execTpdoAcknowledged (n : Nat) (s : State) : Out := .next (s.ackTpdo n)

/-- HEARTBEAT (R506). -/
def execHeartbeat (ch : CanChan) (s : State) : Out := .next (s.beat ch)

/-- CAN_ERROR_STATE_CHANGE (R507). -/
def execCanErrorStateChange (ch : CanChan) (st : Nat) (s : State) : Out := .next (s.canState ch st)

/-- SDO_TIMEOUT (R491). -/
def execSdoTimeout (client : Nat) (s : State) : Out := .next (s.sdoEnds client)

/-- ERROR_HISTORY_CLEAR (R505): a write of 0x1003:00. -/
def execErrorHistoryClear (ch : Chan) (v : Nat) (s : State) : Out := .next (s.writeAt true ch 0x1003 0 1 v)

/-- READ (R509). -/
def execSpiRead (idx sub len : Nat) (crcOk : Bool) (s : State) : Out := .next (s.spiRead idx sub len crcOk)

/-- WRITE (R509). -/
def execSpiWrite (idx sub len v : Nat) (crcOk : Bool) (s : State) : Out := .next (s.spiWrite idx sub len v crcOk)

/-- RING_READ (R509). -/
def execRingRead (r len : Nat) (crcOk : Bool) (s : State) : Out := .next (s.ringRead r len crcOk)

/-- FETCH (R510). -/
def execSpiFetch (s : State) : Out := .next (s.fetch)

/-- SPI_TRANSACTION_TIMEOUT (R508). -/
def execSpiTransactionTimeout (bytes : Nat) (s : State) : Out := .next (s.spiTimeout bytes)

end Sys2Proof.Machine
end

