-- ==== Sys2Proof/Machine/Power.lean ====
section
/-! DEFINITION. Power-up, RESET# and the supplies (R44, R63, R95, R546). -/

namespace Sys2Proof.Machine

/-- POWER_UP (R95). -/
def execPowerUp (i : PowerUpIn) (s : State) : Out := .next (s.powerUp i)

/-- PLL_LOCK_TIMEOUT (R63): the tile has failed before the part leaves RESET; the power-up then records it (R27), or stays
in RESET where the tile is tile 0. -/
def State.pllTimeout (s : State) (t : Nat) : State :=
  if s.hasTile t = false ∨ s.md.mode ≠ .reset then s
  else
    let s1 := s.updTile t (fun ti => { ti with state := 2, failCause := 1 })
    { s1 with clk := { s1.clk with pllLocked := clrBit s1.clk.pllLocked t } }

/-- PLL_LOCK_TIMEOUT (R63). -/
def execPllLockTimeout (t : Nat) (s : State) : Out := .next (s.pllTimeout t)

/-- RESET_ASSERTION (R44): a low that outlasts the filter, in any mode. -/
def execResetAssertion (s : State) : Out := .next (s.afterReset 1 false)

/-- An excursion of a supply (R546): under 1 µs nothing, from 5 µs a reset, between them either, completely. -/
def State.excursion (s : State) (ns : Nat) : State :=
  let fires := decide (5000 ≤ ns) || (decide (1000 ≤ ns) && Config.glitchResets s.diag.fresh)
  let s1 : State :=
    if 1000 ≤ ns ∧ ns < 5000 then { s with diag := { s.diag with fresh := s.diag.fresh + 1 } } else s
  if fires then s1.afterReset 0 true else s1

/-- SUPPLY_OUT_OF_RANGE (R546): each of the three supplies acts alike. -/
def execSupplyOutOfRange (_supply : Supply) (durationNs : Nat) (s : State) : Out := .next (s.excursion durationNs)

end Sys2Proof.Machine
end

