-- ==== Sys2Proof/Machine/Pwm.lean ====
section
/-! DEFINITION. Carrier, pulse generation, trips, read-back, taps and the debug halt (R135 to R138, R157 to R187, R194, R221). -/

namespace Sys2Proof.Machine

/-- EDGE_DECISION (R136): an edge is frozen at its decision point. -/
def execEdgeDecision (p : Nat) (s : State) : Out := .next (s.edgeDecision p)

/-- CARRIER_ZERO (R158, R72, R178, R195): settings swap, moves and stops at a carrier zero. -/
def execCarrierZero (p : Nat) (s : State) : Out := .next (s.carrierZero p)

/-- LOOP_CARRIER_BOUNDARY (R194, R199, R294). -/
def execLoopCarrierBoundary (l : Nat) (s : State) : Out := .next (s.carrierBoundary l)

/-- READBACK_SAMPLE (R177). -/
def execReadbackSample (p : Nat) (highBall lowBall : Option Bool) (s : State) : Out :=
  .next (s.readback p highBall lowBall)

/-- OC_TRUNCATION (R174, R180, R238). -/
def execOcTruncation (p : Nat) (s : State) : Out := .next (s.ocTruncate p)

/-- SFLT_ASSERT (R173, R175, R180): inside an open blanking window the input is ignored. -/
def execSfltAssert (t k : Nat) (s : State) : Out := .next (s.sfltPin t k)

/-- TRIP_ASSERT (R173, R175): inside an open blanking window the input is ignored. -/
def execTripAssert (t n : Nat) (level : Bool) (s : State) : Out := .next (s.tripPin t n level)

/-- TRIP_RELEASE (R175). -/
def execTripRelease (t : Nat) (input : TripInput) (s : State) : Out := .next (s.tripReleased t input)

/-- SAFE_STATE_TRIP_RELEASE (R221). -/
def execSafeStateTripRelease (l : Nat) (s : State) : Out := .next (s.safeTripRelease l)

/-- BLANKING_WINDOW_END (R173): a condition still present acts. -/
def execBlankingWindowEnd (t : Nat) (input : TripInput) (present : Bool) (s : State) : Out :=
  .next (s.windowEnds t input present)

/-- DEBUG_HALT (R179). -/
def execDebugHalt (s : State) : Out := .next (s.debugHalt)

/-- HALT_END (R181). -/
def execHaltEnd (s : State) : Out := .next (s.haltEnd)

/-- PHASE_MANUAL (R93): a write of PHASE_MANUAL:01. -/
def execPhaseManual (ch : Chan) (p v : Nat) (s : State) : Out :=
  .next (s.writeAt (s.hasPhase p) ch (phaseIdx p 7) 1 2 v)

/-- SAFE_IN_LOW (R173, R451): a low inside an open blanking window is ignored. -/
def execSafeInLow (s : State) : Out := .next (if s.blanked 0 .safeIn then s else s.safeLow)

/-- SAFE_IN_RELEASE (R451). -/
def execSafeInRelease (s : State) : Out := .next (s.safeHigh)

end Sys2Proof.Machine
end

