-- ==== Sys2Proof/Machine/Rail.lean ====
section
/-! DEFINITION. Rail sequencing and TRELLIS (R345 to R370). -/

namespace Sys2Proof.Machine

/-- STATE_REPORT (R355). -/
def execStateReport (t state dir : Nat) (s : State) : Out := .next (s.stateSeen t state dir)

/-- TRELLIS_ADVANCE (R350). -/
def execTrellisAdvance (others : Nat) (s : State) : Out := .next (s.advance others)

/-- TRELLIS_REVERSAL (R352). -/
def execTrellisReversal (others : Nat) (s : State) : Out := .next (s.reverse others)

/-- TRELLIS_TIMEOUT (R356). -/
def execTrellisTimeout (t others : Nat) (s : State) : Out := .next (s.lineTimeout t others)

/-- RAIL_TURN_ON (R357). -/
def execRailTurnOn (n : Nat) (s : State) : Out := .next (s.railDue n (.railTurnOn n))

/-- PARENT_GOOD_NOTICE (R357). -/
def execParentGoodNotice (t n : Nat) (s : State) : Out := .next (s.parentNotice t n)

/-- RAIL_DECLARED_GOOD (R358). -/
def execRailDeclaredGood (n : Nat) (s : State) : Out := .next (s.railDue n (.railDeclaredGood n))

/-- PG_CHANGE (R348). -/
def execPgChange (n : Nat) (high : Bool) (held : Nat) (s : State) : Out := .next (s.pgChanged n high held)

/-- RAIL_DROP (R360). -/
def execRailDrop (n : Nat) (s : State) : Out := .next (s.railDropDue n)

/-- RAIL_BAD_TIME (R360). -/
def execRailBadTime (n : Nat) (s : State) : Out := .next (s.railDue n (.railBadTime n))

/-- RAIL_DEADLINE (R359). -/
def execRailDeadline (n : Nat) (s : State) : Out := .next (s.railDue n (.railDeadline n))

/-- RAIL_TURN_OFF (R367). -/
def execRailTurnOff (n : Nat) (s : State) : Out := .next (s.railDue n (.railTurnOff n))

/-- RAIL_DISCHARGED (R364). -/
def execRailDischarged (n : Nat) (s : State) : Out := .next (s.railDue n (.railDischarged n))

/-- DISCHARGE_TIMEOUT (R364). -/
def execDischargeTimeout (n : Nat) (s : State) : Out := .next (s.railDue n (.dischargeTimeout n))

/-- RETRIES_USED_CLEAR (R362). -/
def execRetriesUsedClear (n : Nat) (s : State) : Out := .next (s.clearRetries n)

/-- RESET_PULSE_END (R366). -/
def execResetPulseEnd (s : State) : Out := .next (s.resetPulseEnd)

/-- SYSRESET_RESTART (R366). -/
def execSysresetRestart (s : State) : Out := .next (s.sysRestart)

/-- SYSRESET_COUNT_CLEAR (R366). -/
def execSysresetCountClear (s : State) : Out := .next (s.sysCountClear)

end Sys2Proof.Machine
end

