-- ==== Sys2Proof/Machine/Regulation.lean ====
section
/-! DEFINITION. Targets, population, share and trim learning, burst (R140, R197 to R213). -/

namespace Sys2Proof.Machine

/-- TARGET (R140): a write of LOOP_TARGET:01. -/
def execTarget (ch : Chan) (l v : Nat) (s : State) : Out := .next (s.writeAt (s.hasLoop l) ch (loopIdx l 1) 1 2 v)

/-- SHED_DWELL_EXPIRY (R198). -/
def execShedDwellExpiry (l : Nat) (s : State) : Out := .next (s.dwellExpiry l)

/-- TRIM_LEARN_START (R206): a write of 1 to LOOP_TRIM_LEARN:01. -/
def execTrimLearnStart (ch : Chan) (l : Nat) (s : State) : Out :=
  .next (s.writeAt (s.hasLoop l) ch (loopIdx l 0x10) 1 1 1)

/-- TRIM_LEARN_ABORT (R208): a write of 2 to LOOP_TRIM_LEARN:01. -/
def execTrimLearnAbort (ch : Chan) (l : Nat) (s : State) : Out :=
  .next (s.writeAt (s.hasLoop l) ch (loopIdx l 0x10) 1 1 2)

/-- TRIM_LEARN_ITERATION (R207). -/
def execTrimLearnIteration (l : Nat) (s : State) : Out := .next (s.learnEnds l)

/-- SHARE_EVENT (R205). -/
def execShareEvent (p : Nat) (s : State) : Out := .next (s.shareTells p)

/-- BURST_ENTRY (R209). -/
def execBurstEntry (l : Nat) (s : State) : Out := .next (s.burstEnters l)

/-- BURST_SLEEP (R210). -/
def execBurstSleep (l : Nat) (s : State) : Out := .next (s.burstSleeps l)

/-- BURST_WAKE (R212). -/
def execBurstWake (l : Nat) (s : State) : Out := .next (if s.loopIs l then s.wakeLoop l else s)

/-- BURST_EXIT (R213). -/
def execBurstExit (l : Nat) (cause : BurstExitCause) (s : State) : Out := .next (s.burstExits l cause)

end Sys2Proof.Machine
end

