-- ==== Sys2Proof/Machine/Safety.lean ====
section
/-! DEFINITION. Functional safety: clears, SRAM errors, bandgaps, SRDOs and the proof test (R444 to R458, R501, R502). -/

namespace Sys2Proof.Machine
/-- The area's number in a record: its place in the table of R29 (R405, DESIGN CHOICE, log entry 15). -/
def areaCode : SramArea → Nat
  | .recorder => 0 | .capture => 1 | .ringPool => 2 | .histograms => 3 | .loopTables => 4 | .sequencerTables => 5
  | .processor => 6

/-- Area and word address of an SRAM error (R405). -/
def sramData (a : SramArea) (addr : Nat) : List Nat := areaCode a :: bytesLE 3 addr

/-- The record at place `i` of a list fails its CRC on read. -/
def spoil (i : Nat) (rs : List Rec) : List Rec := rs.modify i (fun r => { r with bad := true })

/-- A word of the recorder belongs to a record of eight words (R29, R450). -/
def Recorder.spoil (q : Recorder) (addr : Nat) : Recorder :=
  let i := addr / 8
  { q with
    fixed := Machine.spoil i q.fixed
    circ := if q.fixed.length ≤ i then Machine.spoil (i - q.fixed.length) q.circ else q.circ }

/-- A record slot of a ring: the record that stands there, numbered by its write index. -/
def Ring.spoil (g : Ring) (cap slot : Nat) : Ring :=
  let first := g.writeIdx - g.recs.length
  { g with
    recs := (List.range g.recs.length).foldl (fun rs j =>
      if cap ≠ 0 ∧ (first + j) % cap = slot then Machine.spoil j rs else rs) g.recs }

/-- The rings of a tile share its pool in ascending number: slot `k` of the pool counted over them. -/
def State.spoilPool (s : State) (t : Nat) : List Nat → Nat → State
  | [], _ => s
  | r :: rs, k =>
    let cap := if s.ob (0x4400 + r) 1 = t then s.ringCap r else 0
    if k < cap then { s with ev := { s.ev with rings := s.ev.rings.upd {} r (fun g => g.spoil cap k) } }
    else s.spoilPool t rs (k - cap)

/-- Severity of a double-bit error by area (R450). -/
def areaSev : SramArea → Nat
  | .loopTables | .sequencerTables => 5
  | _ => 3

/-- The reaction to a double-bit error by area (R450). -/
def State.sramActs (s : State) (t : Nat) (a : SramArea) (addr : Nat) : State :=
  match a with
  | .loopTables => s.dangerous (s.loopsOn t) t 0x020A t false
  | .sequencerTables => s.dangerous [] t 0x020A t true
  | .processor => s.watchdog t
  | .recorder => { s with ev := { s.ev with recorders := s.ev.recorders.upd {} t (fun q => q.spoil addr) } }
  | .ringPool => s.spoilPool t (List.range 64) (addr / 8)
  | .capture => { s with caps := s.caps.upd {} t (fun c => { c with damaged := true, valid := false }) }
  | .histograms => { s with hists := s.hists.upd {} (16 * t + addr / 128 % 16) (fun h => { h with bad := true, clear := true }) }

/-- SRAM_ERROR_DETECTED (R30, R450). -/
def State.sramDetected (s : State) (t : Nat) (a : SramArea) (addr : Nat) : State :=
  if s.hasTile t && s.md.mode != .reset then
    let s1 : State := { s with diag := { s.diag with detected := satAdd 32 s.diag.detected 1 } }
    (s1.report t srcSram 0x020A (areaSev a) t (sramData a addr)).sramActs t a addr
  else s

/-- SRAM_ERROR_CORRECTED (R30). -/
def State.sramCorrected (s : State) (t : Nat) (a : SramArea) (addr : Nat) : State :=
  if s.hasTile t && s.md.mode != .reset then
    let s1 : State := { s with diag := { s.diag with corrected := satAdd 32 s.diag.corrected 1 } }
    s1.report t srcSram 0x0209 1 t (sramData a addr)
  else s

/-- PROOF_TEST_COMPLETE (R457, R464): the bits of the failed steps of trained tiles. -/
def State.proofEnds (s : State) (failed : Nat) : State :=
  if s.md.proofRunning then
    let r := bitmap ((bitsOf failed 64).filter (fun b => bit s.link.trained (b / 8) && decide (b % 8 < 7)))
    { s with md := { s.md with proofRunning := false, proofState := if r = 0 then 2 else 3, proofResult := r } }
  else s

/-- SAFE_STATE_CLEAR (R444): a write of SAFE_STATE_CAUSE:21. -/
def execSafeStateClear (ch : Chan) (l : Nat) (s : State) : Out := .next (s.writeAt true ch 0x2602 0x21 1 l)

/-- BANDGAP_DRIFT (R449). -/
def execBandgapDrift (t diff : Nat) (s : State) : Out := .next (s.bandgap t diff)

/-- SRAM_ERROR_DETECTED (R450, R30). -/
def execSramErrorDetected (t : Nat) (area : SramArea) (addr : Nat) (s : State) : Out :=
  .next (s.sramDetected t area addr)

/-- SRAM_ERROR_CORRECTED (R30). -/
def execSramErrorCorrected (t : Nat) (area : SramArea) (addr : Nat) (s : State) : Out :=
  .next (s.sramCorrected t area addr)

/-- SRDO_RECEIVED (R454, R501). -/
def execSrdoReceived (i : Nat) (format : CanFormat) (normal inverted apartMs : Nat) (s : State) : Out :=
  .next (s.onFrame s.srdoChan format (State.srdoIn · i normal inverted apartMs))

/-- SRDO_LOSS (R454). -/
def execSrdoLoss (i : Nat) (s : State) : Out := .next (s.srdoLoss i)

/-- SRDO_TRANSMIT (R501). -/
def execSrdoTransmit (i : Nat) (s : State) : Out := .next (s.srdoOut i)

/-- SRDO_VALID (R502): a write of 0x13FE. -/
def execSrdoValid (ch : Chan) (v : Nat) (s : State) : Out := .next (s.writeAt true ch 0x13FE 0 1 v)

/-- PROOF_TEST (R457): a write of DIAG_TABLE:01. -/
def execProofTest (ch : Chan) (v : Nat) (s : State) : Out := .next (s.writeAt true ch 0x2610 1 1 v)

/-- PROOF_TEST_COMPLETE (R457, R464). -/
def execProofTestComplete (failed : Nat) (s : State) : Out := .next (s.proofEnds failed)

end Sys2Proof.Machine
end

