-- ==== Sys2Proof/Machine/Security.lean ====
section
/-! DEFINITION. Security, fuses and debug (R465 to R480). -/

namespace Sys2Proof.Machine
/-- What a TAP instruction shifts out (R477): a debug instruction outside SERVICE zeros. -/
def State.tapOut (s : State) (i : TapInstr) : TapOut :=
  match i with
  | .bypass => .bypass
  | .idcode => .ident s.part.number siliconRevision
  | .samplePreload _ _ | .extest => .levels (s.phaseList.map s.balls)
  | .memoryAccess => if s.md.mode = .service then .memory (Config.tapMemory s.diag.fresh) else .zeros
  | .processorHalt | .processorStep | .debugHalt => if s.md.mode = .service then .acts else .zeros

/-- The TAP after an instruction: what it shifted out, whether EXTEST holds the balls, and the boundary cells (R477). -/
def State.tapLoads (s : State) (i : TapInstr) : State :=
  { s with
    pins := { s.pins with
      tap := s.tapOut i, extest := i == .extest
      cells := match i with | .samplePreload h l => (h, l) | _ => s.pins.cells }
    diag := { s.diag with fresh := s.diag.fresh + 1 } }

/-- TAP_INSTRUCTION (R47, R473, R477, R478): on a FIELD-fused part nothing but the alarm of its edges; a debug instruction acts only in
SERVICE. A step of a halted processor runs an instruction of its mask ROM, of which the spec gives nothing (log entry 107). -/
def State.tapRuns (s : State) (i : TapInstr) : State :=
  if s.sec.field then s.alarm 4
  else
    let s1 := s.tapLoads i
    match i with
    | .debugHalt => s1.debugHalt
    | .processorHalt =>
      if s.md.mode = .service then
        { s1 with tiles := s1.tiles.updAll {} s1.tileList (fun _ ti => { ti with procHalted := true }) }
      else s1
    | .bypass | .idcode | .samplePreload _ _ | .extest | .processorStep | .memoryAccess => s1

/-- A write to FUSE_STATUS:03 with the copies that read blown at its verify read (R475). -/
def State.fuseWrite (s : State) (ch : Chan) (v copies : Nat) : State := s.request ch (.write ch 0x2410 3 1 v copies)

/-- OPEN (R469): a write of SEC_SESSION:01. -/
def execOpenSession (ch : Chan) (slot : Nat) (s : State) : Out := .next (s.writeAt true ch 0x2400 1 1 slot)

/-- CLOSE (R471): a write of SEC_SESSION:01. -/
def execCloseSession (ch : Chan) (s : State) : Out := .next (s.writeAt true ch 0x2400 1 1 0xFF)

/-- PROOF (R469): a write of SEC_SESSION:03. -/
def execSessionProof (ch : Chan) (v : Nat) (s : State) : Out := .next (s.writeAt true ch 0x2400 3 8 v)

/-- TAG (R470): a write of SEC_SESSION:04. -/
def execSessionTag (ch : Chan) (v : Nat) (s : State) : Out := .next (s.writeAt true ch 0x2400 4 8 v)

/-- NONCE_EXPIRY (R469). -/
def execNonceExpiry (s : State) : Out := .next (s.expireNonce)

/-- SESSION_TIMEOUT (R471). -/
def execSessionTimeout (s : State) : Out := .next (s.expireSession)

/-- KEY (R468): a write of SEC_KEYSLOT:01 to :04. -/
def execKeyWrite (ch : Chan) (k v : Nat) (s : State) : Out := .next (s.writeAt (decide (k < 4)) ch 0x2401 (k + 1) 16 v)

/-- REKEY (R468): a write of SEC_KEYSLOT:05. -/
def execRekey (ch : Chan) (v : Nat) (s : State) : Out := .next (s.writeAt true ch 0x2401 5 25 v)

/-- BLOW_PROVISION (R475). -/
def execBlowProvision (ch : Chan) (copies : Nat) (s : State) : Out := .next (s.fuseWrite ch 0x50 copies)

/-- BLOW_FIELD (R475). -/
def execBlowField (ch : Chan) (copies : Nat) (s : State) : Out := .next (s.fuseWrite ch 0xF1 copies)

/-- A read finds one copy of a fuse changed: of an intact fuse it now reads blown, of a blown one intact. Which copy it is makes
no difference. -/
def flipCopy (copies : Nat) : Nat := if copies = 0 then 1 else if copies = 7 then 6 else copies

/-- Copies of the fuses that disagree: a copy reads blown, so the fuse counts as blown (R475, R476). -/
def State.fuseDisagrees (s : State) (fuses : Nat) : State :=
  { s with
    sec := { s.sec with
      integrity := s.sec.integrity ||| fuses
      fieldCopies := if fuses.testBit 0 then flipCopy s.sec.fieldCopies else s.sec.fieldCopies
      provisionCopies := if fuses.testBit 1 then flipCopy s.sec.provisionCopies else s.sec.provisionCopies } }

/-- SECURITY_ALARM (R474, R473): source 3 names the fuses whose copies disagree, as FUSE_STATUS:04 numbers them. -/
def execSecurityAlarm (src fuses : Nat) (s : State) : Out :=
  .next (
    if src = 3 then (if fuses = 0 then s else (s.fuseDisagrees fuses).alarm 3)
    else if src < 6 ∧ (src = 4 → s.sec.field = true) then s.alarm src else s)

/-- TAP_INSTRUCTION (R477, R478). -/
def execTapInstruction (i : TapInstr) (s : State) : Out := .next (s.tapRuns i)

end Sys2Proof.Machine
end

