-- ==== Sys2Proof/Machine/Sense.lean ====
section
/-! DEFINITION. Sensing and telemetry (R299 to R344). -/

namespace Sys2Proof.Machine

/-- TELEMETRY_TRIGGER (R302, R304). -/
def execTelemetryTrigger (t conv : Nat) (s : State) : Out := .next (s.telemTrigger t conv)

/-- TELEMETRY_TIMER (R304). -/
def execTelemetryTimer (t : Nat) (s : State) : Out := .next (s.telemTimer t)

/-- TELEMETRY_WAIT_LIMIT (R304). -/
def execTelemetryWaitLimit (t conv : Nat) (s : State) : Out := .next (s.telemLimit t conv)

/-- TELEMETRY_RESULT (R307, R306). -/
def execTelemetryResult (t conv : Nat) (codes : List Nat) (s : State) : Out := .next (s.telemResult t conv codes)

/-- TELEMETRY_STALE (R310). -/
def execTelemetryStale (l channel : Nat) (s : State) : Out := .next (s.telemStale l channel)

/-- CHECK_CONVERSION (R311, R312). -/
def execCheckConversion (t c0 c1 loop0 loop1 : Nat) (s : State) : Out := .next (s.checkConv t c0 c1 loop0 loop1)

/-- CALIBRATION_START (R314): a write of CAL_CMD:01. -/
def execCalibrationStart (ch : Chan) (v : Nat) (s : State) : Out := .next (s.writeAt true ch 0x2020 1 1 v)

/-- CALIBRATION_COMPLETE (R316, R315). -/
def execCalibrationComplete (results : List CalResult) (s : State) : Out := .next (s.calComplete results)

/-- PLAUSIBILITY_TIMEOUT (R321). -/
def execPlausibilityTimeout (l : Nat) (s : State) : Out := .next (s.plausTimeout l)

/-- COMPARATOR_ACTIVATION (R327, R330, R332, R333). -/
def execComparatorActivation (t c : Nat) (s : State) : Out := .next (s.compOn t c)

/-- COMPARATOR_RELEASE (R328). -/
def execComparatorRelease (t c : Nat) (s : State) : Out := .next (s.compOff t c)

/-- COMPARATOR_SETTLED (R329, R571). -/
def execComparatorSettled (t c : Nat) (beyond : Bool) (s : State) : Out := .next (s.compSettled t c beyond)

/-- PEAK_READ (R325): a read of LOOP_PEAKS. -/
def execPeakRead (ch : Chan) (l sub : Nat) (s : State) : Out :=
  .next (s.request ch (.read ch (if s.hasLoop l then loopIdx l 0x14 else 0) sub 0))

end Sys2Proof.Machine
end

