-- ==== Sys2Proof/Machine/Transient.lean ====
section
/-! DEFINITION. Soft start, Canopy, Sprout preview, hiccup, over-temperature, undervoltage and low-side discharge (R223 to R244, R441, R448). -/

namespace Sys2Proof.Machine

/-- SOFT_START_HOLD_TIMEOUT (R223). -/
def execSoftStartHoldTimeout (l : Nat) (s : State) : Out := .next (s.holdTimeout l)

/-- CANOPY_TRIGGER (R228, R226, R227). -/
def execCanopyTrigger (l : Nat) (s : State) : Out := .next (s.canopyCross l)

/-- CANOPY_MAX_TIME (R230, R231). -/
def execCanopyMaxTime (l : Nat) (s : State) : Out := .next (s.canopyTimeout l)

/-- LPREV_EDGE (R234). -/
def execLprevEdge (t : Nat) (s : State) : Out := .next (s.lprevEdge t)

/-- PREVIEW_APPLY (R235). -/
def execPreviewApply (l : Nat) (s : State) : Out := .next (s.applyPreview l)

/-- PREVIEW_END (R235). -/
def execPreviewEnd (l : Nat) (s : State) : Out := .next (s.endPreview l)

/-- HICCUP_TRIGGER (R238, R239). -/
def execHiccupTrigger (p : Nat) (s : State) : Out := .next (s.hiccupTriggers p)

/-- HICCUP_OFF_TIME_END (R239). -/
def execHiccupOffTimeEnd (l : Nat) (s : State) : Out := .next (s.offTimeEnds l)

/-- HICCUP_COUNT_CLEAR (R239). -/
def execHiccupCountClear (l : Nat) (s : State) : Out := .next (s.hiccupsClear l)

/-- LATCH_CLEAR (R240): a write of LATCH_CLEAR. -/
def execLatchClear (ch : Chan) (l v : Nat) (s : State) : Out := .next (s.writeAt (s.hasLoop l) ch (loopIdx l 0xE) 6 1 v)

/-- OT_AUTO_RESTART (R244). -/
def execOtAutoRestart (l : Nat) (s : State) : Out := .next (s.otRestarts l)

/-- UV_REPORT (R448). -/
def execUvReport (l : Nat) (s : State) : Out := .next (s.uvReports l)

/-- UV_REPORT_END (R448). -/
def execUvReportEnd (l : Nat) (s : State) : Out := .next (s.uvEnds l)

/-- LS_DISCHARGE_TIMEOUT (R441). -/
def execLsDischargeTimeout (l : Nat) (s : State) : Out := .next (s.lowSidesTimeout l)

end Sys2Proof.Machine
end

