-- ==== Sys2Proof/Machine/Dispatch.lean ====
section
/-! DEFINITION. Which meaning each command has: one arm per constructor, each a direct call of its meaning. -/

namespace Sys2Proof.Machine

/-- The effect of a command on everything but the queue. -/
def exec (i : Instr) (s : State) : Host.Outcome State Fault Refusal :=
  match i with
  | .powerUp inp => Sys2Proof.Machine.execPowerUp inp s
  | .pllLockTimeout t => Sys2Proof.Machine.execPllLockTimeout t s
  | .resetAssertion => Sys2Proof.Machine.execResetAssertion s
  | .supplyOutOfRange supply durationNs => Sys2Proof.Machine.execSupplyOutOfRange supply durationNs s
  | .refclkMissingEdge t => Sys2Proof.Machine.execRefclkMissingEdge t s
  | .pllUnlock t => Sys2Proof.Machine.execPllUnlock t s
  | .refclkFrequencyCheck t count => Sys2Proof.Machine.execRefclkFrequencyCheck t count s
  | .slowStopped t => Sys2Proof.Machine.execSlowStopped t s
  | .watchdogExpiry t => Sys2Proof.Machine.execWatchdogExpiry t s
  | .processorRecovered t => Sys2Proof.Machine.execProcessorRecovered t s
  | .frameBoundary => Sys2Proof.Machine.execFrameBoundary s
  | .loopSample cs => Sys2Proof.Machine.execLoopSample cs s
  | .edgeDecision p => Sys2Proof.Machine.execEdgeDecision p s
  | .carrierZero p => Sys2Proof.Machine.execCarrierZero p s
  | .loopCarrierBoundary l => Sys2Proof.Machine.execLoopCarrierBoundary l s
  | .readbackSample p highBall lowBall => Sys2Proof.Machine.execReadbackSample p highBall lowBall s
  | .ocTruncation p => Sys2Proof.Machine.execOcTruncation p s
  | .sfltAssert t k => Sys2Proof.Machine.execSfltAssert t k s
  | .tripAssert t n level => Sys2Proof.Machine.execTripAssert t n level s
  | .tripRelease t input => Sys2Proof.Machine.execTripRelease t input s
  | .safeStateTripRelease l => Sys2Proof.Machine.execSafeStateTripRelease l s
  | .blankingWindowEnd t input present => Sys2Proof.Machine.execBlankingWindowEnd t input present s
  | .debugHalt => Sys2Proof.Machine.execDebugHalt s
  | .haltEnd => Sys2Proof.Machine.execHaltEnd s
  | .commit ch tag => Sys2Proof.Machine.execCommit ch tag s
  | .heldRequestServed => Sys2Proof.Machine.execHeldRequestServed s
  | .discard ch v => Sys2Proof.Machine.execDiscard ch v s
  | .objectWrite ch idx sub len v part => Sys2Proof.Machine.execObjectWrite ch idx sub len v part s
  | .requestConfigure ch => Sys2Proof.Machine.execRequestConfigure ch s
  | .requestStandby ch => Sys2Proof.Machine.execRequestStandby ch s
  | .requestStop ch => Sys2Proof.Machine.execRequestStop ch s
  | .requestRun ch => Sys2Proof.Machine.execRequestRun ch s
  | .openWireSetEnd readings active => Sys2Proof.Machine.execOpenWireSetEnd readings active s
  | .preStartChecksComplete => Sys2Proof.Machine.execPreStartChecksComplete s
  | .holdClear ch v => Sys2Proof.Machine.execHoldClear ch v s
  | .serviceEnter ch v => Sys2Proof.Machine.execServiceEnter ch v s
  | .startRisingEdge => Sys2Proof.Machine.execStartRisingEdge s
  | .startLowStop => Sys2Proof.Machine.execStartLowStop s
  | .vinFail mv => Sys2Proof.Machine.execVinFail mv s
  | .pfailRise => Sys2Proof.Machine.execPfailRise s
  | .restart => Sys2Proof.Machine.execRestart s
  | .startRemoteNode ch format => Sys2Proof.Machine.execStartRemoteNode ch format s
  | .stopRemoteNode ch format => Sys2Proof.Machine.execStopRemoteNode ch format s
  | .enterPreOperational ch format => Sys2Proof.Machine.execEnterPreOperational ch format s
  | .resetCommunication ch format => Sys2Proof.Machine.execResetCommunication ch format s
  | .resetNode ch format => Sys2Proof.Machine.execResetNode ch format s
  | .safeInLow => Sys2Proof.Machine.execSafeInLow s
  | .target ch l v => Sys2Proof.Machine.execTarget ch l v s
  | .phaseManual ch p v => Sys2Proof.Machine.execPhaseManual ch p v s
  | .shedDwellExpiry l => Sys2Proof.Machine.execShedDwellExpiry l s
  | .trimLearnStart ch l => Sys2Proof.Machine.execTrimLearnStart ch l s
  | .trimLearnAbort ch l => Sys2Proof.Machine.execTrimLearnAbort ch l s
  | .trimLearnIteration l => Sys2Proof.Machine.execTrimLearnIteration l s
  | .shareEvent p => Sys2Proof.Machine.execShareEvent p s
  | .burstEntry l => Sys2Proof.Machine.execBurstEntry l s
  | .burstSleep l => Sys2Proof.Machine.execBurstSleep l s
  | .burstWake l => Sys2Proof.Machine.execBurstWake l s
  | .burstExit l cause => Sys2Proof.Machine.execBurstExit l cause s
  | .softStartHoldTimeout l => Sys2Proof.Machine.execSoftStartHoldTimeout l s
  | .canopyTrigger l => Sys2Proof.Machine.execCanopyTrigger l s
  | .canopyMaxTime l => Sys2Proof.Machine.execCanopyMaxTime l s
  | .lprevEdge t => Sys2Proof.Machine.execLprevEdge t s
  | .previewApply l => Sys2Proof.Machine.execPreviewApply l s
  | .previewEnd l => Sys2Proof.Machine.execPreviewEnd l s
  | .hiccupTrigger p => Sys2Proof.Machine.execHiccupTrigger p s
  | .hiccupOffTimeEnd l => Sys2Proof.Machine.execHiccupOffTimeEnd l s
  | .hiccupCountClear l => Sys2Proof.Machine.execHiccupCountClear l s
  | .latchClear ch l v => Sys2Proof.Machine.execLatchClear ch l v s
  | .otAutoRestart l => Sys2Proof.Machine.execOtAutoRestart l s
  | .poll t answer stillLow => Sys2Proof.Machine.execPoll t answer stillLow s
  | .setTarget t k seq payload => Sys2Proof.Machine.execSetTarget t k seq payload s
  | .setSlew t k seq payload => Sys2Proof.Machine.execSetSlew t k seq payload s
  | .setPhaseBudget t k seq payload => Sys2Proof.Machine.execSetPhaseBudget t k seq payload s
  | .armPreview t k seq payload => Sys2Proof.Machine.execArmPreview t k seq payload s
  | .getStatus t k seq payload => Sys2Proof.Machine.execGetStatus t k seq payload s
  | .getVout t k seq payload => Sys2Proof.Machine.execGetVout t k seq payload s
  | .getIout t k seq payload => Sys2Proof.Machine.execGetIout t k seq payload s
  | .getTemp t k seq payload => Sys2Proof.Machine.execGetTemp t k seq payload s
  | .getPower t k seq payload => Sys2Proof.Machine.execGetPower t k seq payload s
  | .setPowerState t k seq payload => Sys2Proof.Machine.execSetPowerState t k seq payload s
  | .ackAlert t k seq payload => Sys2Proof.Machine.execAckAlert t k seq payload s
  | .alertClear ch l mask => Sys2Proof.Machine.execAlertClear ch l mask s
  | .laneBackoffEnd t => Sys2Proof.Machine.execLaneBackoffEnd t s
  | .laneCfgHeldWrite t => Sys2Proof.Machine.execLaneCfgHeldWrite t s
  | .laneLevelFault t mv => Sys2Proof.Machine.execLaneLevelFault t mv s
  | .sampleSlotReceived r snd k word => Sys2Proof.Machine.execSampleSlotReceived r snd k word s
  | .controlByteReceived r snd byte => Sys2Proof.Machine.execControlByteReceived r snd byte s
  | .frameSlotReceived r snd bytes => Sys2Proof.Machine.execFrameSlotReceived r snd bytes s
  | .portLoss r snd => Sys2Proof.Machine.execPortLoss r snd s
  | .portLossDecision snd answered => Sys2Proof.Machine.execPortLossDecision snd answered s
  | .mgmtPacketReceived r snd response crcOk => Sys2Proof.Machine.execMgmtPacketReceived r snd response crcOk s
  | .mgmtResendTimeout snd d => Sys2Proof.Machine.execMgmtResendTimeout snd d s
  | .mgmtCreditReturn snd d => Sys2Proof.Machine.execMgmtCreditReturn snd d s
  | .stateReport t state dir => Sys2Proof.Machine.execStateReport t state dir s
  | .syncInEdge => Sys2Proof.Machine.execSyncInEdge s
  | .telemetryTrigger t conv => Sys2Proof.Machine.execTelemetryTrigger t conv s
  | .telemetryTimer t => Sys2Proof.Machine.execTelemetryTimer t s
  | .telemetryWaitLimit t conv => Sys2Proof.Machine.execTelemetryWaitLimit t conv s
  | .telemetryResult t conv codes => Sys2Proof.Machine.execTelemetryResult t conv codes s
  | .telemetryStale l channel => Sys2Proof.Machine.execTelemetryStale l channel s
  | .checkConversion t c0 c1 loop0 loop1 => Sys2Proof.Machine.execCheckConversion t c0 c1 loop0 loop1 s
  | .calibrationStart ch v => Sys2Proof.Machine.execCalibrationStart ch v s
  | .calibrationComplete results => Sys2Proof.Machine.execCalibrationComplete results s
  | .plausibilityTimeout l => Sys2Proof.Machine.execPlausibilityTimeout l s
  | .comparatorActivation t c => Sys2Proof.Machine.execComparatorActivation t c s
  | .comparatorRelease t c => Sys2Proof.Machine.execComparatorRelease t c s
  | .comparatorSettled t c beyond => Sys2Proof.Machine.execComparatorSettled t c beyond s
  | .peakRead ch l sub => Sys2Proof.Machine.execPeakRead ch l sub s
  | .trellisAdvance others => Sys2Proof.Machine.execTrellisAdvance others s
  | .trellisReversal others => Sys2Proof.Machine.execTrellisReversal others s
  | .trellisTimeout t others => Sys2Proof.Machine.execTrellisTimeout t others s
  | .railTurnOn n => Sys2Proof.Machine.execRailTurnOn n s
  | .parentGoodNotice t n => Sys2Proof.Machine.execParentGoodNotice t n s
  | .railDeclaredGood n => Sys2Proof.Machine.execRailDeclaredGood n s
  | .pgChange n high held => Sys2Proof.Machine.execPgChange n high held s
  | .railDrop n => Sys2Proof.Machine.execRailDrop n s
  | .railBadTime n => Sys2Proof.Machine.execRailBadTime n s
  | .railDeadline n => Sys2Proof.Machine.execRailDeadline n s
  | .railTurnOff n => Sys2Proof.Machine.execRailTurnOff n s
  | .railDischarged n => Sys2Proof.Machine.execRailDischarged n s
  | .dischargeTimeout n => Sys2Proof.Machine.execDischargeTimeout n s
  | .retriesUsedClear n => Sys2Proof.Machine.execRetriesUsedClear n s
  | .resetPulseEnd => Sys2Proof.Machine.execResetPulseEnd s
  | .sysresetRestart => Sys2Proof.Machine.execSysresetRestart s
  | .sysresetCountClear => Sys2Proof.Machine.execSysresetCountClear s
  | .seqFirstFailClear ch v => Sys2Proof.Machine.execSeqFirstFailClear ch v s
  | .queuedReactionStart target => Sys2Proof.Machine.execQueuedReactionStart target s
  | .eventReport t src code sev inst data => Sys2Proof.Machine.execEventReport t src code sev inst data s
  | .recordWrite t => Sys2Proof.Machine.execRecordWrite t s
  | .recordForward t => Sys2Proof.Machine.execRecordForward t s
  | .emcyInhibitEnd ch => Sys2Proof.Machine.execEmcyInhibitEnd ch s
  | .recorderRead ch part => Sys2Proof.Machine.execRecorderRead ch part s
  | .view ch v => Sys2Proof.Machine.execView ch v s
  | .position ch v => Sys2Proof.Machine.execPosition ch v s
  | .recClear ch v => Sys2Proof.Machine.execRecClear ch v s
  | .faultAck ch v => Sys2Proof.Machine.execFaultAck ch v s
  | .firstClear ch v => Sys2Proof.Machine.execFirstClear ch v s
  | .cellOperationStart t => Sys2Proof.Machine.execCellOperationStart t s
  | .pageWriteComplete t => Sys2Proof.Machine.execPageWriteComplete t s
  | .tallyIncrement t inp => Sys2Proof.Machine.execTallyIncrement t inp s
  | .hourTally t inp => Sys2Proof.Machine.execHourTally t inp s
  | .storeRequest ch v => Sys2Proof.Machine.execStoreRequest ch v s
  | .storeComplete vholdMv => Sys2Proof.Machine.execStoreComplete vholdMv s
  | .cellarScrub => Sys2Proof.Machine.execCellarScrub s
  | .configSave ch n => Sys2Proof.Machine.execConfigSave ch n s
  | .configSnapshot => Sys2Proof.Machine.execConfigSnapshot s
  | .configSaveComplete => Sys2Proof.Machine.execConfigSaveComplete s
  | .configActive ch n => Sys2Proof.Machine.execConfigActive ch n s
  | .configRestore ch n => Sys2Proof.Machine.execConfigRestore ch n s
  | .safeStateClear ch l => Sys2Proof.Machine.execSafeStateClear ch l s
  | .lsDischargeTimeout l => Sys2Proof.Machine.execLsDischargeTimeout l s
  | .uvReport l => Sys2Proof.Machine.execUvReport l s
  | .uvReportEnd l => Sys2Proof.Machine.execUvReportEnd l s
  | .bandgapDrift t diff => Sys2Proof.Machine.execBandgapDrift t diff s
  | .sramErrorDetected t area addr => Sys2Proof.Machine.execSramErrorDetected t area addr s
  | .sramErrorCorrected t area addr => Sys2Proof.Machine.execSramErrorCorrected t area addr s
  | .srdoReceived n format normal inverted apartMs => Sys2Proof.Machine.execSrdoReceived n format normal inverted apartMs s
  | .srdoLoss n => Sys2Proof.Machine.execSrdoLoss n s
  | .srdoTransmit n => Sys2Proof.Machine.execSrdoTransmit n s
  | .srdoValid ch v => Sys2Proof.Machine.execSrdoValid ch v s
  | .proofTest ch v => Sys2Proof.Machine.execProofTest ch v s
  | .proofTestComplete failed => Sys2Proof.Machine.execProofTestComplete failed s
  | .openSession ch slot => Sys2Proof.Machine.execOpenSession ch slot s
  | .closeSession ch => Sys2Proof.Machine.execCloseSession ch s
  | .sessionProof ch v => Sys2Proof.Machine.execSessionProof ch v s
  | .sessionTag ch v => Sys2Proof.Machine.execSessionTag ch v s
  | .nonceExpiry => Sys2Proof.Machine.execNonceExpiry s
  | .sessionTimeout => Sys2Proof.Machine.execSessionTimeout s
  | .keyWrite ch snd v => Sys2Proof.Machine.execKeyWrite ch snd v s
  | .rekey ch v => Sys2Proof.Machine.execRekey ch v s
  | .blowProvision ch copies => Sys2Proof.Machine.execBlowProvision ch copies s
  | .blowField ch copies => Sys2Proof.Machine.execBlowField ch copies s
  | .securityAlarm src fuses => Sys2Proof.Machine.execSecurityAlarm src fuses s
  | .syncMessage ch format counter => Sys2Proof.Machine.execSyncMessage ch format counter s
  | .timeMessage ch format v => Sys2Proof.Machine.execTimeMessage ch format v s
  | .rpdoReceived n format data => Sys2Proof.Machine.execRpdoReceived n format data s
  | .tpdoTransmit n => Sys2Proof.Machine.execTpdoTransmit n s
  | .tpdoAcknowledged n => Sys2Proof.Machine.execTpdoAcknowledged n s
  | .heartbeat ch => Sys2Proof.Machine.execHeartbeat ch s
  | .canErrorStateChange ch st => Sys2Proof.Machine.execCanErrorStateChange ch st s
  | .sdoTimeout client => Sys2Proof.Machine.execSdoTimeout client s
  | .errorHistoryClear ch v => Sys2Proof.Machine.execErrorHistoryClear ch v s
  | .spiRead idx sub len crcOk => Sys2Proof.Machine.execSpiRead idx sub len crcOk s
  | .spiWrite idx sub len v crcOk => Sys2Proof.Machine.execSpiWrite idx sub len v crcOk s
  | .ringRead r len crcOk => Sys2Proof.Machine.execRingRead r len crcOk s
  | .spiFetch => Sys2Proof.Machine.execSpiFetch s
  | .spiTransactionTimeout bytes => Sys2Proof.Machine.execSpiTransactionTimeout bytes s
  | .histogramClear ch t u v => Sys2Proof.Machine.execHistogramClear ch t u v s
  | .armCapture ch t => Sys2Proof.Machine.execArmCapture ch t s
  | .disarmCapture ch t => Sys2Proof.Machine.execDisarmCapture ch t s
  | .captureComplete t => Sys2Proof.Machine.execCaptureComplete t s
  | .safeInRelease => Sys2Proof.Machine.execSafeInRelease s
  | .vinGoodAgain mv => Sys2Proof.Machine.execVinGoodAgain mv s
  | .tapInstruction inp => Sys2Proof.Machine.execTapInstruction inp s
  | .tallyBitProgrammed t => Sys2Proof.Machine.execTallyBitProgrammed t s

end Sys2Proof.Machine
end

