-- ==== Sys2Proof/Machine/Idle.lean ====
section
/-! DEFINITION. What happens on an empty queue: device time advances by one PWM clock while it runs (R68). -/

namespace Sys2Proof.Machine

/-- One PWM clock passes (R68). -/
def State.idle (s : State) : State :=
  if s.clk.running then { s with clk := { s.clk with time := s.clk.time + 1 } } else s

end Sys2Proof.Machine
end

