-- ==== Sys2Proof/Safety.lean ====
section
/-! DEFINITION. What a safe run is, in the terms that statements use. -/

namespace Sys2Proof.Machine

/-- A fuse order that no history can break (R475): FIELD is blown only where PROVISION is. -/
def State.fuseOrder (s : State) : Prop := s.sec.field = true → s.sec.provision = true

/-- What only a fuse command can change: the part number, the queue and the two fuses (R1, R475). -/
def State.fixed (s : State) : Part × List Instr × Bool × Bool := (s.part, s.pending, s.sec.provision, s.sec.field)

/-- Every pending record of every tile has been written (R383, R401). -/
def State.drained (s : State) : State := s.tileList.foldl (fun x t => x.drain t (x.pendingOf t).length) s

/-- The one command that can leave the order of the fuses: a SECURITY_ALARM of source 3 that reports the copies of FIELD in
disagreement where those of PROVISION agree (R475, R476). -/
def breaksFuseOrder (c : Instr) : Prop := ∃ fuses, c = .securityAlarm 3 fuses ∧ fuses.testBit 0 = true ∧ fuses.testBit 1 = false

/-- From `s` to `t` the part number and the queue stay, a blown fuse stays blown, and the order of the fuses holds on
(R475). -/
structure State.Keeps (s t : State) : Prop where
  part : t.part = s.part
  pending : t.pending = s.pending
  provision : s.sec.provision = true → t.sec.provision = true
  field : s.sec.field = true → t.sec.field = true
  order : s.fuseOrder → t.fuseOrder

/-- Device time is the same in `s` and `t` (R68). -/
structure State.Still (s t : State) : Prop where
  same : t.now = s.now

/-- A write of `len` bytes of value `v` to index `idx`, subindex `sub`, from channel `ch` is served at once in state `s`
and passes every check of R492: `f`, `i` and `r` are the object, its instance and its row, and `s1` is the state that the
protection check (R465, R470) leaves. -/
structure State.Admits (s s1 : State) (ch : Chan) (idx sub len v : Nat) (f : Fam) (i : Nat) (r : Row) : Prop where
  /-- The channel is served (R91, R488). -/
  served : s.served ch = true
  /-- No SPI request is still busy (R511). -/
  free : s.spiBusy ch = false
  /-- An entry of the request queue is free for the channel's clients (R490). -/
  entry : s.clientBusy ch = false
  /-- Nothing holds the request (R81). -/
  unheld : s.mustWait (.write ch idx sub len v 0) = false
  /-- Check 1. -/
  index : resolve s.T idx = some (f, i)
  /-- Check 2. -/
  subindex : f.row sub = some r
  /-- Check 1 for the tallies of tiles that the part lacks (R7). -/
  onPart : f = .cellarTally → sub ≤ 8 * s.T
  /-- Check 3. -/
  notRo : r.acc ≠ .ro
  notConst : r.acc ≠ .const
  path : pathRefused f sub = false
  /-- Check 4. -/
  gate : (s.takeTag ch).1.passWrite r.prot ch idx sub len v (s.takeTag ch).2 = (s1, none)
  policy : s1.lowersPolicy f sub v = false
  /-- Check 5. -/
  length : len = r.bytes
  range : s1.rangeOk f i idx sub v r = true
  /-- Check 6. -/
  stopped : r.cls = .x → s1.stoppedOk f i sub v = true
  /-- Check 7, as far as it does not depend on the effect. -/
  rules : s1.refused7 f i idx sub v r = false

/-- A read of index `idx`, subindex `sub`, from channel `ch` is served at once in state `s` and passes every check of R492;
`len` is the LEN of a READ over SPI; `s1` is the state that the protection check leaves. -/
structure State.Reads (s s1 : State) (ch : Chan) (idx sub len : Nat) (f : Fam) (i : Nat) (r : Row) : Prop where
  served : s.served ch = true
  free : s.spiBusy ch = false
  entry : s.clientBusy ch = false
  unheld : s.mustWait (.read ch idx sub len) = false
  index : resolve s.T idx = some (f, i)
  subindex : f.row sub = some r
  onPart : f = .cellarTally → sub ≤ 8 * s.T
  readable : r.acc ≠ .wo
  gate : s.passRead r.prot ch idx sub = (s1, none)
  length : s1.readLenOk ch f i idx sub (if ch = .spi then len else 0) = true
  ready : s1.readRefused f i sub = false
  /-- No initiate request of the client waits for its value (R491). -/
  whole : ∀ x, s.transferOf ch = some x → x.waiting = false

/-- The part has been reset from `s` to `t` with LAST_CAUSE `cause` (R44, R78, R100): mode RESET, device time stopped at 0,
no active or shadow value beyond its default, nothing switching, no session; the levels at the balls, the key slots, the
fuses and the queue stay. -/
structure State.ResetTo (s t : State) (cause : Nat) : Prop where
  mode : t.md.mode = .reset
  cause : t.md.lastCause = cause
  time : t.clk.time = 0
  stopped : t.clk.running = false
  objects : t.obj = {}
  loops : t.loops = []
  phases : t.phases = []
  rails : t.rails = []
  sequence : t.seq = {}
  comparators : t.comps = []
  events : t.ev = {}
  network : t.net = {}
  lanes : t.lanes = []
  link : t.link = {}
  session : t.sec.session = none
  keys : t.sec.keys = s.sec.keys
  provision : t.sec.provision = s.sec.provision
  field : t.sec.field = s.sec.field
  /-- The levels at the balls and the straps. -/
  pins : { t.pins with extest := s.pins.extest, cells := s.pins.cells, tap := s.pins.tap } = s.pins
  part : t.part = s.part
  queue : t.pending = s.pending

/-- A load's command on the lane of tile `t` that the part accepts in state `s` (R262): opcode `op` with payload `v` and
sequence number `seq` for slot `k`, which holds loop `l`; every check of R262 passes. -/
structure State.LaneReady (s : State) (t k seq l op v : Nat) : Prop where
  /-- The lane exists, is enabled and is not in back-off (R252, R265). -/
  tile : s.hasTile t = true
  on : s.laneOn t = true
  idle : (s.lane t).backoff = false
  /-- The fields fit the frame (R257). -/
  slot : k < 4
  payload : v < 65536
  seqRange : seq < 16
  /-- Check 2. -/
  fresh : (s.lane t).seqValid = false ∨ (s.lane t).lastSeq ≠ seq
  /-- Check 3. -/
  listed : 1 ≤ op ∧ op ≤ 0xB
  anchored : s.anchoredAt t k = some l
  /-- Check 4. -/
  owner : ownerOp op = true → s.lo l 0 8 = 1
  /-- Check 5. -/
  range : s.laneRange l op v = true

/-- The lane of tile `t` when the answer of a transaction has been received (R253, R260): the POLL has been sent and
counted, and the next transaction can begin 118 clocks of LCK after this one began. -/
def State.polled (s : State) (t : Nat) : State :=
  let s0 := s.reach ((s.lane t).transEnd + 820)
  s0.updLane t (fun ln =>
    { ln with
      poll := requestFrame 0 0x3F (s0.pollPayload t) ln.polls, polls := wrapAdd 32 ln.polls 1
      transactions := wrapAdd 32 ln.transactions 1, transEnd := s0.now + 360, alertLow := false })

/-- The accepted command is answered with `rsp`, which the lane keeps with its SEQ (R264), and the loop shows it (R276); the
count of failures is cleared (R265). -/
def State.laneDone (s : State) (t k op v seq rsp : Nat) : State :=
  ((s.updLane t (fun ln => { ln with seqValid := true, lastSeq := seq, stored := rsp })).laneLast t k op v rsp).updLane t
    (fun ln => { ln with response := some rsp, fails := 0 })

/-- The outcomes of rail `n` are acted on at once: the rail exists and is sequenced, the sequence is active, and the
processor of its tile runs (R25, R27, R345, R370). -/
structure State.RailLive (s : State) (n : Nat) : Prop where
  rail : s.hasRail n = true
  sequenced : s.sequenced n = true
  active : s.seqActive = true
  tile : (s.tile (s.railTile n)).state = 0

/-- No step of a run ends in a fault. -/
def Safe (k : Nat) (s : State) : Prop := ∀ r : Fault, Sys2Proof.core.run k s ≠ .fault r

end Sys2Proof.Machine
end

