-- ==== Sys2Proof/Certificates/Slice0/Obligations.lean ====
section
/-! DEFINITION. The statements of this model: what every command does where its conditions hold, the frames and invariants
that hold of every command, and the rules of the manual that a computation follows. -/

open Sys2Proof Sys2Proof.Machine

/-- A step takes the command at the front of the queue and is `exec` of it on the state with the rest of the queue; on an empty
queue one PWM clock of device time passes while device time runs, and nothing else changes (the model's choice, log entry 3). -/
def Obligations.StepTakesFront : Prop :=
  (∀ (c : Instr) (cs : List Instr) (s : State),
    Sys2Proof.Machine.step { s with pending := c :: cs } = exec c { s with pending := cs }) ∧
  (∀ s : State, s.pending = [] → s.clk.running = true →
    Sys2Proof.Machine.step s = .next { s with clk := { s.clk with time := s.clk.time + 1 } }) ∧
  (∀ s : State, s.pending = [] → s.clk.running = false → Sys2Proof.Machine.step s = .next s)

/-- R1, R91, R94, R101, R112: right after reset the part is in mode RESET through POR with device time stopped at 0, no loop,
phase or rail active, no fault, no session and both fuses intact; every object has its default; no dictionary channel is
served, SAFE_OUT# is low and RESET_OUT high, every ENj low and both balls of every phase at high impedance. The part number of
the model at reset is its choice (log entry 1). -/
def Obligations.ResetState : Prop :=
  State.reset.md.mode = .reset ∧ State.reset.md.lastCause = 0 ∧ State.reset.clk.time = 0 ∧
  State.reset.clk.running = false ∧ State.reset.pending = [] ∧ State.reset.ev.faults = [] ∧
  State.reset.sec.session = none ∧ State.reset.sec.provision = false ∧ State.reset.sec.field = false ∧
  State.reset.safeOutLow = true ∧ State.reset.resetOutHigh = true ∧ State.reset.trellisLow = true ∧
  (∀ l, (State.reset.loop l).state = 0) ∧ (∀ p, (State.reset.phase p).on = false ∧ State.reset.balls p = (none, none)) ∧
  (∀ n, (State.reset.rail n).status = 0 ∧ State.reset.enBall n = some false) ∧
  (∀ t, State.reset.lckRuns t = false) ∧
  (∀ idx sub, State.reset.ob idx sub = dfltKey State.reset.T (okey idx sub)) ∧
  (∀ ch, State.reset.served ch = false)

/-- R475: the order of the fuses holds right after reset. -/
def Obligations.FuseOrderAtReset : Prop := State.reset.fuseOrder

/-- R1, R475: every command answers a next state on every state; it changes neither the part number nor the queue and unblows
no fuse, and every command but an alarm that reports FIELD in disagreement where PROVISION is not keeps the order of the fuses.
No command of this part ends in a fault or a refusal. -/
def Obligations.EveryCommandKeeps : Prop :=
  ∀ (c : Instr) (s : State), ∃ t, exec c s = .next t ∧ t.part = s.part ∧ t.pending = s.pending ∧
    (s.sec.provision = true → t.sec.provision = true) ∧ (s.sec.field = true → t.sec.field = true) ∧
    (¬ breaksFuseOrder c → s.Keeps t)

/-- R475: from every state in which FIELD is blown only where PROVISION is, and whose front command is no alarm that reports
FIELD in disagreement where PROVISION is not, every step answers a state in which the order holds and a blown fuse is still
blown. -/
def Obligations.FuseOrderInvariant : Prop :=
  ∀ s : State, s.fuseOrder → (∀ c cs, s.pending = c :: cs → ¬ breaksFuseOrder c) →
    ∃ t, Sys2Proof.Machine.step s = .next t ∧ t.fuseOrder ∧
    (s.sec.provision = true → t.sec.provision = true) ∧ (s.sec.field = true → t.sec.field = true)

/-- R68, R78, R100: no command but those that reset the part (a power-up, RESET#, a supply out of range, Reset Node) takes
device time back, whatever the state. -/
def Obligations.TimeNeverGoesBack : Prop :=
  ∀ (c : Instr) (s t : State), (∀ i, c ≠ .powerUp i) → c ≠ .resetAssertion → (∀ v d, c ≠ .supplyOutOfRange v d) →
    (∀ ch f, c ≠ .resetNode ch f) → exec c s = .next t → s.now ≤ t.now

/-- R44, R63, R95, R99, R101, R110, R486, R546: RESET#, a supply excursion of 5 µs or more, and a Reset Node outside RUN and
HOLD reset the part; an excursion of less than 1 µs changes nothing; a Reset Node in RUN or HOLD resets only the communication
of both channels and records it; CAN B ignores a Reset Node in an FD frame; a PLL that does not lock fails its tile; and a
power-up whose tile 0 locks and trains, with AUTO_MODE 0, ends in CONFIGURE with device time running, 1,300,000 clocks of
calibration after the four frames of step 6 of R284. -/
def Obligations.ResetsAndPowerUp : Prop :=
  ∀ (s : State) (supply : Supply) (ns t : Nat) (c : CanChan) (f : CanFormat) (i : PowerUpIn),
    (∃ u, exec .resetAssertion s = .next u ∧ s.ResetTo u 1) ∧
    (5000 ≤ ns → ∃ u, exec (.supplyOutOfRange supply ns) s = .next u ∧ s.ResetTo u 0) ∧
    (ns < 1000 → exec (.supplyOutOfRange supply ns) s = .next s) ∧
    (s.nmtHeard c = true → (c = .b → f ≠ .fd) → s.md.mode ≠ .run → s.md.mode ≠ .hold →
      ∃ u, exec (.resetNode c f) s = .next u ∧ s.ResetTo u 2) ∧
    (s.nmtHeard c = true → (c = .b → f ≠ .fd) → (s.md.mode = .run ∨ s.md.mode = .hold) →
      exec (.resetNode c f) s =
        .next (((s.resetComm .a).resetComm .b).report 0 srcMode 0x0006 2 0xFFFF [chanCode (canChan c)])) ∧
    (c = .b → f = .fd → exec (.resetNode c f) s = .next s) ∧
    (s.hasTile t = true → s.md.mode = .reset →
      exec (.pllLockTimeout t) s =
        .next { s with
          tiles := s.tiles.upd {} t (fun ti => { ti with state := 2, failCause := 1 })
          clk := { s.clk with pllLocked := clrBit s.clk.pllLocked t } }) ∧
    (s.md.mode = .reset → s.md.lastCause = 0 → s.md.factoryTest = false → i.test = false → s.lives i 0 = true →
      bit i.trainFailed 0 = false → i.compActive = [] → (s.powerUpLoad i).ob 0x2000 4 = 0 →
      ∃ u, exec (.powerUp i) s = .next u ∧ u.md.mode = .configure ∧ u.md.lastCause = 3 ∧ u.md.powerupTime = i.upTime10us ∧
        u.now = 4 * ticksPerFrame + 1300000 ∧ u.clk.running = true ∧ u.part = s.part ∧ u.pending = s.pending)

/-- R101 to R106, R114: each mode request that passes the checks of R492 (`State.Admits`) and whose own conditions hold
takes its effect and is answered with success: CONFIGURE from STANDBY, STANDBY from CONFIGURE after the entry check, a stop
from RUN, the pre-start checks from STANDBY, the clear of a torn-down HOLD whose causes are gone, and SERVICE. The object
written, its row and everything that the named operations do not touch stay as they are. -/
def Obligations.ModeRequestsComplete : Prop :=
  ∀ (s s1 : State) (ch : Chan) (i : Nat) (r : Row),
    (s.Admits s1 ch 0x2001 1 1 1 .devModeReq i r → s1.md.mode = .standby → s1.md.starting = none →
      exec (.requestConfigure ch) s =
        .next (((({ s1 with md := { s1.md with
          reqResult := 0, checkDetail := 0, lastReq := 1, restartWait := false } } : State).enterMode .configure 4 0)).answer ch
            (.ok []))) ∧
    (s.Admits s1 ch 0x2001 1 1 2 .devModeReq i r → s1.md.mode = .configure → s1.entryFail = none →
      exec (.requestStandby ch) s =
        .next ((({ s1 with md := { s1.md with reqResult := 0, checkDetail := 0, lastReq := 2 } } : State).enterMode .standby 4
          0).answer ch (.ok []))) ∧
    (s.Admits s1 ch 0x2001 1 1 2 .devModeReq i r → s1.md.mode = .run →
      exec (.requestStop ch) s =
        .next ((({ s1 with md := { s1.md with reqResult := 0, checkDetail := 0, lastReq := 2 } } : State).requestDown
          .stop).answer ch (.ok []))) ∧
    (s.Admits s1 ch 0x2001 1 1 3 .devModeReq i r → s1.md.mode = .standby → s1.md.starting = none → s1.md.proofRunning = false →
      exec (.requestRun ch) s =
        .next ((({ s1 with md := { s1.md with
          reqResult := 0, checkDetail := 0, lastReq := 3, starting := some .request, startCal := s1.cal.state == 1
          substate := 1 } } : State).beginOpenWire 1).answer ch (.ok []))) ∧
    (s.Admits s1 ch 0x2001 2 1 0x5A .devModeReq i r → s1.md.mode = .hold → s1.md.tornDown = true → s1.anyCause = false →
      ∃ t, exec (.holdClear ch 0x5A) s = .next (t.answer ch (.ok [])) ∧ s1.clearHold = (t, none) ∧ t.md.mode = .configure ∧
        t.md.lastCause = 12 ∧ t.md.tornDown = false ∧ t.md.downCause = none ∧ t.seq.dir = 0 ∧ t.clk = s1.clk) ∧
    (s.Admits s1 ch 0x2001 3 1 0xC3 .devModeReq i r → s1.md.mode = .configure → s1.sec.field = false →
      exec (.serviceEnter ch 0xC3) s =
        .next (((({ s1 with md := { s1.md with reqResult := 0, checkDetail := 0 } } : State).enterMode .service 4
          0).startManual).answer ch (.ok [])))

/-- R93, R140, R206, R208, R240, R268: each loop and phase command that passes the checks of R492 takes its effect: a target
waits behind those written before it for the next loop sample, which answers it; answered with success at once, a manual duty is
stored and its phase started or stopped, trim learning starts or ends, a latched-off loop returns to STATE 0, and alert bits are
cleared. -/
def Obligations.LoopRequestsComplete : Prop :=
  ∀ (s s1 : State) (ch : Chan) (r : Row) (l p v : Nat),
    (s.hasLoop l = true → s.Admits s1 ch (loopIdx l 1) 1 2 v .loopTarget l r →
      exec (.target ch l v) s =
        .next ((s1.updLoop l (fun lp => { lp with tg := { lp.tg with
          waiting := lp.tg.waiting ++ [⟨v, .dict (some ch)⟩] } })).answer ch .held)) ∧
    (s.hasPhase p = true → s.Admits s1 ch (phaseIdx p 7) 1 2 v .phaseManual p r → s1.manual p = true →
      exec (.phaseManual ch p v) s =
        .next (((s1.put (phaseIdx p 7) 1 v).updPhase p (fun ph =>
          if v = 0 then (if ph.reload then ph.off else ph.stopFrom_ s1.now)
          else if ph.on then { ph with stopping := false }
          else { ph.start s1.now ((s1.put (phaseIdx p 7) 1 v).phaseNow p) 0 with frozen := s1.md.halted })).answer ch (.ok []))) ∧
    (s.hasLoop l = true → s.Admits s1 ch (loopIdx l 0x10) 1 1 1 .loopTrimLearn l r → s1.mayLearn l = true →
      exec (.trimLearnStart ch l) s = .next ((s1.startLearn l).answer ch (.ok []))) ∧
    (s.hasLoop l = true → s.Admits s1 ch (loopIdx l 0x10) 1 1 2 .loopTrimLearn l r → s1.learning l = true →
      exec (.trimLearnAbort ch l) s =
        .next ((((s1.restoreTrims l).updLoop l (fun lp =>
          { lp with pp := { lp.pp with learn := 4, learnNo := false } })).loopReport srcReg l
          0x030A 1 [4, (s1.loop l).pp.learnIter]).answer ch (.ok []))) ∧
    (s.hasLoop l = true → s.Admits s1 ch (loopIdx l 0xE) 6 1 v .loopOc l r → (s1.loop l).state = 6 →
      ∃ t, exec (.latchClear ch l v) s = .next (t.answer ch (.ok [])) ∧ t = s1.loopCleared l ∧ (t.loop l).state = 0 ∧
        (∀ m, m ≠ l → t.loop m = s1.loop m)) ∧
    (s.hasLoop l = true → s.Admits s1 ch (0x5010 + l) 9 2 v .laneStatus l r →
      ∃ t, exec (.alertClear ch l v) s = .next (t.answer ch (.ok [])) ∧ t = s1.clearAlerts l v ∧
        (∀ b, b < 16 → bit (t.loop l).ln.latch b = (bit (s1.loop l).ln.latch b && !bit v b)) ∧
        (∀ m, m ≠ l → t.loop m = s1.loop m))

/-- R369, R390, R399, R401, R403, R505: each event command that passes the checks of R492 takes its effect and is answered
with success. -/
def Obligations.EventRequestsComplete : Prop :=
  ∀ (s s1 : State) (ch : Chan) (i : Nat) (r : Row) (v : Nat),
    (s.Admits s1 ch 0x4481 1 1 v .recCursor i r →
      exec (.view ch v) s = .next (({ s1 with ev := { s1.ev with view := v, cursor := none } } : State).answer ch (.ok []))) ∧
    (s.Admits s1 ch 0x4481 2 4 v .recCursor i r →
      exec (.position ch v) s =
        .next (({ s1 with ev := { s1.ev with cursor := ((s1.viewList.take v).getLast?).map (·.1) } } : State).answer ch
          (.ok []))) ∧
    (s.Admits s1 ch 0x4484 1 1 v .recClear i r →
      exec (.recClear ch v) s =
        .next (({ s1.drained.tileList.foldl (fun (x : State) t =>
            x.writeAtTime t srcEvent { code := 0x0A08, inst := 0xFFFF, sev := 1, data := [], time := x.now, pre := !x.clk.running })
          { s1.drained with ev := { s1.drained.ev with recorders := [], cursor := none } } with
          clk := s1.clk } : State).answer ch (.ok []))) ∧
    (s.Admits s1 ch 0x4501 4 1 v .faultActive i r →
      exec (.faultAck ch v) s =
        .next ((({ s1 with ev := { s1.ev with acked := true } } : State).alertLook).answer ch (.ok []))) ∧
    (s.Admits s1 ch 0x4501 6 1 v .faultActive i r →
      exec (.firstClear ch v) s =
        .next ((({ s1 with ev := { s1.ev with first := none } } : State).cellWrite 0 23 [] 0x4501).answer ch
          (.ok []))) ∧
    (s.Admits s1 ch 0x4302 7 1 v .seqFirstFail i r →
      exec (.seqFirstFailClear ch v) s =
        .next ((({ s1 with seq := { s1.seq with first := {} } } : State).cellWrite 0 21 (({} : FailRec).values 0x4302)
          0x4302).answer ch (.ok []))) ∧
    (s.Admits s1 ch 0x1003 0 1 v .errorHistory i r →
      exec (.errorHistoryClear ch v) s =
        .next (({ s1 with net := { s1.net with history := [] } } : State).answer ch (.ok [])))

/-- R314, R421, R427, R438: each Cellar and calibration command that passes the checks of R492 and whose own conditions
hold takes its effect and is answered with success. -/
def Obligations.CellarRequestsComplete : Prop :=
  ∀ (s s1 : State) (ch : Chan) (i : Nat) (r : Row) (n v : Nat),
    (s.Admits s1 ch 0x4801 1 1 v .cellarStore i r → s1.cel.storeState = 0 →
      exec (.storeRequest ch v) s = .next ((s1.startStore 3).answer ch (.ok []))) ∧
    (s.Admits s1 ch 0x4801 1 1 v .cellarStore i r → s1.cel.storeState ≠ 0 →
      exec (.storeRequest ch v) s =
        .next (({ s1 with cel := { s1.cel with storeMerged := satAdd 32 s1.cel.storeMerged 1 } } : State).answer ch (.ok []))) ∧
    (s.Admits s1 ch 0x4810 2 1 n .configSet i r → s1.cel.saveState ≠ 1 → s1.cel.saveState ≠ 2 →
      (∀ t ∈ s1.tileList, (s1.tile t).state = 0) →
      exec (.configSave ch n) s =
        .next (({ s1 with cel := { s1.cel with saveState := 1, saveSet := n, progress := 0 } } : State).answer ch (.ok []))) ∧
    (s.Admits s1 ch 0x4810 1 1 n .configSet i r →
      exec (.configActive ch n) s =
        .next ((({ s1 with cel := { s1.cel with activeSet := n } } : State).cellWrite 0 25 [(okey 0x4810 1, n)] 0x4810).answer
          ch (.ok []))) ∧
    (s.Admits s1 ch 0x4810 3 1 n .configSet i r → s1.md.mode = .configure →
      exec (.configRestore ch n) s = .next ((s1.restoreSet n).answer ch (.ok []))) ∧
    (s.Admits s1 ch 0x2020 1 1 v .calCmd i r → (s1.md.mode = .configure ∨ s1.md.mode = .standby) → s1.md.starting = none →
      s1.cal.state ≠ 1 →
      exec (.calibrationStart ch v) s =
        .next (({ s1 with cal := { s1.cal with state := 1, startedAt := s1.now, valid := false } } : State).answer ch (.ok [])))

/-- R444, R457, R468, R469, R470, R471, R475, R502: each safety and security command that passes the checks of R492 and
whose own conditions hold takes its effect and is answered with success. -/
def Obligations.SecurityRequestsComplete : Prop :=
  ∀ (s s1 : State) (ch : Chan) (i : Nat) (r : Row) (l k v np ks : Nat),
    (s.Admits s1 ch 0x2602 0x21 1 l .safeStateCause i r → s1.md.mode ≠ .hold → s1.loopSafe l = true →
      (s1.loop l).pr.resetOnly = false → s1.causePresent l (s1.loop l).pr.cause = false → bit s1.srdo.request l = false →
      ((s1.loop l).pr.safeSev = 3 → s1.tripInputActive l = false) →
      ∃ t, exec (.safeStateClear ch l) s = .next (t.answer ch (.ok [])) ∧ t = s1.loopCleared l ∧ (t.loop l).state = 0 ∧
        (t.loop l).pr.safeSev = 0) ∧
    (s.Admits s1 ch 0x13FE 0 1 v .srdoValid i r →
      exec (.srdoValid ch v) s =
        .next (({ s1.put 0x13FE 0 v with srdo := { s1.srdo with valid := v == 0xA5 } } : State).answer ch (.ok []))) ∧
    (s.Admits s1 ch 0x2610 1 1 v .diagTable i r → s1.md.mode = .standby → s1.obj.flight = none → s1.md.starting = none →
      s1.md.proofRunning = false →
      exec (.proofTest ch v) s =
        .next (({ s1 with md := { s1.md with proofRunning := true, proofState := 1, checkAt := s1.now } } : State).answer ch
          (.ok []))) ∧
    (s.Admits s1 ch 0x2400 1 1 k .secSession i r → k < 4 → s1.sec.locked = false →
      (∀ x, s1.sec.openNow = some x → x.1 = chanBus ch) → (s1.sec.keys.get none k).isSome = true → s1.keyAreaBad = false →
      exec (.openSession ch k) s =
        .next (({ s1 with
          sec := { s1.sec with
            session := none, tags := [], nonce := some (Config.nonce s1.diag.fresh % 2 ^ 64, chanBus ch, k), nonceAt := s1.now }
          diag := { s1.diag with fresh := s1.diag.fresh + 1 } } : State).answer ch (.ok []))) ∧
    (s.Admits s1 ch 0x2400 1 1 0xFF .secSession i r →
      exec (.closeSession ch) s =
        .next (({ s1 with sec := { s1.sec with session := none, tags := [], nonce := none } } : State).answer ch (.ok []))) ∧
    (s.Admits s1 ch 0x2400 3 8 v .secSession i r → s1.sec.nonce = some (np, chanBus ch, k) → s1.now < s1.sec.nonceAt + 5000000000 →
      ks = sessionKey ((s1.sec.keys.get none k).getD 0) k np → v = proofOf ks np →
      exec (.sessionProof ch v) s =
        .next (({ s1 with
          sec := { s1.sec with
            nonce := none, session := some (chanBus ch, k, ks), counter := 0, accessAt := s1.now, failures := 0 } } : State).answer ch
              (.ok []))) ∧
    (s.Admits s1 ch 0x2400 4 8 v .secSession i r →
      exec (.sessionTag ch v) s = .next (({ s1 with sec := { s1.sec with tags := s1.sec.tags.set none (chanCode ch) (some v) } } : State).answer ch (.ok [])))

/-- R468, R475: a key is written to its slot, a slot is rekeyed by the holder of slot 0, and each fuse is blown in CONFIGURE
by the holder of slot 0 once the verify read agrees; the commands pass the checks of R492 and are answered with success. A
fuse whose verify read fails stays unblown, sets its integrity bit and is refused with abort 0x0800_0000. -/
def Obligations.KeyAndFuseRequestsComplete : Prop :=
  ∀ (s s1 : State) (ch : Chan) (i : Nat) (r : Row) (k v slot ks n : Nat) (key : List Nat),
    (k < 4 → s.Admits s1 ch 0x2401 (k + 1) 16 v .secKeyslot i r → r.cls = .x →
      exec (.keyWrite ch k v) s =
        .next ((({ s1 with sec := { s1.sec with keys := s1.sec.keys.set none k (some v) } } : State).keepKeys).answer ch
          (.ok []))) ∧
    (s.Admits s1 ch 0x2401 5 25 v .secKeyslot i r → s1.sec.session = some (chanBus ch, 0, ks) → v % 256 = slot → slot < 4 →
      aesUnwrap (bytesLE 16 ks) (bytesLE 24 (v / 256)) = some key →
      exec (.rekey ch v) s =
        .next ((if slot = 0 then (s1.setKey slot (ofBytesLE key)).endSession else s1.setKey slot (ofBytesLE key)).answer ch
          (.ok []))) ∧
    (s.Admits s1 ch 0x2410 3 1 0x50 .fuseStatus i r → s1.sec.session = some (chanBus ch, 0, ks) → s1.md.mode = .configure →
      (s1.sec.keys.get none 0).isSome = true →
      (s1.sec.provisionCopies ||| n % 8 = 7 →
        exec (.blowProvision ch n) s = .next (({ s1 with sec := { s1.sec with provisionCopies := 7 } } : State).answer ch (.ok []))) ∧
      (s1.sec.provisionCopies ||| n % 8 = 0 →
        exec (.blowProvision ch n) s =
          .next (({ s1 with sec := { s1.sec with provisionCopies := 0, integrity := setBit s1.sec.integrity 1 } } : State).answer ch
            (.abort 0x08000000))) ∧
      (disagree (s1.sec.provisionCopies ||| n % 8) = true →
        exec (.blowProvision ch n) s =
          .next ((({ s1 with sec := { s1.sec with
            provisionCopies := s1.sec.provisionCopies ||| n % 8
            integrity := setBit s1.sec.integrity 1 } } : State).alarm 3).answer ch (.abort 0x08000000)))) ∧
    (s.Admits s1 ch 0x2410 3 1 0xF1 .fuseStatus i r → s1.sec.session = some (chanBus ch, 0, ks) → s1.md.mode = .configure →
      s1.sec.provision = true →
      (s1.sec.fieldCopies ||| n % 8 = 7 →
        exec (.blowField ch n) s = .next (({ s1 with sec := { s1.sec with fieldCopies := 7 } } : State).answer ch (.ok []))) ∧
      (s1.sec.fieldCopies ||| n % 8 = 0 →
        exec (.blowField ch n) s =
          .next (({ s1 with sec := { s1.sec with fieldCopies := 0, integrity := setBit s1.sec.integrity 0 } } : State).answer ch
            (.abort 0x08000000))) ∧
      (disagree (s1.sec.fieldCopies ||| n % 8) = true →
        exec (.blowField ch n) s =
          .next ((({ s1 with sec := { s1.sec with
            fieldCopies := s1.sec.fieldCopies ||| n % 8
            integrity := setBit s1.sec.integrity 0 } } : State).alarm 3).answer ch (.abort 0x08000000)))) ∧
    (s.Admits s1 ch 0x2410 3 1 0xF1 .fuseStatus i r → s1.sec.session = some (chanBus ch, 0, ks) → s1.md.mode = .configure →
      s1.sec.provision = false →
      exec (.blowField ch n) s = .next (s1.answer ch (.abort 0x08000000)))

/-- R75, R79, R80, R85, R536, R538, R541: a histogram clear waits for the frame boundary, a capture is armed and disarmed, a
commit is scheduled for frame N + 2 over the tiles that hold shadow values, a discard empties the shadow registers, and a
written object goes to the shadow registers (C), to its block at once (X), or to its active value (L without an effect of its
own), each after passing the checks of R492. -/
def Obligations.CommitAndMonitorRequestsComplete : Prop :=
  ∀ (s s1 : State) (ch : Chan) (f : Fam) (i : Nat) (r : Row) (t u idx sub len v tag : Nat),
    (s.hasTile t = true → u < 16 → s.Admits s1 ch (0x4C00 + 16 * t + u) 0x0A 1 v .histogram i r →
      exec (.histogramClear ch t u v) s =
        .next (({ s1 with hists := s1.hists.upd {} i (fun h => { h with clear := true }) } : State).answer ch (.ok []))) ∧
    (s.hasTile t = true → s.Admits s1 ch (0x4D00 + t) 1 1 1 .capture t r →
      (s1.anchoredAt t (s1.ob (0x4D00 + t) 2)).isSome = true →
      exec (.armCapture ch t) s =
        .next (({ s1 with caps := s1.caps.set {} t { state := 1, slot := s1.ob (0x4D00 + t) 2 } } : State).answer ch (.ok []))) ∧
    (s.hasTile t = true → s.Admits s1 ch (0x4D00 + t) 1 1 0 .capture t r → (s1.caps.get {} t).state = 1 →
      s1.ob (0x4D00 + t) 3 ≠ 0 →
      exec (.disarmCapture ch t) s = .next (({ s1 with caps := s1.caps.set {} t {} } : State).answer ch (.ok []))) ∧
    (s.Admits s1 ch 0x2010 1 4 tag .commit i r → s1.withShadow.commitFail = none → s1.trimPending = false →
      exec (.commit ch tag) s =
        .next (({ s1 with
          obj := { s1.obj with
            tag := tag, schedFrame := s1.frame + 2, result := 1
            flight := some { frame := s1.frame + 2, named := s1.pendingTiles } } } : State).answer ch (.ok []))) ∧
    (s.Admits s1 ch 0x2011 4 1 v .shadowStatus i r →
      exec (.discard ch v) s = .next (({ s1 with obj := { s1.obj with pend := [], owed := [] } } : State).answer ch (.ok []))) ∧
    (s.Admits s1 ch idx sub len v f i r → r.cls = .c →
      exec (.objectWrite ch idx sub len v .whole) s =
        .next (({ s1 with obj := { s1.obj with
          pend := s1.obj.pend.set none (okey idx sub) (some v), owed := s1.obj.owed.set 0 (okey idx sub) 0 } } : State).answer ch
          (.ok []))) ∧
    (s.Admits s1 ch idx sub len v f i r → r.cls = .x → s1.laneBusy f i = false →
      ¬ (f = .netCfg ∧ pairOf (okey idx sub) = some 19) →
      exec (.objectWrite ch idx sub len v .whole) s = .next ((s1.putX f i idx sub v).answer ch (.ok []))) ∧
    (s.Admits s1 ch idx sub len v .netCfg i r → r.cls = .x → pairOf (okey idx sub) = some 19 →
      exec (.objectWrite ch idx sub len v .whole) s =
        .next (((s1.putX .netCfg i idx sub v).whenKept 0 19 ch).answer ch .held)) ∧
    (s.Admits s1 ch idx sub len v f i r → r.cls = .l → f ≠ .loopTarget → s1.liveDevice ch f sub v 0 = none →
      s1.liveBlock f i sub v = none →
      exec (.objectWrite ch idx sub len v .whole) s = .next ((s1.put idx sub v).answer ch (.ok [])))

/-- R46, R104, R106, R107, R108, R318, R319, R427: the events that start and stop the part. A START edge in STANDBY with
SAFE_IN# high begins the pre-start checks, and while they run it is ignored with a record; the remote-sense set is followed by
the VMON set; the completed checks enter RUN, or leave the part in STANDBY with a record of the bits that failed; a low START
stops RUN where START_STOP is 1; a loss of VIN, by a level under VIN_FAIL or by PFAIL, triggers the power-fail store, is
recorded, and takes RUN down; VIN that reaches VIN_GOOD starts its spell, and one that was good keeps it; and the waiting
restart begins the checks at its instant. -/
def Obligations.StartsAndStops : Prop :=
  ∀ (s s3 : State) (why : RunTrigger) (readings : List OpenReading) (active : List Nat) (mv : Nat),
    (s.md.mode = .standby → s.pins.safeIn = true → s.startBusy = false →
      exec .startRisingEdge s =
        .next (({ s with pins := { s.pins with start := true } } : State).beginStart .startEdge)) ∧
    (s.md.mode ≠ .reset → (s.pins.safeIn = false ∨ s.startBusy = true) →
      exec .startRisingEdge s =
        .next (({ s with pins := { s.pins with start := true } } : State).report 0 srcMode 0x0003 0 0xFFFF [1])) ∧
    (s.md.openWireSet = 1 →
      s3 = ({ (s.reach (s.md.checkAt + 250000)).reportOpen 1 readings with
        md := { ((s.reach (s.md.checkAt + 250000)).reportOpen 1 readings).md with openWireSet := 0 } } : State).unmask active →
      s3.md.starting ≠ none → exec (.openWireSetEnd readings active) s = .next (s3.beginOpenWire 2)) ∧
    (s.md.openWireSet = 2 →
      s3 = ({ (s.reach (s.md.checkAt + 250000)).reportOpen 2 readings with
        md := { ((s.reach (s.md.checkAt + 250000)).reportOpen 2 readings).md with openWireSet := 0 } } : State).unmask active →
      exec (.openWireSetEnd readings active) s =
        .next (s3.tileList.foldl State.restartTables s3)) ∧
    (s.md.starting = some why → s.md.mode = .standby → s.md.openWireSet = 0 → s.startResultNow = 0 →
      exec .preStartChecksComplete s =
        .next (({ s with md := { s.md with
          startResult := 0, starting := none, substate := if s.md.restartWait then 5 else 0
          restartWait := false } } : State).enterRun
          why.cause)) ∧
    (s.md.starting = some why → why ≠ .request → s.md.mode = .standby → s.md.openWireSet = 0 → s.startResultNow ≠ 0 →
      exec .preStartChecksComplete s =
        .next (({ s with
          md := { s.md with
            startResult := s.startResultNow, starting := none, substate := if s.md.restartWait then 5 else 0 } } : State).report 0 srcMode
            0x0002 3 0xFFFF [s.startResultNow])) ∧
    (s.md.mode = .run → s.ob 0x2000 5 = 1 →
      exec .startLowStop s = .next (({ s with pins := { s.pins with start := false } } : State).requestDown .stop)) ∧
    (s.md.mode = .standby → s.md.restartWait = true → s.ob 0x2000 5 = 1 →
      exec .startLowStop s =
        .next { s with
          pins := { s.pins with start := false }
          md := { s.md with restartWait := false, substate := if s.md.starting.isSome then s.md.substate else 0 } }) ∧
    (s.ob 0x2000 8 ≤ mv → exec (.vinFail mv) s = .next { s with pins := { s.pins with vin := mv } }) ∧
    (s.md.mode = .run → s.ob 0x2000 7 ≠ 0 → mv < s.ob 0x2000 8 →
      exec (.vinFail mv) s =
        .next (({ (({ s with pins := { s.pins with vin := mv } } : State).startStore 2).report 0 srcMode 0x0005 3 0xFFFF
          [3, 2] with md := { s.md with vinGoodSince := s.now } } : State).requestDown .vinLoss)) ∧
    (s.md.mode = .run →
      exec .pfailRise s =
        .next (({ (({ s with pins := { s.pins with pfail := true } } : State).startStore 1).report 0 srcMode 0x0005 3 0xFFFF
          [3, 1] with md := { s.md with vinGoodSince := s.now } } : State).requestDown .vinLoss)) ∧
    (s.md.mode = .standby →
      exec .pfailRise s =
        .next { (({ s with pins := { s.pins with pfail := true } } : State).startStore 1).report 0 srcMode 0x0005 3 0xFFFF
          [2, 1] with md := { s.md with vinGoodSince := s.now } }) ∧
    (∃ u, exec (.vinGoodAgain mv) s = .next u ∧ u.pins = { s.pins with pfail := false, vin := mv } ∧
      u.vinOk = decide (s.ob 0x2000 7 ≤ mv) ∧
      u.md = { s.md with vinGoodSince := if s.vinOk = false ∧ u.vinOk = true then s.now else s.md.vinGoodSince }) ∧
    (s.md.mode = .standby → s.md.restartWait = true → s.vinOk = true → s.startBusy = false →
      exec .restart s = .next ((s.reach s.restartAt).beginStart .restart))

/-- R101, R110, R111, R471, R486, R513: NMT commands that a channel hears, on CAN B in classical frames. Start sets OPERATIONAL
and, with NMT_START 1, begins the pre-start checks in STANDBY and is a refused trigger elsewhere; Stop and Enter Pre-operational
set the state; Reset Communication resets that channel's communication, drops its held requests and closes its session. None of
them changes the mode. -/
def Obligations.NmtCommands : Prop :=
  ∀ (s : State) (c : CanChan) (f : CanFormat), s.nmtHeard c = true → (c = .b → f ≠ .fd) →
    (s.md.mode = .standby → s.ob 0x2000 6 = 1 → s.startBusy = false →
      exec (.startRemoteNode c f) s = .next (({ s with net := s.net.setNmt c .operational } : State).beginStart .nmtStart)) ∧
    (s.ob 0x2000 6 ≠ 1 → exec (.startRemoteNode c f) s = .next { s with net := s.net.setNmt c .operational }) ∧
    (s.md.mode ≠ .standby → s.ob 0x2000 6 = 1 → s.startBusy = false →
      exec (.startRemoteNode c f) s =
        .next (({ s with net := s.net.setNmt c .operational } : State).report 0 srcMode 0x0003 1 0xFFFF [3])) ∧
    exec (.stopRemoteNode c f) s = .next { s with net := s.net.setNmt c .stopped } ∧
    exec (.enterPreOperational c f) s = .next { s with net := s.net.setNmt c .preOperational } ∧
    exec (.resetCommunication c f) s = .next (s.resetComm c) ∧
    s.resetComm c = { s with
      net := (s.resetComm c).net, sec := s.sec.leave c, obj := (s.resetComm c).obj, loops := (s.resetComm c).loops
      lanes := (s.resetComm c).lanes, cel := (s.resetComm c).cel } ∧
    (∀ h, h ∈ (s.resetComm c).obj.heldReqs ↔ h ∈ s.obj.heldReqs ∧ (∀ ch, h.chan = some ch → chanBus ch ≠ canChan c) ∧
      ∀ n bs, h = .rpdo n bs → s.rpdoCan n ≠ c) ∧
    (∀ ch, chanBus ch = canChan c → (s.resetComm c).transferOf ch = none) ∧
    (∀ slot ks, s.sec.session = some (canChan c, slot, ks) → (s.resetComm c).sec.session = none) ∧
    (∀ x, s.sec.session = some x → x.1 ≠ canChan c → (s.resetComm c).sec = s.sec)

/-- R93, R136, R158, R177, R193, R194, R294: what the carrier commands do to a phase that switches. An edge decision freezes the
edge at its decision point with the command then in use, and once both edges of the period are frozen the next rising edge where
its decision point comes before the carrier zero; a carrier zero is passed at its own device time, after the events of the
period have reached their taps; the phase takes the settings that are active then, or goes off where it is stopping; a loop
carrier boundary applies what waits for it; and a read-back that agrees with the commanded levels changes nothing but the time,
one that differs is noted, and one that differs in the second period running is an output-stuck fault of its ball. -/
def Obligations.CarrierCommands : Prop :=
  ∀ (s : State) (p l : Nat) (v : State) (d : Nat × Nat) (h w : Option Bool),
    (s.hasPhase p = true → s.driven p = true → (s.phase p).decided = false → d = s.decisionTime p (s.phase p) (s.dutyTimes p) →
      ∃ t, exec (.edgeDecision p) s = .next t ∧ t.now = Nat.max s.now d.2 ∧ t.phase p = s.decideEdge p d.1 ∧
        (∀ q, q ≠ p → t.phase q = s.phase q) ∧
        t = { s with clk := t.clk, phases := t.phases }) ∧
    (s.hasPhase p = true → s.driven p = true → (s.phase p).decided = true →
      exec (.edgeDecision p) s = .next (s.freezeAhead p)) ∧
    ((s.phase p).decided = true → (s.phase p).ed.ahead = none → (s.phase p).stopping = false →
      (s.decisionTime p ((s.phase p).atZero (s.phase p).nextZero (s.phaseNow p) (s.phase p).offset none) (s.dutyTimes p)) = d →
      d.2 < (s.phase p).nextZero →
      s.freezeAhead p = (s.reach d.2).updPhase p (fun ph => { ph with ed := { ph.ed with
        ahead := some (s.commandOn p ((s.phase p).atZero (s.phase p).nextZero (s.phaseNow p) (s.phase p).offset none) d.1) } })) ∧
    (s.hasPhase p = true → (s.phase p).on = true → (s.phase p).frozen = false → (s.phase p).reload = false →
      s.md.halted = false →
      ∃ z u, z = (s.phase p).zeroAfter s.now ∧ s.now ≤ z ∧
        u = (if s.driven p = true ∧ s.now < z then s.freezeAhead p else s).reach z ∧
        ((s.phase p).stopping = true → (s.phase p).stopFrom ≤ z →
          v = ((u.noteEdges [p] u.ballsLive).flushTaps p).phasesSwapped [p] →
          exec (.carrierZero p) s =
            .next ((v.updPhase p (fun ph => ({ ph with cfg := v.phaseNow p } : Phase).off)).burstZero p z)) ∧
        ((s.phase p).stopping = false ∨ z < (s.phase p).stopFrom →
          v = (((u.noteEdges [p] (fun _ => false)).flushTaps p).tap p 0 z).phasesSwapped [p] →
          exec (.carrierZero p) s =
            .next ((v.updPhase p (fun ph => v.zeroed p ph z (v.phaseNow p) ((v.newOffset p (v.phaseNow p)).getD ph.offset)
              (v.newOffset p (v.phaseNow p)))).burstZero p z))) ∧
    (s.hasLoop l = true → s.clk.running = true →
      ∃ b u, b = nextCongruent s.now (s.spreadBase l) (s.period l) ∧ u = (s.reach b).syncOut l b ∧
        exec (.loopCarrierBoundary l) s = .next (if u.enabled l then u.applyDue l else u)) ∧
    (s.hasPhase p = true → (s.phase p).on = true → (s.phase p).zeroSeen = true → (s.phase p).frozen = false →
      (s.phase p).reload = false → s.md.halted = false →
      differs ((s.reach (s.readbackAt p)).balls p).1 h = false →
      differs ((s.reach (s.readbackAt p)).balls p).2 w = false →
      exec (.readbackSample p h w) s = .next (s.reach (s.readbackAt p))) ∧
    (s.hasPhase p = true → (s.phase p).on = true → (s.phase p).zeroSeen = true → (s.phase p).frozen = false →
      (s.phase p).reload = false → s.md.halted = false →
      differs ((s.reach (s.readbackAt p)).balls p).1 h = true → (s.phase p).ct.badLast = false →
      exec (.readbackSample p h w) s =
        .next ((s.reach (s.readbackAt p)).updPhase p (fun ph =>
          { ph with ct := { ph.ct with badNow := true } }))) ∧
    (s.hasPhase p = true → (s.phase p).on = true → (s.phase p).zeroSeen = true → (s.phase p).frozen = false →
      (s.phase p).reload = false → s.md.halted = false → (s.phase p).ct.badLast = true → (s.phase p).ct.stuck = false →
      ∀ u, u = (s.reach (s.readbackAt p)).updPhase p (fun ph => { ph with ct := { ph.ct with badNow := true } }) →
      (differs ((s.reach (s.readbackAt p)).balls p).1 h = true → exec (.readbackSample p h w) s = .next (u.outputStuck p 0)) ∧
      (differs ((s.reach (s.readbackAt p)).balls p).1 h = false → differs ((s.reach (s.readbackAt p)).balls p).2 w = true →
        exec (.readbackSample p h w) s = .next (u.outputStuck p 1)))

/-- R172 to R175, R179 to R181, R185, R221: trips and the debug halt. An over-current truncation ends the pulse at the time at
which the comparator can end it; a trip input that reaches its active level is recorded and acts as TRIP_CFG says (truncation,
off, or the severity-3 safe state), and one at its inactive level, or inside an open blanking window, does not act; its release
frees the phases it held; a loop in a severity-3 safe state whose rail is off returns to STATE 0; a condition absent at the end
of a blanking window does nothing and one present acts there; a debug halt freezes every switching phase with the levels of its
balls, and its end makes each wait for the reload of its counter. -/
def Obligations.TripCommands : Prop :=
  ∀ (s a : State) (p t n k l x : Nat) (level : Bool) (ps : List Nat),
    (s.hasPhase p = true → s.md.halted = false → (s.phase p).frozen = false → (s.phase p).reload = false →
      (s.phase p).tripOff = 0 → (s.phase p).haltOff = false → s.highFrom p = some x →
      exec (.ocTruncation p) s =
        .next ((((s.reach x).noteEdges [p] (fun _ => true)).abortLearnOf p).cutPhase p true)) ∧
    (s.hasTile t = true → n < 2 → a = { s with pins := { s.pins with trip := s.pins.trip.set false (8 * t + n) level } } →
      (a.tripLevel t n = false →
        exec (.tripAssert t n level) s =
          .next { a with pins := { a.pins with tripSeen := a.pins.tripSeen.set false (8 * t + n) false } }) ∧
      (a.tripLevel t n = true → a.blanked t (.trip n) = true → exec (.tripAssert t n level) s = .next a) ∧
      (a.tripLevel t n = true → a.blanked t (.trip n) = false → s.ob (0x3800 + 16 * t) (3 + n) = 0 →
        exec (.tripAssert t n level) s =
          .next { a with pins := { a.pins with tripSeen := a.pins.tripSeen.set false (8 * t + n) true } }) ∧
      (a.tripLevel t n = true → a.blanked t (.trip n) = false → s.md.mode ≠ .reset →
        ∃ u0 u, u0 = ({ a with pins := { a.pins with tripSeen := a.pins.tripSeen.set false (8 * t + n) true } } : State) ∧
          u = (if s.pins.tripSeen.get false (8 * t + n) = true then u0
            else u0.report t (122 + n) 0x0506 2 (122 + n) [s.ob (0x3800 + 16 * t) (3 + n)]) ∧
          (s.ob (0x3800 + 16 * t) (3 + n) = 1 → exec (.tripAssert t n level) s = .next (u.truncateAll (s.tripPhases t n))) ∧
          (s.ob (0x3800 + 16 * t) (3 + n) = 2 → exec (.tripAssert t n level) s = .next (u.tripOffSet (s.tripPhases t n) n)) ∧
          (s.ob (0x3800 + 16 * t) (3 + n) = 3 →
            exec (.tripAssert t n level) s = .next (u.enterSafeAll (u.loopsHolding (s.tripPhases t n)) 3 0x0506)))) ∧
    (s.hasTile t = true → k < 4 →
      a = { s with pins := { s.pins with
        sflt := s.pins.sflt.set false (4 * t + k) true, sfltSeen := s.pins.sfltSeen.set false (4 * t + k) false } } →
      (a.blanked t (.sflt k) = true → exec (.sfltAssert t k) s = .next a) ∧
      (a.blanked t (.sflt k) = false → s.md.mode ≠ .reset →
        ∃ u, u = ({ a with pins := { a.pins with sfltSeen := a.pins.sfltSeen.set false (4 * t + k) true } } : State).report t
            (118 + k) 0x0506 2 (118 + k) [s.ob (0x3800 + 16 * t) 7] ∧
          (s.md.halted = false → s.ob (0x3800 + 16 * t) 7 = 0 → exec (.sfltAssert t k) s = .next u) ∧
          (s.md.halted = false → s.ob (0x3800 + 16 * t) 7 = 1 →
            exec (.sfltAssert t k) s = .next (u.tripOffSet (s.sfltPhases t k) 2)) ∧
          (s.md.halted = false → s.ob (0x3800 + 16 * t) 7 = 2 →
            exec (.sfltAssert t k) s = .next (u.enterSafeAll (u.loopsHolding (s.sfltPhases t k)) 3 0x0506)) ∧
          (s.md.halted = true → s.obAt t 0x3880 1 ≠ 0 →
            exec (.sfltAssert t k) s =
              .next { u with
                phases := u.phases.updAll {} (s.sfltPhases t k) (fun _ ph => { ph with haltOff := true }) }))) ∧
    (s.hasTile t = true →
      exec (.tripRelease t (.trip n)) s =
        .next (({ s with
          pins := { s.pins with
            trip := s.pins.trip.set false (8 * t + n) (s.ob (0x3800 + 16 * t) (1 + n) == 1)
            tripSeen := s.pins.tripSeen.set false (8 * t + n) false } } : State).tripOffClear (s.tripPhases t n) n) ∧
      exec (.tripRelease t (.sflt k)) s =
        .next (({ s with pins := { s.pins with 
          sflt := s.pins.sflt.set false (4 * t + k) false
          sfltSeen := s.pins.sfltSeen.set false (4 * t + k) false } } : State).tripOffClear (s.sfltPhases t k) 2)) ∧
    (s.hasLoop l = true → s.loopSafe l = true → (s.loop l).pr.safeSev = 3 → (s.rail (128 + l)).on = false →
      exec (.safeStateTripRelease l) s = .next ((s.tripInputsEnd l).loopCleared l)) ∧
    (s.hasLoop l = true → s.loopSafe l = true → (s.loop l).pr.safeSev = 3 → (s.rail (128 + l)).on = true → s.md.mode = .run →
      exec (.safeStateTripRelease l) s = .next (((s.tripInputsEnd l).loopCleared l).tripOffTime l)) ∧
    (s.hasTile t = true → ∀ i : TripInput, a = s.reach ((s.openUntil t i s.now).getD s.now) →
      exec (.blankingWindowEnd t i false) s = .next a ∧ exec (.blankingWindowEnd t i true) s = .next (a.tripActs t i)) ∧
    (s.md.mode = .service → s.sec.field = false → s.md.halted = false → ps = s.phaseList.filter (fun q => (s.phase q).on) →
      a = ps.foldl State.flushTaps (s.noteEdges ps (fun q => s.obAt (q / 16) 0x3880 2 == 1 && s.ballsLive q)) →
      exec .debugHalt s =
        .next { a with
          md := { a.md with halted := true }
          phases := a.phases.updAll {} ps (fun q ph =>
            { ph with
              frozen := true, haltBalls := some (a.balls q), haltCut := none, haltOff := a.obAt (q / 16) 0x3880 2 == 1 })
          tiles := a.tiles.updAll {} a.tileList (fun _ ti => { ti with procHalted := true }) }) ∧
    (s.md.halted = true →
      ∃ u, exec .haltEnd s = .next u ∧ u.md = { s.md with halted := false } ∧ u.obj = s.obj ∧ u.loops = s.loops ∧
        u.rails = s.rails ∧ u.clk = s.clk ∧ u.phases = s.phases.updAll {} s.phaseList (fun _ ph => ph.thaw))

/-- R173, R451: SAFE_IN# going low in RUN is recorded, takes every loop in STATE 1 to 5 to its safe state and the part to HOLD; in
another mode it does the same without HOLD; its release lets the phases with a manual duty switch again from their next
carrier zero; a low inside an open blanking window is ignored. -/
def Obligations.SafeInput : Prop :=
  ∀ (s a u : State) (ls ps : List Nat),
    (s.pins.safeIn = true → s.blanked 0 .safeIn = false → s.md.mode ≠ .reset →
      ps = s.phaseList.filter (fun p => (s.phase p).on) → a = ps.foldl State.flushTaps (s.noteEdges ps s.ballsLive) →
      u = ({ a with
        phases := a.phases.updAll {} ps (fun _ ph =>
          if ph.frozen then { ph with haltOff := true } else if ph.stopping then ph.off else ph)
        pins := { a.pins with safeIn := false } } : State).report 0 srcSafety 0x0C01 5 0xFFFF [] →
      ls = u.loopList.filter (fun l => u.enabled l && decide (1 ≤ (u.loop l).state) && decide ((u.loop l).state ≤ 5)) →
      (s.md.mode = .run → exec .safeInLow s = .next ((u.enterSafeAll ls 5 0x0C01).enterHold 0 0x0C01 0xFFFF)) ∧
      (s.md.mode ≠ .run → exec .safeInLow s = .next (u.enterSafeAll ls 5 0x0C01))) ∧
    (s.blanked 0 .safeIn = true → exec .safeInLow s = .next s) ∧
    (s.pins.safeIn = false →
      exec .safeInRelease s =
        .next { s with
          pins := { s.pins with safeIn := true }
          phases := s.phases.updAll {} (s.phaseList.filter (fun p => s.manual p && (s.phase p).on))
            (fun _ ph => if ph.frozen then ph else ph.resume (32 * (s.now - ph.zeroAt))) })

/-- R198, R205, R207, R209, R210, R212, R213: population, share, learning and burst. A dwell that has run its length decides the
level that the settings under which it began give, which takes effect from the next frame boundary on; a phase out of its share
for SHARE_TIME is reported once and latched; a learning iteration whose frames have passed ends; a burst begins at the next
carrier zero of its phase, in STATE 3, with a record; the zero that ends a burst begins sleep and counts the burst; a wake ends
it, the next burst beginning at the earliest one loop sample after the sample at which the slots ungate; and a burst is left for
a cause that holds. -/
def Obligations.PopulationAndBurst : Prop :=
  ∀ (s : State) (l p : Nat) (e : Int) (cause : BurstExitCause),
    (s.loopIs l = true → (s.loop l).state = 2 → s.learning l = false → (s.loop l).previewing = false →
      0 ≤ (s.loop l).pp.level → 0 < (s.loop l).pp.dwell → (s.loop l).pp.dwellCfg.len ≤ (s.loop l).pp.dwell →
      (s.loop l).pp.trigFrame = false →
      ∃ lam, lam = (s.levelFor l (s.loop l).pp.dwellCfg.levels 0 (s.loop l).pp.dwellCfg.hyst).getD (-1) ∧
        exec (.shedDwellExpiry l) s =
          .next ((s.updLoop l (fun lp =>
            { lp with
              pp := { lp.pp.decide_ (s.decision l (s.dwellCap l lam) lp.pp.mark lp.pp.level ((s.frame + 1) * ticksPerFrame) true) with
                level := lam, dwell := 0, keep := false } })).levelRecord l (s.loop l).pp.level lam
            (s.capCount l (s.dwellCap l lam) (s.loop l).pp.mark))) ∧
    (s.hasPhase p = true → s.loopOf p = some l → (s.phase p).tl.share = some e → s.monitored l = true →
      (s.phase p).tl.shareTold = false → s.lo l 0x10 0xD ≤ (s.phase p).tl.shareRun →
      exec (.shareEvent p) s =
        .next (((s.updPhase p (fun ph => { ph with tl := { ph.tl with shareTold := true } })).report (p / 16) (p % 16) 0x0601 2
          p (two (ofInt 16 e))).latch l 14)) ∧
    (s.loopIs l = true → s.learning l = true → s.learnLength l ≤ (s.loop l).pp.learnFrames →
      exec (.trimLearnIteration l) s = .next (s.learnIteration l)) ∧
    (s.loopIs l = true → s.burstFit l = true → (s.loop l).pp.burst = 0 → (s.loop l).ac.action = 0 →
      (s.loop l).previewing = false → s.lo l 0xD 4 ≤ (s.loop l).pp.burstDwell →
      ∃ z, z = (s.phase (s.burstPhase l)).zeroAfter s.now ∧
        exec (.burstEntry l) s =
          .next (((((s.reach z).updLoop l (fun lp => { lp with state := 3, pp := { lp.pp with shortSleeps := 0 } })).beginBurst
            l).loopReport srcReg l 0x0309 0 [1, 0]).manageLoop l)) ∧
    (s.loopIs l = true → (s.loop l).pp.burst = 1 →
      exec (.burstSleep l) s =
        .next (((s.phasesOf l).foldl State.flushTaps ((s.reach (s.burstEnd l)).noteEdges (s.phasesOf l)
          (s.reach (s.burstEnd l)).ballsLive)).updLoop l (fun lp =>
            { lp with pp := { lp.pp with
              burst := 2, burstFrom := none, sleepAt := Nat.max s.now (s.burstEnd l)
              burstCount := wrapAdd 32 lp.pp.burstCount 1 } }))) ∧
    (s.loopIs l = true → (s.loop l).pp.burst = 2 → (s.loop l).pp.burstFrom = none →
      exec (.burstWake l) s =
        .next (s.updLoop l (fun lp =>
          { lp with
            pp := { lp.pp with
              burstFrom := some ((s.now / ticksPerSample + 2) * ticksPerSample)
              wakeAt := some s.now
              lastSleep := Nat.min ((s.now - (s.loop l).pp.sleepAt) / 50) 0xFFFF
              shortSleeps := if s.now - (s.loop l).pp.sleepAt < 50 * s.lo l 0xD 8 then satAdd 8 lp.pp.shortSleeps 1
                else 0 } }))) ∧
    (s.loopIs l = true → (s.loop l).pp.burst ≠ 0 →
      exec (.burstExit l .preview) s = .next (s.endBurst l 1) ∧ exec (.burstExit l .canopy) s = .next (s.endBurst l 2) ∧
      (s.lo l 0xD 1 = 0 ∨ s.lo l 0xD 2 = 0 → exec (.burstExit l .forbidden) s = .next (s.endBurst l 3)) ∧
      (s.lo l 0xD 9 ≤ (s.loop l).pp.shortSleeps → exec (.burstExit l .shortSleeps) s = .next (s.endBurst l 4)) ∧
      exec (.burstExit l .precedence) s = .next (s.endBurst l 5)) ∧
    (s.loopIs l = true → (s.loop l).pp.burst = 0 → exec (.burstExit l cause) s = .next s)

/-- R223, R226 to R236: the soft-start hold ends, in regulation where ref is at its end point; an undervoltage crossing triggers
Canopy where its comparator trigger is enabled; an action at its maximum time is released; an LPREV edge reaches every loop
anchored on its tile, is merged within REARM, fires an armed preview of a regulating loop, and is otherwise unarmed; a fired
preview is applied at its instant and ends at its own, when it is consumed. -/
def Obligations.TransientCommands : Prop :=
  ∀ (s : State) (l t : Nat) (c : CanopyCfg) (f : Fired) (q : Preview),
    (s.loopIs l = true → (s.loop l).state = 1 → (s.loop l).tg.holdAbove = true →
      exec (.softStartHoldTimeout l) s =
        .next ((s.reach ((s.loop l).tg.startAt + 500 * (s.loop l).tg.onRamp)).holdEnds l)) ∧
    ((s.loop l).tg.ref = (s.loop l).refGoal →
      s.holdEnds l = (s.updLoop l (fun lp => { lp with tg := { lp.tg with holdAbove := false } })).enterRegulating l) ∧
    ((s.loop l).tg.ref ≠ (s.loop l).refGoal →
      s.holdEnds l = s.updLoop l (fun lp => { lp with tg := { lp.tg with holdAbove := false } })) ∧
    (s.loopIs l = true → bit (s.lo l 0xA 1) 0 = true →
      exec (.canopyTrigger l) s = .next (s.canopyTrigger l 1 (s.loop l).cp.u1)) ∧
    (s.loopIs l = true → (s.loop l).ac.actCfg = some c → (s.loop l).ac.action ≠ 0 →
      exec (.canopyMaxTime l) s = .next ((s.reach ((s.loop l).ac.actAt + c.maxTime)).releaseAction l)) ∧
    (s.hasTile t = true → s.md.mode ≠ .reset →
      exec (.lprevEdge t) s =
        .next ((s.loopList.filter (fun m => s.enabled m && s.anchor m == t)).foldl State.lprev s)) ∧
    (∀ x, (s.loop l).pv.lastFire = some x → s.now < x + 50 * s.lo l 0xB 8 →
      s.lprev l = (((s.updLoop l (fun lp => { lp with pv := { lp.pv with merged := satAdd 32 lp.pv.merged 1 } })).loopReport
        srcTrans l 0x0406 0 []).latch l 4)) ∧
    ((s.loop l).pv.lastFire = none → (s.loop l).pv.armed = some q → ((s.loop l).state = 2 ∨ (s.loop l).state = 3) →
      s.lprev l = s.firePreview l q) ∧
    ((s.loop l).pv.lastFire = none → (s.loop l).pv.armed = none →
      s.lprev l = (((s.updLoop l (fun lp => { lp with pv := { lp.pv with unarmed := satAdd 32 lp.pv.unarmed 1 } })).loopReport
        srcTrans l 0x0405 2 []).latch l 3)) ∧
    (s.loopIs l = true → (s.loop l).pv.fired = [f] → f.applied = false →
      exec (.previewApply l) s =
        .next ((s.reach f.applyAt).updLoop l (fun lp => { lp with pv := { lp.pv with fired := [{ f with applied := true }] } }))) ∧
    (s.loopIs l = true → (s.loop l).pv.fired = [f] → f.applied = true →
      exec (.previewEnd l) s =
        .next (((s.reach f.endAt).updLoop l (fun lp =>
          { lp with pv := { lp.pv with fired := lp.pv.fired.filter (fun g => g != f) } })).consume l))

/-- R238 to R244, R441, R448: a phase at its over-current count starts a hiccup at the next PWM clock, in the queue of reactions
where a graver one is in progress; the off-time ends in a soft start; 1 s without trouble clears the count; a loop off through
over-temperature restarts where it may; undervoltage is reported after UV_TIME and its report ends after UV_TIME without it;
and "low sides on" ends at LS_DISCHARGE_MAX. -/
def Obligations.ProtectionTimers : Prop :=
  ∀ (s : State) (l p : Nat),
    (s.hasPhase p = true → s.loopOf p = some l → ((s.loop l).state = 1 ∨ (s.loop l).state = 2 ∨ (s.loop l).state = 3) →
      s.md.halted = false → s.lo l 0xE 1 ≤ (s.phase p).ct.ocRun → (s.loop l).pr.hiccups < s.lo l 0xE 3 →
      (s.target (loopTarget l)).cur = none → exec (.hiccupTrigger p) s = .next ((s.reach (s.now + 1)).hiccupOff l p false)) ∧
    (s.hasPhase p = true → s.loopOf p = some l → ((s.loop l).state = 1 ∨ (s.loop l).state = 2 ∨ (s.loop l).state = 3) →
      s.md.halted = false → s.lo l 0xE 1 ≤ (s.phase p).ct.ocRun → s.lo l 0xE 3 ≤ (s.loop l).pr.hiccups →
      (s.target (loopTarget l)).cur = none → exec (.hiccupTrigger p) s = .next ((s.reach (s.now + 1)).latchOff l)) ∧
    (s.hasPhase p = true → s.loopOf p = some l → ((s.loop l).state = 1 ∨ (s.loop l).state = 2 ∨ (s.loop l).state = 3) →
      s.md.halted = false → s.lo l 0xE 1 ≤ (s.phase p).ct.ocRun → (s.loop l).pr.inHiccup = false →
      s.admits (loopTarget l) (if s.lo l 0xE 3 ≤ (s.loop l).pr.hiccups then 5 else 3) = false →
      exec (.hiccupTrigger p) s =
        .next (((s.reach (s.now + 1)).loopReport srcProt l 0x0501 3 [(s.loop l).pr.hiccups, p]).queueReaction (loopTarget l) 3
          0x0501)) ∧
    (s.loopIs l = true → (s.loop l).state = 4 →
      exec (.hiccupOffTimeEnd l) s = .next ((s.reach (s.loop l).pr.offUntil).softStart l)) ∧
    (s.loopIs l = true → ((s.loop l).state = 2 ∨ (s.loop l).state = 3) →
      exec (.hiccupCountClear l) s =
        .next ((s.reach ((s.loop l).pr.cleanSince + 500000000)).updLoop l (fun lp =>
          { lp with pr := { lp.pr with hiccups := 0 } }))) ∧
    (s.loopIs l = true → (s.loop l).pr.otRestart = true → (s.loop l).pr.otState = 0 → (s.loop l).state = 0 →
      (s.rail (128 + l)).on = true → s.md.mode = .run →
      exec (.otAutoRestart l) s =
        .next ((s.updLoop l (fun lp => { lp with pr := { lp.pr with otRestart := false } })).softStart l)) ∧
    (s.loopIs l = true → (s.loop l).pr.uvCond = true → (s.loop l).pr.uvReport = false →
      ((s.loop l).state = 2 ∨ (s.loop l).state = 3) →
      exec (.uvReport l) s =
        .next ((((s.reach ((s.loop l).pr.uvSince + 8 * s.ob 0x2600 6)).updLoop l (fun lp =>
          { lp with pr := { lp.pr with uvReport := true } })).loopReport srcProt l 0x0508 3 (two (s.loop l).sn.sample)).latch l
            13)) ∧
    (s.loopIs l = true → (s.loop l).pr.uvReport = true → (s.loop l).pr.uvCond = false →
      exec (.uvReportEnd l) s =
        .next ((s.reach ((s.loop l).pr.uvSince + 8 * s.ob 0x2600 6)).updLoop l (fun lp =>
          { lp with pr := { lp.pr with uvReport := false } }))) ∧
    (s.loopIs l = true → (s.loop l).state = 7 → (s.loop l).pr.lowSides = true →
      exec (.lsDischargeTimeout l) s =
        .next ((s.reach ((s.loop l).pr.lowSince + (s.ob 0x2600 5 * 500000 - (s.loop l).pr.lowTotal))).updLoop l (fun lp =>
          { lp with pr := { lp.pr with
            lowSides := false, lowTotal := Nat.max lp.pr.lowTotal (s.ob 0x2600 5 * 500000) } })))

/-- R262 to R266, R269, R276: a load's command that changes something, accepted on its lane (`State.LaneReady`): SET_TARGET
leaves a target that waits, behind those before it, for the loop's next sample, SET_SLEW writes RATE, SET_PHASE_BUDGET writes
BUDGET and answers with the active count too, ARM_PREVIEW arms the preview that its fields spell, and SET_POWER_STATE writes
ALLOW, which ends a burst that it forbids. Each is acknowledged, with the payload echoed, and the answer is kept for a
duplicate. -/
def Obligations.LaneSetsComplete : Prop :=
  ∀ (s : State) (t k seq l v : Nat),
    (s.LaneReady t k seq l 1 v →
      exec (.setTarget t k seq v) s =
        .next (((s.polled t).updLoop l (fun lp =>
          { lp with tg := { lp.tg with waiting := lp.tg.waiting ++ [⟨v, .lane t k⟩] } })).laneDone t k 1 v seq
            (responseFrame 0 k v))) ∧
    (s.LaneReady t k seq l 2 v →
      exec (.setSlew t k seq v) s =
        .next ((((s.polled t).put (loopIdx l 2) 1 v).countSet l).laneDone t k 2 v seq (responseFrame 0 k v))) ∧
    (s.LaneReady t k seq l 3 v →
      exec (.setPhaseBudget t k seq v) s =
        .next ((((s.polled t).put (loopIdx l 0xC) 7 v).countSet l).laneDone t k 3 v seq
          (responseFrame 0 k ((s.loop l).pp.active * 256 + v)))) ∧
    (s.LaneReady t k seq l 4 v →
      exec (.armPreview t k seq v) s =
        .next (((s.polled t).updLoop l (fun lp =>
          { lp with pv := { lp.pv with armed := some ⟨field v 14 2, field v 10 4, field v 0 7⟩ } })).laneDone t k 4 v seq
            (responseFrame 0 k v))) ∧
    (s.LaneReady t k seq l 0xA v → ((s.loop l).pp.burst = 0 ∨ (v = 1 ∧ s.lo l 0xD 1 = 1)) →
      exec (.setPowerState t k seq v) s =
        .next ((((s.polled t).put (loopIdx l 0xD) 2 v).countSet l).laneDone t k 0xA v seq (responseFrame 0 k v))) ∧
    (s.LaneReady t k seq l 0xA v →
      exec (.setPowerState t k seq v) s =
        .next (((((s.polled t).put (loopIdx l 0xD) 2 v).burstForbidden l).countSet l).laneDone t k 0xA v seq
          (responseFrame 0 k v)))

/-- R262 to R268, R276: a load's command that reads, accepted on its lane: the five GET opcodes change nothing of the loop but
its record of the last command and answer with the value R266 names; ACK_ALERT clears the latch bits of its mask and answers
with what is left. -/
def Obligations.LaneReadsComplete : Prop :=
  ∀ (s : State) (t k seq l v : Nat),
    (s.LaneReady t k seq l 5 v →
      exec (.getStatus t k seq v) s =
        .next ((s.polled t).laneDone t k 5 v seq
          (responseFrame 0 k (if v = 0 then s.laneWord l else (s.loop l).ln.latch)))) ∧
    (s.LaneReady t k seq l 6 v →
      exec (.getVout t k seq v) s =
        .next ((s.polled t).laneDone t k 6 v seq
          (responseFrame 0 k (laneU (if v = 0 then ((s.loop l).tl.vout : Int) else ((s.loop l).sn.sample * 25 / 16 : Nat)))))) ∧
    (s.LaneReady t k seq l 7 v →
      exec (.getIout t k seq v) s =
        .next ((s.polled t).laneDone t k 7 v seq
          (responseFrame 0 k (laneU (roundAway (if v = 0 then (s.loop l).tl.iout else s.current l) 100))))) ∧
    (s.LaneReady t k seq l 8 v →
      exec (.getTemp t k seq v) s =
        .next ((s.polled t).laneDone t k 8 v seq
          (responseFrame 0 k (laneI (if v = 0 then (s.loop l).pr.temp.getD 0 else (s.slotDie l).getD 0))))) ∧
    (s.LaneReady t k seq l 9 v →
      exec (.getPower t k seq v) s =
        .next ((s.polled t).laneDone t k 9 v seq (responseFrame 0 k (laneU (roundAway (s.loop l).tl.pout 100))))) ∧
    (s.LaneReady t k seq l 0xB v →
      exec (.ackAlert t k seq v) s =
        .next (((s.polled t).clearAlerts l v).laneDone t k 0xB v seq
          (responseFrame 0 k (bitmap ((bitsOf (s.loop l).ln.latch 16).filter (fun b => !bit v b)))))) ∧
    (∀ rsp op, s.anchoredAt t k = some l →
      s.laneLast t k op v rsp = s.updLoop l (fun lp =>
        { lp with ln := { lp.ln with lastOpcode := op, lastPayload := v, lastStatus := field rsp 26 2 } }))

/-- R75, R261, R264, R265, R273, R561: POLL where the load has nothing to say, where its answer is missing or its CRC is
wrong, and where it repeats its last request; the end of a back-off; a held write of LANE_CFG; and a lane supply
outside the window of its strap. -/
def Obligations.LanePollsComplete : Prop :=
  ∀ (s : State) (t k seq op v : Nat),
    (s.hasTile t = true → s.laneOn t = true → (s.lane t).backoff = false → k < 4 → seq < 16 →
      exec (.poll t (some (requestFrame k 0x3F 0 seq)) false) s =
        .next (((s.polled t).laneLast t k 0x3F 0 (responseFrame 0 k 0)).updLane t (fun ln =>
          { ln with response := some (responseFrame 0 k 0), fails := 0 }))) ∧
    (s.hasTile t = true → s.laneOn t = true → (s.lane t).backoff = false → (s.lane t).fails < s.ob (0x5000 + t) 2 →
      exec (.poll t none false) s =
        .next ((s.polled t).updLane t (fun ln =>
          { ln with missing := satAdd 32 ln.missing 1, response := none, fails := (s.lane t).fails + 1 }))) ∧
    (s.hasTile t = true → s.laneOn t = true → (s.lane t).backoff = false → s.ob (0x5000 + t) 2 ≤ (s.lane t).fails →
      exec (.poll t none false) s =
        .next (((s.polled t).updLane t (fun ln =>
          { ln with missing := satAdd 32 ln.missing 1, response := none, fails := (s.lane t).fails + 1 })).laneExhausted t
            ((s.lane t).fails + 1))) ∧
    (∀ w, s.hasTile t = true → s.laneOn t = true → (s.lane t).backoff = false → (s.lane t).fails < s.ob (0x5000 + t) 2 →
      field w 36 4 = 13 → crc8 (field w 8 28) 28 ≠ w % 256 →
      exec (.poll t (some w) false) s =
        .next ((s.polled t).updLane t (fun ln =>
          { ln with
            crcErrors := satAdd 32 ln.crcErrors 1, response := some (responseFrame 1 0 0)
            fails := (s.lane t).fails + 1 }))) ∧
    (s.hasTile t = true → s.laneOn t = true → (s.lane t).backoff = false → k < 4 → op < 0x3F → v < 65536 → seq < 16 →
      (s.lane t).seqValid = true → (s.lane t).lastSeq = seq →
      exec (.poll t (some (requestFrame k op v seq)) false) s =
        .next ((((s.polled t).updLane t (fun ln => { ln with dups := satAdd 32 ln.dups 1 })).laneLast t k op v
          (s.lane t).stored).updLane t (fun ln => { ln with response := some (s.lane t).stored, fails := 0 }))) ∧
    (s.hasTile t = true → (s.lane t).backoff = true →
      exec (.laneBackoffEnd t) s =
        .next ((s.reach (s.lane t).backoffUntil).updLane t (fun ln => { ln with backoff := false, fails := 0 }))) ∧
    (∀ ch sub w x, s.hasTile t = true → (s.lane t).heldCfg = [(ch, sub, w)] →
      x = ((s.reach (s.lane t).transEnd).updLane t (fun ln => { ln with heldCfg := [] })).putX .laneCfg t (0x5000 + t) sub w →
      (ch = none → exec (.laneCfgHeldWrite t) s = .next x) ∧
      (∀ c, ch = some c → exec (.laneCfgHeldWrite t) s = .next (x.answer c (.ok [])))) ∧
    (∀ mv, s.hasTile t = true → s.md.mode ≠ .reset → (s.tile t).laneLevelFault = false →
      vlaneGood (bit s.pins.lvsel t) mv = false →
      exec (.laneLevelFault t mv) s =
        .next ((((s.updTile t (fun ti => { ti with laneLevelFault := true })).laneStops t).dictOwns t).report t srcLane 0x0703 3 t []))

/-- R278 to R281, R288, R290: a sample slot is delivered 10 ns after the start of its link cycle. One whose CRC passes hands its
error sample, ACTION and WAKE to the replica, and one that says what the tile already follows changes nothing; one that is
corrupted is counted, recorded once with severity 5, stops the replica's compensator, leaves the loop marked for the frame
boundary and hides a preview whose flag it carried. A control byte with odd parity and the cycle's number stores its SAFE_REQ,
and one that fails is counted, the third in succession being the loss of the port. -/
def Obligations.LinkSlots : Prop :=
  ∀ (s s0 s2 : State) (r t k l w b : Nat) (f : SampleSlot), s.pairUp r t = true → s0 = s.reach ((s.now + 1) / 8 * 8 + 6) →
    (s.anchoredAt t k = some l → s.partakes l r = true → sampleCrcOk w = true →
      exec (.sampleSlotReceived r t k w) s = .next (s0.deliver l r (sampleFields w))) ∧
    (f.action = 0 → f.wake = false → (s.compOf l r).e1 = f.error → s.deliver l r f = s) ∧
    (s.anchoredAt t k = some l → s.partakes l r = false → exec (.sampleSlotReceived r t k w) s = .next s0) ∧
    (s.anchoredAt t k = none → exec (.sampleSlotReceived r t k w) s = .next s0) ∧
    (s.anchoredAt t k = some l → s.partakes l r = true → sampleCrcOk w = false → bit (s.loop l).pr.lostTiles r = false →
      s2 = ((({ s0 with link := { s0.link with sampleErrors := satAdd 32 s.link.sampleErrors 1 } } : State).report r srcPort
          0x0203 5 l [t, 1]).updLoop l (fun lp =>
            { lp with pr := { lp.pr with lostTiles := setBit lp.pr.lostTiles r } })).stopReplica l r →
      exec (.sampleSlotReceived r t k w) s =
        .next (({ s2 with
          phases := s2.phases.updAll {} (s2.tilePart l r) (fun _ ph => ph.missFlags s2.now (s2.loop l).ac.actEnd) } :
            State).missPreview l r)) ∧
    (parityOk b = true → field b 1 2 = ((s.now + 7) / 8 + 3) % 4 →
      s2 = { s.reach ((s.now + 7) / 8 * 8) with
        link := { s.link with
          badControl := s.link.badControl.set 0 (8 * r + t) 0, safeReq := s.link.safeReq.set 0 (8 * r + t) (b / 8) } } →
      exec (.controlByteReceived r t b) s = .next (s2.safeRequested r t b) ∧
        (field b 4 4 = 0 → s2.safeRequested r t b = s2)) ∧
    ((parityOk b = false ∨ field b 1 2 ≠ ((s.now + 7) / 8 + 3) % 4) →
      s2 = { s.reach ((s.now + 7) / 8 * 8) with
        link := { s.link with
          controlErrors := satAdd 32 s.link.controlErrors 1
          badControl := s.link.badControl.set 0 (8 * r + t) (s.link.badControl.get 0 (8 * r + t) + 1) } } →
      (s.link.badControl.get 0 (8 * r + t) < 2 → exec (.controlByteReceived r t b) s = .next s2) ∧
      (2 ≤ s.link.badControl.get 0 (8 * r + t) → exec (.controlByteReceived r t b) s = .next (s2.portLost r t)))

/-- R82, R282, R287, R289, R292: a frame slot is used 1,028 ns after its boundary. One whose CRC passes clears the count of
corrupted ones, compares DEVICE_TIME and the hashes with the receiver's own, and hands its commit flags, sums, TMON, VIN and die
temperature on; a corrupted one is counted and loses the slots of the loops that both tiles share, the second in succession being
the loss of the port. A DEVICE_TIME that differs is recorded with severity 5, keeps its two tiles from being cleared without a
reset, and is a dangerous fault of the loops shared. A hash that differs is noted; once every needed slot of the frame has
arrived, all good, it makes one mismatch frame, and a second frame in succession is a replica mismatch. -/
def Obligations.LinkFrameSlots : Prop :=
  ∀ (s s0 s1 : State) (r t l : Nat) (bs : List Nat) (f : FrameSlot) (look : State → State), s.pairUp r t = true →
    s0 = { s.reach (s.frame * ticksPerFrame + 514) with
      link := { s.link with slotSeen := setBit s.link.slotSeen (8 * r + t) } } →
    look = (fun x => if bit s.link.slotSeen (8 * r + t) = true then x else (s.sharedLoops r t).foldl State.hashLook x) →
    (s1 = { s0 with link := { s0.link with badFrame := s.link.badFrame.set 0 (8 * r + t) 0 } } →
      frameCrcOk bs = true → f = frameFields bs → f.deviceTime = s0.frame * ticksPerFrame → f.commitMiss = false →
      (∀ m ∈ s.sharedLoops r t, f.hashes.getD (s.slotOf m t) 0 = s.link.hashes.get 0 (4 * r + s.slotOf m r)) →
      exec (.frameSlotReceived r t bs) s = .next (look ((s1.commitSeen r t f).takeValues r t f))) ∧
    (s1 = { s0 with link := { s0.link with badFrame := s.link.badFrame.set 0 (8 * r + t) 0 } } →
      frameCrcOk bs = true → f = frameFields bs → f.deviceTime ≠ s0.frame * ticksPerFrame → f.commitMiss = false →
      exec (.frameSlotReceived r t bs) s =
        .next (look ((((s1.timeWrong r t).compareHashes r t f.hashes).commitSeen r t f).takeValues r t f))) ∧
    (s1 = { s0 with link := { s0.link with badFrame := s.link.badFrame.set 0 (8 * r + t) 0 } } →
      frameCrcOk bs = true → f = frameFields bs → f.deviceTime = s0.frame * ticksPerFrame → f.commitMiss = true →
      exec (.frameSlotReceived r t bs) s =
        .next (look ((((s1.compareHashes r t f.hashes).commitSeen r t f).missSeen r t).takeValues r t f))) ∧
    (s1 = { s0 with
        link := { s0.link with
          frameErrors := satAdd 32 s.link.frameErrors 1
          badFrame := s.link.badFrame.set 0 (8 * r + t) (s.link.badFrame.get 0 (8 * r + t) + 1)
          slotBad := setBit s.link.slotBad (8 * r + t) } } →
      frameCrcOk bs = false → s.link.badFrame.get 0 (8 * r + t) = 0 →
      exec (.frameSlotReceived r t bs) s =
        .next (look (((s.sharedLoops r t).foldl (fun x m => (x.slotLost m r t 2).slotGone m t) s1).missCommit r t))) ∧
    (s1 = { s0 with
        link := { s0.link with
          frameErrors := satAdd 32 s.link.frameErrors 1
          badFrame := s.link.badFrame.set 0 (8 * r + t) (s.link.badFrame.get 0 (8 * r + t) + 1)
          slotBad := setBit s.link.slotBad (8 * r + t) } } →
      frameCrcOk bs = false → s.link.badFrame.get 0 (8 * r + t) ≠ 0 →
      exec (.frameSlotReceived r t bs) s =
        .next (look ((((s.sharedLoops r t).foldl (fun x m => (x.slotLost m r t 2).slotGone m t) s1).missCommit r t).portLost r
          t))) ∧
    (∀ m, (s.loop m).pr.differ = none → ((s.hashDiffers m r t).loop m).pr.differ = some (r, 2 ^ t)) ∧
    (∀ d, (s.loop l).pr.differ = some d → s.slotsIn l = true → s.slotsBad l = false → s.hashLook l = s.mismatch l d.1 d.2) ∧
    ((s.loop l).pr.differ = none ∨ s.slotsIn l = false ∨ s.slotsBad l = true → s.hashLook l = s) ∧
    (∀ b, (s.loop l).pr.mismatch = 0 →
      s.mismatch l r b =
        (({ s.updLoop l (fun lp => { lp with pr := { lp.pr with mismatch := 1 } }) with
          link := { s.link with hashMismatch := satAdd 32 s.link.hashMismatch 1 } } : State).report r srcPort 0x0204 2 l [b])) ∧
    (∀ b, (s.loop l).pr.mismatch ≠ 0 →
      s.mismatch l r b =
        (({ s.updLoop l (fun lp => { lp with pr := { lp.pr with mismatch := (s.loop l).pr.mismatch + 1 } }) with
          link := { s.link with hashMismatch := satAdd 32 s.link.hashMismatch 1 } } : State).report r srcPort 0x0205 5 l
            [b]).dangerous [l] r 0x0205 l false)

/-- R283, R290, R291: a port is declared lost once, with a record of severity 5 and a dangerous fault of the loops that both
tiles share; the decision fails the tile, or leaves a pair fault where the tile still answers; a management packet takes a
credit of its sender and, when it is good, a buffer of its receiver; one that is not acknowledged is resent, with the credit
that it holds, 5 µs after it was last sent and up to three times, and the path is faulty after the third; a packet that is lost
whole takes its credit with its first resend (log entry 142); and a freed buffer returns its credit. -/
def Obligations.LinkPortsAndManagement : Prop :=
  ∀ (s s1 : State) (r t : Nat) (response : Bool),
    (s.pairUp r t = true → bit s.link.pairLost (8 * r + t) = false → t ≠ 0 →
      s1 = ({ s with
        link := { s.link with
          pairLost := setBit s.link.pairLost (8 * r + t), lostAt := s.link.lostAt.set 0 (8 * r + t) s.now } } : State).report r
            srcPort 0x0206 5 t [r] →
      exec (.portLoss r t) s = .next (s1.dangerous (s1.sharedLoops r t) r 0x0206 t false)) ∧
    (s.clk.running = true → s.hasTile t = true → t ≠ 0 → (s.tile t).state ≠ 2 →
      (2 ≤ (s.losers t).length → exec (.portLossDecision t true) s = .next (s.failTile t 4)) ∧
      ((s.losers t).length = 1 → s.T = 2 → exec (.portLossDecision t true) s = .next (s.failTile t 4)) ∧
      ((s.losers t).length = 1 → s.T ≠ 2 → exec (.portLossDecision t true) s = .next s) ∧
      ((s.losers t).length = 1 → s.T ≠ 2 → exec (.portLossDecision t false) s = .next (s.failTile t 5))) ∧
    (s.clk.running = true → s.hasTile 0 = true → (s.tile 0).state ≠ 2 → 2 ≤ (s.losers 0).length →
      (s.losers 0).length + 1 < s.T → exec (.portLossDecision 0 true) s = .next (s.failTile 0 4)) ∧
    (s.pairUp r t = true → bit s.link.mgmtFault (8 * r + t) = false →
      (s.link.flying.get [] (8 * r + t)).find? (fun q => q.away && q.response == response) = none →
      s.link.creditsUsed.get 0 (8 * r + t) < creditsFor response →
      exec (.mgmtPacketReceived r t response true) s =
        .next { s with
          link := { s.link with
            creditsUsed := s.link.creditsUsed.upd 0 (8 * r + t) (· + 1)
            buffered := s.link.buffered.upd 0 (8 * r + t) (· + 1) } } ∧
      exec (.mgmtPacketReceived r t response false) s =
        .next { s with
          link := { s.link with
            creditsUsed := s.link.creditsUsed.upd 0 (8 * r + t) (· + 1)
            flying := s.link.flying.upd [] (8 * r + t) (· ++ [{ response := response, sentAt := s.now }]) } }) ∧
    (∀ q, s.pairUp r t = true → bit s.link.mgmtFault (8 * r + t) = false →
      (s.link.flying.get [] (8 * r + t)).find? (fun q => q.away && q.response == response) = some q →
      exec (.mgmtPacketReceived r t response true) s =
        .next { s with
          link := { s.link with
            flying := s.link.flying.upd [] (8 * r + t) (·.erase q)
            buffered := s.link.buffered.upd 0 (8 * r + t) (· + 1) } } ∧
      exec (.mgmtPacketReceived r t response false) s =
        .next { s with
          link := { s.link with
            flying := s.link.flying.upd [] (8 * r + t) (·.replace q { q with away := false }) } }) ∧
    (∀ q, s.pairUp r t = true → bit s.link.mgmtFault (8 * r + t) = false →
      oldestPacket (s.link.flying.get [] (8 * r + t)) = some q → s1 = s.reach (q.sentAt + 2500) →
      (q.resends < 3 →
        exec (.mgmtResendTimeout t r) s =
          .next { s1 with
            link := { s1.link with
              flying := s1.link.flying.upd [] (8 * r + t) (·.replace q { q with
                resends := q.resends + 1, sentAt := s1.now, away := true })
              mgmtRetries := satAdd 32 s1.link.mgmtRetries 1 } }) ∧
      (3 ≤ q.resends →
        exec (.mgmtResendTimeout t r) s =
          .next (({ s1 with link := { s1.link with mgmtFault := setBit s1.link.mgmtFault (8 * r + t) } } : State).report t
            srcPort 0x0207 3 t [r]))) ∧
    (s.pairUp r t = true → bit s.link.mgmtFault (8 * r + t) = false →
      oldestPacket (s.link.flying.get [] (8 * r + t)) = none → s.link.creditsUsed.get 0 (8 * r + t) < 8 →
      ∃ u, exec (.mgmtResendTimeout t r) s = .next u ∧ u.link.mgmtRetries = satAdd 32 s.link.mgmtRetries 1 ∧
        u.link.creditsUsed = s.link.creditsUsed.upd 0 (8 * r + t) (· + 1)) ∧
    (s.pairUp r t = true → s.procRuns r = true → 0 < s.link.buffered.get 0 (8 * r + t) →
      exec (.mgmtCreditReturn t r) s =
        .next { s with
          link := { s.link with
            creditsUsed := s.link.creditsUsed.upd 0 (8 * r + t) (· - 1)
            buffered := s.link.buffered.upd 0 (8 * r + t) (· - 1) } })

/-- R25, R27, R64 to R67, R87: a missing edge, a loss of lock and a frequency off by more than 10 % are each a
reference-clock fault of severity 5: holdover of the tile, its record, the dangerous fault of its loops with HOLD, and no way
out of HOLD but a reset. A frequency within 10 % only sets REF_DEVIATION of tile 0. A SLOW that stops is recorded with
severity 3. A watchdog that expires puts the tile's processor into recovery, and the third expiry within one second fails the
tile; a processor that has recovered acts on what came due and takes the rail reactions that waited in their queues. -/
def Obligations.ClockCommands : Prop :=
  ∀ (s s1 : State) (t kind count : Nat), s.tileRuns t = true →
    ((kind = 1 → s1 = { s with clk := { s.clk with
        holdover := setBit s.clk.holdover t, refLossCount := satAdd 16 s.clk.refLossCount 1
        refPresent := clrBit s.clk.refPresent t } } →
      exec (.refclkMissingEdge t) s =
        .next (((s1.report t srcClock 0x0101 5 t [1]).dangerous ((s1.report t srcClock 0x0101 5 t [1]).loopsOn t) t 0x0101 t
          true).markResetOnly)) ∧
    (kind = 2 → s1 = { s with clk := { s.clk with
        holdover := setBit s.clk.holdover t, refLossCount := satAdd 16 s.clk.refLossCount 1
        pllLocked := clrBit s.clk.pllLocked t } } →
      exec (.pllUnlock t) s =
        .next (((s1.report t srcClock 0x0101 5 t [2]).dangerous ((s1.report t srcClock 0x0101 5 t [2]).loopsOn t) t 0x0101 t
          true).markResetOnly)) ∧
    (t ≠ 0 → bit s.clk.slowOk t = true → frequencyBad count = true → s1 = { s with clk := { s.clk with
        holdover := setBit s.clk.holdover t, refLossCount := satAdd 16 s.clk.refLossCount 1 } } →
      exec (.refclkFrequencyCheck t count) s =
        .next (((s1.report t srcClock 0x0101 5 t [3]).dangerous ((s1.report t srcClock 0x0101 5 t [3]).loopsOn t) t 0x0101 t
          true).markResetOnly)) ∧
    (bit s.clk.slowOk t = true → 175782 ≤ count → count ≤ 214843 →
      exec (.refclkFrequencyCheck t count) s =
        .next (if t = 0 then
          { s with clk := { s.clk with refDeviation := clampI (deviationOf count) (-32768) 32767 } } else s)) ∧
    (bit s.clk.slowOk t = true → (count ≤ 175781 ∨ 214844 ≤ count) → frequencyBad count = true) ∧
    (bit s.clk.slowOk t = true →
      exec (.slowStopped t) s =
        .next (({ s with clk := { s.clk with slowOk := clrBit s.clk.slowOk t } } : State).report t srcClock 0x0102 3 t [])) ∧
    ((s.tile t).procHalted = false → s.md.proofRunning = false → (s.recentExpiries t).length < 3 →
      exec (.watchdogExpiry t) s =
        .next ((s.updTile t (fun ti =>
          { ti with state := 1, wdCount := satAdd 32 ti.wdCount 1, wdTimes := s.recentExpiries t })).report t srcProc 0x0201
            3 t [(s.recentExpiries t).length])) ∧
    ((s.tile t).procHalted = false → s.md.proofRunning = false → 3 ≤ (s.recentExpiries t).length →
      exec (.watchdogExpiry t) s =
        .next (((s.updTile t (fun ti =>
          { ti with state := 1, wdCount := satAdd 32 ti.wdCount 1, wdTimes := s.recentExpiries t })).report t srcProc 0x0201
            3 t [Nat.min (s.recentExpiries t).length 255]).failTile t 3)) ∧
    ((s.tile t).state = 1 →
      exec (.processorRecovered t) s =
        .next (((s.railList.filter (fun n => s.railTile n == t)).foldl State.takeWaiting
          ((s.tile t).waiting.foldl State.deferred
            (s.updTile t (fun ti => { ti with state := 0, waiting := [] })))).progress)))

/-- R13, R68, R69, R71, R72, R121, R140, R295, R486: a frame boundary falls at the next device time divisible by 2,048 ticks and
a loop sample at the next one divisible by 8, the boundary first where both fall together; a sample takes the waiting targets
and then does the work of every enabled loop; a part whose device time does not run has neither. An edge at SYNC_IN sets the
origin and the interval where the input is selected, and TIME is latched with its instant of reception where CLOCK_CFG selects
the channel. -/
def Obligations.PeriodicCommands : Prop :=
  ∀ (s s1 : State) (cs : List Conv) (ch : CanChan) (f : CanFormat) (v : Nat),
    (s.clk.running = true → ∃ t, exec .frameBoundary s = .next t ∧ t = s.frameWork.netFrame ∧
      s.nextFrame % ticksPerFrame = 0 ∧ s.now ≤ s.nextFrame ∧ s.nextFrame ≤ s.now + ticksPerFrame ∧ s.nextFrame ≤ t.now) ∧
    (s.clk.running = true → s1 = { s.boundaryFirst with clk := { s.boundaryFirst.clk with
        time := s.nextSample, sampleDone := s.nextSample / ticksPerSample } } →
      ∃ x y t, exec (.loopSample cs) s = .next t ∧ x = s1.loopList.foldl State.acceptWaiting s1 ∧
        y = (x.loopList.filter x.enabled).foldl
          (fun y l => (y.sampleLoop cs (s.nextSample / ticksPerSample) l).returnLoop l) x ∧
        t = y.tileList.foldl State.captureSample y ∧
        s.nextSample % ticksPerSample = 0 ∧ s.now ≤ s.nextSample ∧ s.nextSample ≤ s.now + ticksPerSample ∧
        s.nextSample ≤ t.now) ∧
    (s.clk.running = true → s.nextSample % ticksPerFrame = 0 → s.clk.frameDone < s.nextSample / ticksPerFrame →
      exec .frameBoundary s = .next s.boundaryFirst) ∧
    (s.clk.running = false → exec .frameBoundary s = .next s ∧ exec (.loopSample cs) s = .next s) ∧
    (s.md.mode ≠ .reset → (s.ob 0x2100 1 = 2 ∨ s.ob 0x2100 1 = 3) →
      s.clk.syncLastEdge = none →
      exec .syncInEdge s =
        .next { s with clk := { s.clk with syncLastEdge := some ((s.now : Int) - 2 - s.obI 16 0x2102 2).toNat } }) ∧
    (∀ p e d, s.md.mode ≠ .reset → (s.ob 0x2100 1 = 2 ∨ s.ob 0x2100 1 = 3) → s.clk.syncLastEdge = some p →
      s.clk.syncGrid = none → ((s.now : Int) - 2 - s.obI 16 0x2102 2).toNat = e → e = p + d → 0 < d →
      exec .syncInEdge s =
        .next { s with clk := { s.clk with
          syncLastEdge := some e, syncInterval := fitN 16 (d : Nat), syncOrigin := fitN 16 (e % d : Nat)
          syncGrid := some (e, d), syncState := 1, syncOff := 0 } }) ∧
    (s.nmtHeard ch = true → (ch = .b → f ≠ .fd) → bit (s.ob 0x2100 2) (match ch with | .a => 0 | .b => 1) = true →
      exec (.timeMessage ch f v) s = .next { s with clk := { s.clk with timeRx := v, timeRxAt := s.now } })

/-- R300, R302 to R308, R310, R317: an entry that waits with a kind of trigger takes a trigger from the clock after the last
sampling clock of the preceding entry on and within WAIT_LIMIT: it fixes the first sampling clock, the entry's delay after its
own clock; TELEMETRY_TRIGGER brings the tables to the present with every pulse that has reached the taps; the timer fires at its
next multiple; an entry whose WAIT_LIMIT has passed without a trigger proceeds as LATE; a result, the shifted sum of the
corrected samples, is written to its entry and to its channel 9 clocks after the entry's last sampling clock; and a channel with
8 whole frames without a result is reported once. -/
def Obligations.TelemetryCommands : Prop :=
  ∀ (s s0 s1 : State) (t v l c k at_ : Nat) (codes : List Nat) (d : DoneEntry) (ds : List DoneEntry) (here : Nat → Bool),
    (((s.tile t).seq v).first.isNone = true → s.tablesRun t = true → field (s.entryWord t v) 29 2 = k → here v = true →
      10 * (((s.tile t).seq v).last + 1) ≤ at_ → clockAt at_ ≤ ((s.tile t).seq v).last + 1 + (s.entryNow t v).limit →
      s.triggerOne t k at_ here v = s.updTile t (fun ti => ti.updSeq v (fun q =>
        { q with first := some (clockAt at_ + entryDelay (s.entryWord t v)) }))) ∧
    (at_ < 10 * (((s.tile t).seq v).last + 1) ∨ ((s.tile t).seq v).last + 1 + (s.entryNow t v).limit < clockAt at_ →
      s.triggerOne t k at_ here v = s) ∧
    (s.hasTile t = true → v < 2 → exec (.telemetryTrigger t v) s = .next ((s.flushTile t).tablesAt t s.now)) ∧
    (s.now ≤ s.timerNext t v ∧ s.timerNext t v < s.now + 10 * Nat.max 1 (s.entryNow t v).period ∧
      s.timerNext t v % (10 * Nat.max 1 (s.entryNow t v).period) = 0) ∧
    (s.hasTile t = true → s.tablesRun t = true → s0 = s.tablesNow t → at_ = Nat.min (s0.timerNext t 0) (s0.timerNext t 1) →
      s1 = (s0.reach at_).tablesNow t →
      exec (.telemetryTimer t) s = .next (s1.triggerAt t 2 at_ (fun v => s1.timerNext t v == at_))) ∧
    (s.hasTile t = true → v < 2 → s0 = s.tablesNow t → s0.tablesRun t = true → ((s0.tile t).seq v).first.isNone = true →
      field (s0.entryWord t v) 29 2 ≠ 0 → c = ((s0.tile t).seq v).last + 1 + (s0.entryNow t v).limit →
      s1 = (s0.reach (10 * c)).tablesNow t →
      (((s1.tile t).seq v).first.isNone = true ∧ ((s1.tile t).seq v).last = ((s0.tile t).seq v).last →
        exec (.telemetryWaitLimit t v) s = .next (s1.updTile t (fun ti =>
          { ti.updSeq v (fun q => { q with first := some (c + entryDelay (s0.entryWord t v)), late := true }) with
            late := satAdd 32 ti.late 1 }))) ∧
      (((s1.tile t).seq v).first.isSome = true → exec (.telemetryWaitLimit t v) s = .next s1)) ∧
    (s.hasTile t = true → v < 2 → s0 = s.tablesNow t → s0.resultTime t v = some at_ → s1 = (s0.reach at_).tablesNow t →
      ((s1.tile t).seq v).done = d :: ds → codes.length = 2 ^ field d.word 8 4 →
      exec (.telemetryResult t v codes) s =
        .next ((s1.updTile t (fun ti => ti.write v d ((codes.map (s1.corrected t (4 + v))).sum))).useResult t v d.entry
          (field d.word 0 7))) ∧
    (((s.tile t).seq v).done = d :: ds → s.resultTime t v = some (10 * (d.last + 9))) ∧
    (∀ (ti : Tile) (sum r : Nat), r = entryResultOf (field d.word 8 4) (field d.word 12 4) sum →
      (ti.write v d sum).latest.get none (field d.word 0 7) = some (voltsOf (field d.word 12 4) r) ∧
      (ti.write v d sum).raw.get (0, 0, false, 0) (64 * v + d.entry) =
        (r, ((ti.raw.get (0, 0, false, 0) (64 * v + d.entry)).2.1 + 1) % 256, d.late, voltsOf (field d.word 12 4) r)) ∧
    (s.loopIs l = true → (s.loop l).tl.stale.get 0 c = 9 →
      exec (.telemetryStale l c) s =
        .next ((s.updLoop l (fun lp => { lp with tl := { lp.tl with stale := lp.tl.stale.set 0 c 10 } })).loopReport srcReg l
          0x0307 3 [c % 64]))

/-- R303, R311, R312, R315, R316, R321: check n of each converter of a running device comes at TADC clock 512·n, while the
converter is not powered down; what the four positions of the cycle check, with the outcome of one check: a single failure
counts and is recorded with severity 2, and the second one in succession is a converter
fault of severity 5; the completion of a calibration 2.6 ms after its start; and a plausibility failure that has lasted
PLAUS_TIME. -/
def Obligations.CheckCommands : Prop :=
  ∀ (s s0 s1 : State) (t v n m n1 m1 c0 c1 l0 l1 code loop i kind l : Nat) (rs : List CalResult),
    (s.hasTile t = true → s.md.mode ≠ .reset → s.cal.state ≠ 1 → s.clk.running = true → s0 = s.tablesNow t →
      s0.checkNext t 0 = some (n, m) →
      (s0.checkNext t 1 = some (n1, m) → exec (.checkConversion t c0 c1 l0 l1) s =
        .next (((s0.reach (10 * m)).checkTake t 0 n c0 l0).checkTake t 1 n1 c1 l1)) ∧
      (s0.checkNext t 1 = none ∨ (s0.checkNext t 1 = some (n1, m1) ∧ m < m1) → exec (.checkConversion t c0 c1 l0 l1) s =
        .next ((s0.reach (10 * m)).checkTake t 0 n c0 l0)) ∧
      (s0.checkNext t 1 = some (n1, m1) → m1 < m → exec (.checkConversion t c0 c1 l0 l1) s =
        .next ((s0.reach (10 * m1)).checkTake t 1 n1 c1 l1))) ∧
    ((s.tablesRun t && powersDown (s.entryWord t v)) = false → n = Nat.max ((s.tile t).seq v).check ((s.now + 5119) / 5120) →
      s.checkNext t v = some (n, 512 * n)) ∧
    (s1 = s.updTile t (fun ti => ti.updSeq v (fun q => { q with check := n + 1 })) →
      (n % 4 = 0 → s.checkTake t v n code loop = s1.checkOne t v v 0 (refOff (s.corrected t (4 + v) code))) ∧
      (n % 4 = 1 → s.checkTake t v n code loop =
        s1.checkSense t v (2 * v) (s.corrected t (4 + v) code) (s.corrected t (2 * v) loop)) ∧
      (n % 4 = 2 → ((s.tile t).seq (1 - v)).die = some (n, c0) → v < 2 →
        ((s.checkTake t v n code loop).tile t).dieTemp =
          if v = 0 then dieOf (s.corrected t 4 code) c0 else dieOf c0 (s.corrected t 5 code)) ∧
      (n % 4 = 3 → s.checkTake t v n code loop =
        s1.checkSense t v (2 * v + 1) (s.corrected t (4 + v) code) (s.corrected t (2 * v + 1) loop))) ∧
    (bit (s.tile t).refBad i = false → bit (s.tile t).refFault i = false →
      s.checkOne t n i 0 true =
        (s.updTile t (fun ti =>
          { ti with
            refBad := putBit ti.refBad i true, refFault := putBit ti.refFault i false
            refFails := satAdd 32 ti.refFails 1 })).report t srcTelem 0x0802 2 t [n, 0]) ∧
    (bit (s.tile t).senseBad i = true → bit (s.tile t).senseFault i = false →
      s1 = (s.updTile t (fun ti =>
        { ti with
          senseBad := putBit ti.senseBad i true, senseFault := putBit ti.senseFault i true
          senseFails := satAdd 32 ti.senseFails 1 })).report t srcTelem 0x0803 5 t [n, 1] →
      s.checkOne t n i 1 true = s1.dangerous (s1.loopsOn t) t 0x0803 t false) ∧
    ((kind = 0 ∨ kind = 1) → s.checkOne t n i kind false =
      s.updTile t (fun ti =>
        if kind = 0 then
          { ti with
            refBad := putBit ti.refBad i false, refFault := putBit ti.refFault i false
            refFails := satAdd 32 ti.refFails 0 }
        else
          { ti with
            senseBad := putBit ti.senseBad i false, senseFault := putBit ti.senseFault i false
            senseFails := satAdd 32 ti.senseFails 0 })) ∧
    (s.cal.state = 1 → ∃ x, exec (.calibrationComplete rs) s = .next x ∧
      x = (s.reach (s.cal.startedAt + 1300000)).calFinish rs ∧ x.cal.runs = wrapAdd 32 s.cal.runs 1 ∧
      ((∀ r ∈ rs, calPasses r = true) → x.cal.state = 2 ∧ x.cal.valid = true ∧ x.cal.failed = 0)) ∧
    (s.loopIs l = true → s.plausible l = true → (s.loop l).pr.plaus = 2 →
      s1 = (s.reach ((s.loop l).pr.plausSince + 500 * s.lo l 0x13 0xA)).updLoop l (fun lp =>
        { lp with pr := { lp.pr with plaus := 3 } }) →
      exec (.plausibilityTimeout l) s =
        .next ((s1.loopReport srcReg l 0x0805 5 [3]).dangerous [l] (s.anchor l) 0x0805 l false))

/-- R325, R327 to R333, R571: a comparator that may change its output activates with all that depends on it, or only notes
that its input is beyond; it is released, or only notes that; and at the end of its settling time its output follows its input
again. A read of a peak answers with it and clears it. -/
def Obligations.ComparatorAndPeakCommands : Prop :=
  ∀ (s s1 : State) (t c l : Nat) (ch : Chan) (r : Row),
    (s.hasTile t = true → c < 56 → s.md.mode ≠ .reset →
      (s.mayActivate t c = true → exec (.comparatorActivation t c) s = .next ((s.activate t c).compActs t c)) ∧
      (s.mayActivate t c = false →
        exec (.comparatorActivation t c) s = .next (s.updComp t c (fun k => { k with beyond := true }))) ∧
      ((s.comp t c).output = true → (s.comp t c).masked = false → (s.comp t c).settling = false →
        exec (.comparatorRelease t c) s = .next (s.release t c)) ∧
      (((s.comp t c).output = false ∨ (s.comp t c).masked = true ∨ (s.comp t c).settling = true) →
        exec (.comparatorRelease t c) s = .next (s.updComp t c (fun k => { k with beyond := false }))) ∧
      ((s.comp t c).settling = true →
        s1 = (s.reach (s.comp t c).settleUntil).updComp t c (fun k => { k with settling := false }) →
        exec (.comparatorSettled t c true) s = .next (s1.compOn t c) ∧
          exec (.comparatorSettled t c false) s = .next (s1.compOff t c))) ∧
    (s.hasLoop l = true → s.Reads s1 ch (loopIdx l 0x14) 1 0 .loopPeaks l r →
      exec (.peakRead ch l 1) s =
        .next ((s1.updLoop l (fun lp => { lp with tl := { lp.tl with vMax := 0 } })).answer ch
          (.ok (bytesLE 2 (s1.loop l).tl.vMax)))) ∧
    (s.hasLoop l = true → s.Reads s1 ch (loopIdx l 0x14) 2 0 .loopPeaks l r →
      exec (.peakRead ch l 2) s =
        .next ((s1.updLoop l (fun lp => { lp with tl := { lp.tl with vMin := 0xFFFF } })).answer ch
          (.ok (bytesLE 2 (s1.loop l).tl.vMin)))) ∧
    (s.hasLoop l = true → s.Reads s1 ch (loopIdx l 0x14) 3 0 .loopPeaks l r →
      exec (.peakRead ch l 3) s =
        .next ((s1.updLoop l (fun lp => { lp with tl := { lp.tl with iMax := -0x80000000 } })).answer ch
          (.ok (bytesLE 4 (ofInt 32 (s1.loop l).tl.iMax))))) ∧
    (s.hasLoop l = true → s.Reads s1 ch (loopIdx l 0x14) 4 0 .loopPeaks l r →
      exec (.peakRead ch l 4) s =
        .next ((s1.updLoop l (fun lp => { lp with tl := { lp.tl with pMax := -0x80000000 } })).answer ch
          (.ok (bytesLE 4 (ofInt 32 (s1.loop l).tl.pMax))))) ∧
    (s.hasLoop l = true → s.Reads s1 ch (loopIdx l 0x14) 5 0 .loopPeaks l r →
      exec (.peakRead ch l 5) s =
        .next ((s1.updLoop l (fun lp => { lp with tl := { lp.tl with tMax := -0x8000 } })).answer ch
          (.ok (bytesLE 2 (ofInt 16 (s1.loop l).tl.tMax)))))

/-- R350 to R353, R355, R356, R366: TRELLIS, released by every tile and every other participant and high for 2.0 µs, is an advance
on which each tile steps by one from its own state in its own direction, and no advance where every tile is at TOP_STATE; a
requested reversal lets only a high pass that it came too late for, and ends 200 µs after the start of its hold; a reversal
turns the sequence downward; a line that is still low STATE_MARGIN after a tile's work was done, or that never rises for a
requested reversal, is recorded, and with TIMEOUT_ACTION 1 or in HOLD ends in a local shutdown; a tile that reports the part's
own state changes nothing, another report is a fault and a stop; and the pulse of a system reset, its wait and the clear of
its count end at their instants. -/
def Obligations.SequenceCommands : Prop :=
  ∀ (s s0 s1 : State) (t st dir e : Nat) (others : Nat),
    (s.seqActive = true → s.seq.local_ = false → s.released = true → s.edgeAt = some e → s0 = s.reach (e + 1000) →
      (s.moves = true → s.seq.reversing = false →
        exec (.trellisAdvance others) s = .next (s0.marked others).seqStep.noteLine) ∧
      (s.moves = false →
        exec (.trellisAdvance others) s = .next { s with seq := { s.seq with others := others } }) ∧
      (s.moves = true → s.seq.reversing = true → s.atTop = false →
        (e + 750 < s.seq.revAt → exec (.trellisAdvance others) s = .next (s0.marked others).seqStep.noteLine) ∧
        (s.seq.revAt ≤ e + 750 → exec (.trellisAdvance others) s = .next s))) ∧
    (s.released = false ∨ s.edgeAt = none → exec (.trellisAdvance others) s = .next s) ∧
    (t ∈ s.tileList →
      (∀ k, s.tilePos t = (k, 1) → k < s.ob 0x4300 1 → s.stepTiles.tilePos t = (k + 1, 1)) ∧
      (∀ k, s.tilePos t = (k, 1) → s.ob 0x4300 1 ≤ k → s.stepTiles.tilePos t = (k, 1)) ∧
      (∀ k, s.tilePos t = (k + 1, 3) → s.stepTiles.tilePos t = (k, 3)) ∧
      (s.tilePos t = (0, 3) → s.stepTiles.tilePos t = (0, 3))) ∧
    (s.seqActive = true → s.upward = true → s.seq.local_ = false →
      (s.seq.reversing = false →
        s1 = ({ s.stepped with
          md := { s.stepped.md with
            downCause := worse s.md.downCause (if s.ob 0x4300 4 = 1 then .stop else .extReversal)
            substate := if s.md.mode = .hold then 6 else 4 }
          seq := { s.stepped.seq with others := others } } : State).turnDown →
        (s1.allZero = false → exec (.trellisReversal others) s = .next s1.noteLine) ∧
        (s1.allZero = true → exec (.trellisReversal others) s = .next s1.atStateZero)) ∧
      (s.seq.reversing = true → s.holdAt = some e → s0 = (s.reach (e + 100000)).stepped →
        s1 = ({ s0 with
          md := { s0.md with downCause := s.md.downCause, substate := if s.md.mode = .hold then 6 else 4 }
          seq := { s0.seq with others := others } } : State).turnDown →
        (s1.allZero = false → exec (.trellisReversal others) s = .next s1.noteLine) ∧
        (s1.allZero = true → exec (.trellisReversal others) s = .next s1.atStateZero)) ∧
      (s.seq.reversing = true → s.holdAt = none → exec (.trellisReversal others) s = .next s)) ∧
    (s.tileRuns t = true → s.seqActive = true → s.seq.local_ = false → s.tileDir t ≠ 0 →
      (s.seq.reversing = false ∧ s.seq.doneAt.get none t = some e ∨
        s.seq.reversing = true ∧ s.atTop = false ∧ s.seq.freeAt = some e) →
      s0 = ({ s with seq := { s.seq with others := others } } : State).reach (e + 500000 * s.ob 0x4300 2) → s0.lineHigh = false →
      s1 = (s0.report t srcSeq 0x0908 4 0xFFFF [s.tileSt t, s.tileDir t]).failed 0xFF (s.tileSt t) 9 →
      ∃ x : State, x = { s1 with seq := { s1.seq with
          timeouts := satAdd 32 s1.seq.timeouts 1, stuck := true
          doneAt := s1.seq.doneAt.upd none t (fun o => o.map (fun _ => s1.now))
          freeAt := if s.seq.reversing then s1.seq.freeAt.map (fun _ => s1.now) else s1.seq.freeAt } } ∧
        (s.md.mode ≠ .hold → s.ob 0x4300 3 ≠ 1 → exec (.trellisTimeout t others) s = .next x) ∧
        (s.md.mode = .hold ∨ s.ob 0x4300 3 = 1 → exec (.trellisTimeout t others) s = .next x.goLocal)) ∧
    (s.tileRuns t = true → s.seqActive = true → st = s.seq.state → dir = s.seq.dir →
      exec (.stateReport t st dir) s =
        .next { s with seq := { s.seq with tileState := s.seq.tileState.set none t none } }) ∧
    (s.tileRuns t = true → s.seqActive = true → (st ≠ s.seq.state ∨ dir ≠ s.seq.dir) →
      s1 = { s with seq := { s.seq with tileState := s.seq.tileState.set none t (some (st, dir)) } } →
      exec (.stateReport t st dir) s =
        .next ((((s1.report 0 srcSeq 0x0909 4 0xFFFF
          [bitmap (s1.tileList.filter (fun u => (s1.seq.tileState.get none u).isSome))]).failed 0xFF s.seq.state
            10).requestDown .stop).downWithOthers)) ∧
    (s.seq.pulse = true → s.seq.sysreset = 2 → s1 = s.reach (s.seq.sysresetAt + 500000 * s.ob 0x4300 5) →
      exec .resetPulseEnd s =
        .next { s1 with seq := { s1.seq with pulse := false, sysreset := 3, sysresetAt := s1.now } }) ∧
    (s.seq.sysreset = 3 → s.md.mode = .run →
      exec .sysresetRestart s = .next (s.reach (s.seq.sysresetAt + 500000 * s.ob 0x2000 0x0B)).seqStart) ∧
    (s.isUp = true → s.edgeAt = some e → s1 = s.reach (e + 500000000) →
      exec .sysresetCountClear s = .next { s1 with seq := { s1.seq with sysresets := 0 } })

/-- R348, R357 to R360, R362: a rail whose turn has come is turned on once every parent is declared good, and is kept off where
a parent has failed; the declaration of a parent becomes known on a tile, with its instant; a rail that has been good for SETTLE
is declared good; a level of PG is taken once it has been held for PG_FILTER; a drop is recorded and counted, FAULT_DROPS of
them within DROP_WINDOW being a fault; and BAD_TIME and the deadline of a rail that is not good in time are faults. -/
def Obligations.RailsUp : Prop :=
  ∀ (s s1 s2 : State) (n t d : Nat),
    (s.RailLive n → s.mayTurnOn n = true → s1 = s.reach (s.rail n).onEnd → s1.parentOrder n = none →
      ((s1.parents n).all (s1.parentGood n) = true →
        (s1.parents n).any (fun p => s1.parentFailed p || s1.pathFault n p) = false →
        exec (.railTurnOn n) s = .next ((s1.railOn n).updRail n (fun r => { r with retryOf := none }))) ∧
      ((s1.parents n).any (fun p => s1.parentFailed p || s1.pathFault n p) = true →
        exec (.railTurnOn n) s = .next ((s1.keptOff n 2).keepDependants n).progress)) ∧
    ((s.rail n).declared = true → bit s.link.mgmtFault (8 * t + s.railTile n) = false →
      ∃ x, exec (.parentGoodNotice t n) s = .next x ∧
        ∀ m, m ∈ s.railList → s.railTile m = t → (s.parents m).contains n = true →
          ((n, (s.rail n).goodAt) ∈ (x.rail m).knownGood) ∧
          (∀ g, (n, g) ∈ (x.rail m).knownGood → g = (s.rail n).goodAt)) ∧
    (s.RailLive n → (s.rail n).on = true → (s.rail n).settling = true → s1 = s.reach (s.rail n).settleEnd →
      (s.rail n).retryStep ≠ 4 → (s.rail n).status ≠ 6 →
      ∃ u : State, u = s1.updRail n (fun r =>
          { r with settling := false, settled := true, filtering := false, badEnd := none, okSince := s1.now }) ∧
      ((s.rail n).declared = false → exec (.railDeclaredGood n) s =
        .next (((u.updRail n (fun r =>
          { r with settled := false, declared := true, goodAt := s1.now, status := 4 })).retryNext n).retriesEnd.progress)) ∧
      ((s.rail n).declared = true → exec (.railDeclaredGood n) s =
        .next (u.updRail n (fun r => { r with settled := false, status := 4 })).progress)) ∧
    (∀ high held, n < 128 → s.hasRail n = true →
      s1 = { s with pins := { s.pins with pg := s.pins.pg.set false n high } } →
      (held < 500 * s.rr n 0 0xA → exec (.pgChange n high held) s = .next s) ∧
      (500 * s.rr n 0 0xA ≤ held →
        ((s.rail n).on = false → exec (.pgChange n high held) s = .next s1) ∧
        ((s.rail n).on = true → exec (.pgChange n high held) s = .next (s1.railLook n)))) ∧
    (s.RailLive n → s.isDrop n = true → s2 = s.dropSeen n → s2.RailLive n →
      ((s2.rail n).declared = true → s2.rr n 2 4 ≤ (s2.rail n).dropEnds.length →
        exec (.railDrop n) s = .next (s2.railFault n 5 false)) ∧
      ((s2.rail n).dropEnds.length < s2.rr n 2 4 → exec (.railDrop n) s = .next s2)) ∧
    (s.RailLive n → (s.rail n).on = true → (s.rail n).declared = true → (s.rail n).good = false →
      (s.rail n).badEnd = some d →
      exec (.railBadTime n) s =
        .next (((s.reach d).updRail n (fun r => { r with badEnd := none })).railFault n 4 false)) ∧
    (s.RailLive n → (s.rail n).on = true → (s.rail n).declared = false → (s.rail n).noDeadline = false →
      (s.rail n).retryStep ≠ 4 → s1 = s.reach (s.rail n).deadlineEnd →
      exec (.railDeadline n) s = .next ((s1.loopDown n).failRail n 1 0x0901 [s.rr n 0 2]).retriesEnd.progress)

/-- R25, R362 to R364, R367: a rail whose time to go off has come is turned off; a rail that is off and whose discharge
condition holds counts as discharged; one that is not discharged in time is recorded and taken as discharged; the retries of a
rail that has been good for one second are cleared; and what comes due on a tile whose processor is recovering waits, in
order, the keeping off of a dependant among it, while the settle count is hardware's and ends in time. -/
def Obligations.RailsDown : Prop :=
  ∀ (s : State) (n d st : Nat) (i : Instr),
    (s.RailLive n → s.offDue n = some (d, st) →
      (s.offNextClock n = false → exec (.railTurnOff n) s = .next (((s.reach d).railOff n st).dischargeAtOnce n)) ∧
      (s.offNextClock n = true →
        exec (.railTurnOff n) s = .next ((((s.reach d).railOff n st).dischargeAtOnce n).reach (d + 1)))) ∧
    (s.RailLive n → (s.rail n).on = false → (s.rail n).discharged = false → s.dischargeCond n = true →
      exec (.railDischarged n) s =
        .next ((s.updRail n (fun r => { r with dischargedAt := s.now })).dischargeDone n)) ∧
    (s.RailLive n → (s.rail n).on = false → (s.rail n).discharged = false →
      exec (.dischargeTimeout n) s =
        .next ((((s.reach (s.rail n).dischargeEnd).railReport n 0x0907 2 []).updRail n (fun r =>
          { r with lastCause := 8 })).dischargeDone n)) ∧
    ((s.rail n).declared = true → (s.rail n).good = true →
      exec (.retriesUsedClear n) s =
        .next ((s.reach ((s.rail n).okSince + 500000000)).updRail n (fun r => { r with retries := 0 }))) ∧
    (s.hasRail n = true → s.sequenced n = true → s.seqActive = true → (s.tile (s.railTile n)).state = 1 →
      (i = .railTurnOn n ∨ i = .railBadTime n ∨ i = .railDeadline n ∨ i = .railTurnOff n ∨ i = .railDischarged n ∨
        i = .dischargeTimeout n →
        exec i s = .next (s.updTile (s.railTile n) (fun ti => { ti with waiting := ti.waiting ++ [.outcome i] }))) ∧
      exec (.railDeclaredGood n) s = .next ((s.settleDone n).updTile (s.railTile n) (fun ti =>
        { ti with waiting := ti.waiting ++ [.outcome (.railDeclaredGood n)] })) ∧
      s.keepOff n 2 = s.updTile (s.railTile n) (fun ti => { ti with waiting := ti.waiting ++ [.keepOff n 2] })) ∧
    (n < 128 → (s.rail n).on = true →
      s.railOff n st = s.updRail n (fun r =>
        { r with
          on := false, offAt := s.now, declared := false, settling := false, settled := false, good := false
          discharged := s.rr n 0 5 % 4 == 0
          dischargedAt := if s.rr n 0 5 % 4 = 0 then s.now else r.dischargedAt
          dischargeEnd := s.railEnd n s.now (s.rr n 1 6)
          status := st, dropEnds := [], dropDue := 0, badEnd := none, filtering := false }))

/-- R381 to R383, R389, R397, R399, R400, R403, R404, R504: a queued reaction starts where none is in progress; a report of
the catalogue enters its source's slot with the catalogue's severity; the writer writes the earliest pending entry; the host
tile forwards the oldest unread record of its ring; the end of the EMCY inhibit time sends the oldest waiting EMCY or ends the
inhibit time; and a read of the record window answers with the records that follow the cursor. A taking of a lane by a trip
cause has severity 3, and a refused trigger may be reported with severity 0 or 1 and no other. -/
def Obligations.EventCommands : Prop :=
  ∀ (s s1 : State) (n t src code inst sev r : Nat) (data : List Nat) (x : Rec) (rest : List Rec) (e : Nat × Entry) (ch : Chan)
    (row : Row) (sl : Slot),
    (s.hasRail n = true → (s.target n).cur = none → (s.target n).queue ≠ [] →
      exec (.queuedReactionStart n) s = .next (s.takeQueued n (s.target n).queue)) ∧
    (s.hasTile t = true → src < 132 → (code ≠ 3 ∧ sevOf code data = some sev ∨ code = 3 ∧ sev ≤ 1) →
      exec (.eventReport t src code sev inst data) s = .next (s.report t src code sev inst data)) ∧
    (code = 3 → 1 < sev → exec (.eventReport t src code sev inst data) s = .next s) ∧
    (sevOf 0x0505 (two 0x0506 ++ data) = some 3 ∧ sevOf 0x0505 (two 0x0507 ++ data) = some 5) ∧
    (s.hasTile t = true → earliest (s.pendingOf t) = some e →
      sl = (s.ev.slots.get {} (256 * t + e.1)).take e.2 →
      s1 = { s with ev := { s.ev with slots := s.ev.slots.set {} (256 * t + e.1) (if sl.entries.isEmpty then {} else sl) } } →
      (sl.entries ≠ [] ∨ sl.lost = 0 → exec (.recordWrite t) s = .next (s1.writeAtTime t e.1 e.2)) ∧
      (sl.entries = [] → 0 < sl.lost →
        exec (.recordWrite t) s = .next ((s1.writeAtTime t e.1 e.2).writeAtTime t e.1 (sl.gapEntry e.2 e.1)))) ∧
    (s.hasTile t = true → s.forwardRing t = some r → (s.ring r).unread = x :: rest →
      (s.procRuns t = true → s.procRuns 0 = true → exec (.recordForward t) s = .next ((s.ringAdvance r 1).forwarded x)) ∧
      (s.procRuns t = false ∨ s.procRuns 0 = false → exec (.recordForward t) s = .next s)) ∧
    (s.net.emcyA = [] → exec (.emcyInhibitEnd .a) s = .next { s with net := { s.net with inhibitA := false } }) ∧
    (s.net.emcyB = [] → exec (.emcyInhibitEnd .b) s = .next { s with net := { s.net with inhibitB := false } }) ∧
    (∀ c g m q, s.net.emcyA = (c, g, m) :: q → s.emcyOn .a = true →
      exec (.emcyInhibitEnd .a) s = .next { s with net := { s.net with emcyA := q, sent := .emcy .a c g m :: s.net.sent } }) ∧
    (∀ c g m q, s.net.emcyB = (c, g, m) :: q → s.emcyOn .b = true →
      exec (.emcyInhibitEnd .b) s = .next { s with net := { s.net with emcyB := q, sent := .emcy .b c g m :: s.net.sent } }) ∧
    (s.Reads s1 ch 0x4482 1 1024 .recWindow 0 row → ch ≠ .spi →
      exec (.recorderRead ch .whole) s = .next ((s1.readWindow).1.answer ch (.ok (s1.readWindow).2))) ∧
    s.readWindow.2 = (s.afterCursor.take (s.ob 0x4481 3)).flatMap (fun e => e.2.bytes)

/-- R410, R413, R415, R421, R423, R424, R427, R434: the controller of a tile takes the next operation of its queue; a page write
begins with the older copy of its pair and is whole 3.0 ms after its start; an increment of a tally programs a bit in 0.2 ms, or
writes its base pair and erases its field page in 6.0 ms; hours are tallied; a store writes the store area into a bank; a save
takes its snapshot, writes its pages in order, 3.0 ms each, and is complete after the last of 105; and the scrub reads every
pair of every tile that answers and whose 24 hours are over. -/
def Obligations.CellarCommands : Prop :=
  ∀ (s s1 : State) (t i n obj : Nat) (o : CellOp) (acks : List Chan) (rest : List CellOp) (d : Option (List Nat)) (trims : List Nat),
    n = s.cel.saveSet → trims = s.trimBytes t →
    (s.hasTile t = true → (s.cellar t).busy = none → s.cel.storeState = 0 → (s.tile t).state ≠ 2 →
      (s.cellar t).queue = o :: rest →
      exec (.cellOperationStart t) s =
        .next (s.updCellar t (fun c => ({ c with queue := rest } : Cellar).take t n trims o s.now))) ∧
    (∀ c : Cellar, c.take t n trims (.page i d obj acks) s.now =
      { c with
        busy := some (.page i d obj acks), opAt := s.now
        pairs := c.pairs.upd {} i (fun p => p.begin (pairPlace t i) i d) }) ∧
    (s.hasTile t = true → s.cel.storeState = 0 → (s.cellar t).busy = some (.page i d obj acks) →
      exec (.pageWriteComplete t) s =
        .next ((s.reach ((s.cellar t).opAt + 1500000)).updCellar t (fun c =>
          { c with
            busy := none, pairs := c.pairs.upd {} i (fun p => p.finish i), kept := c.kept ++ acks })).answerKept) ∧
    (s.hasTile t = true → s.cel.storeState = 0 → (s.tile t).state ≠ 2 → (s.cellar t).busy = none →
      (s.cellar t).queue = .tally i :: rest →
      (((s.cellar t).field i).programmed < 128 →
        exec (.tallyIncrement t i) s =
          .next (s.updCellar t (fun c => { c with queue := rest, busy := some (.tally i), opAt := s.now }))) ∧
      (128 ≤ ((s.cellar t).field i).programmed →
        exec (.tallyIncrement t i) s =
          .next (s.updCellar t (fun c =>
            { c with
              queue := rest, busy := some (.foldBase i), opAt := s.now
              pairs := c.pairs.upd {} (7 + i) (fun p => p.begin (pairPlace t (7 + i)) (7 + i) (some (c.foldData i))) })))) ∧
    (s.hasTile t = true → s.cel.storeState = 0 → (s.cellar t).busy = some (.tally i) →
      exec (.tallyBitProgrammed t) s =
        .next ((s.reach ((s.cellar t).opAt + 100000)).updCellar t (fun c =>
          ({ c with
            busy := none, fields := c.fields.upd {} i FieldPage.program
            waiting := c.waiting.upd 0 i (· - 1) } : Cellar).requeue i)).answerKept) ∧
    (s.hasTile t = true → s.cel.storeState = 0 → (s.cellar t).busy = some (.foldErase i) →
      exec (.tallyBitProgrammed t) s =
        .next ((s.reach ((s.cellar t).opAt + 1500000)).updCellar t (fun c =>
          ({ c with busy := none, fields := c.fields.set {} i { g := (c.base i).2 } } : Cellar).requeue i)).answerKept) ∧
    (s.hasTile t = true → s.cel.storeState = 0 → (s.cellar t).busy = some (.foldBase i) →
      ∃ x, exec (.tallyBitProgrammed t) s = .next x ∧ (x.cellar t).busy = none ∧
        x.now = Nat.max s.now ((s.cellar t).opAt + 3000000)) ∧
    (s.hasTile t = true → s.clk.running = true →
      exec (.hourTally t 1) s =
        .next (((s.reach (((s.cellar t).powerHours + 1) * framesPerHour * ticksPerFrame - s.clk.powerBase)).updCellar t
          (fun c => { c with powerHours := c.powerHours + 1 })).tally [t] 1)) ∧
    (s.hasTile t = true → s.clk.running = true → ((s.cellar t).runHours + 1) * framesPerHour ≤ s.md.runFrames →
      exec (.hourTally t 0) s =
        .next (((s.reach s.now).updCellar t (fun c => { c with runHours := c.runHours + 1 })).tally [t] 0)) ∧
    (s.hasTile t = true → s.clk.running = true → s.md.mode = .run →
      s.md.runFrames < ((s.cellar t).runHours + 1) * framesPerHour →
      ∃ x, exec (.hourTally t 0) s = .next x ∧ x.md.runFrames = ((s.cellar t).runHours + 1) * framesPerHour ∧
        s.now ≤ x.now ∧ (s.frame + (x.md.runFrames - s.md.runFrames)) * ticksPerFrame ≤ x.now) ∧
    (s.clk.running = true → exec .cellarScrub s = .next (s.tileList.foldl State.scrubTile s)) ∧
    ((s.tile t).state ≠ 2 →
      ((s.cellar t).scrubbedAt / 24 < (s.cellar t).hours / 24 →
        s.scrubTile t =
          (pairsOn t).foldl (fun x i => x.scrubPair t i) (s.updCellar t (fun c => { c with scrubbedAt := (s.cellar t).hours }))) ∧
      ((s.cellar t).hours / 24 ≤ (s.cellar t).scrubbedAt / 24 → s.scrubTile t = s)) ∧
    (s.cel.saveState = 1 → s.obj.flight = none → t ∈ s.tileList →
      ∃ x, exec .configSnapshot s = .next x ∧ x.cel.saveState = 2 ∧ x.obj = s.obj ∧
        x.now = Nat.max s.now ((s.now + 2047) / 2048 * 2048) ∧ x.cel.savedAt = x.now ∧
        (x.cellar t).snapshot = s.ownValues t ∧ (x.cellar t).savePages = 0 ∧ (x.cellar t).saveGen = s.nextGen n) ∧
    (s.hasTile t = true → s.cel.storeState = 0 → (s.cellar t).busy = some .save → (s.cellar t).savePages < 103 →
      exec (.pageWriteComplete t) s =
        .next ((s.reach ((s.cellar t).opAt + 1500000)).updCellar t (fun c =>
          ({ c.updOlder n (fun m => m.put c.savePages (.data c.saveGen (imageShare c.snapshot c.savePages))) with
            savePages := c.savePages + 1, opAt := c.opAt + 1500000 } : Cellar).beginSaved t n trims)).answerKept) ∧
    (s.cel.saveState = 2 → s.cel.storeState = 0 → (∀ u ∈ s.tileList, (s.tile u).state ≠ 2) →
      (∀ u ∈ s.tileList, (s.cellar u).busy = some .save ∧ (s.cellar u).savePages < 105) →
      ∃ x, exec .configSaveComplete s = .next x ∧ x.cel.saveState = 3 ∧ x.cel.progress = 105 ∧
        x.cel.activeSet = s.cel.activeSet ∧ x.obj = s.obj ∧
        ∀ u ∈ s.tileList, (x.cellar u).savePages = 105 ∧
          (s.cellar u).opAt + 1500000 * (105 - (s.cellar u).savePages) ≤ x.now) ∧
    (s.cel.storeState ≠ 0 → ∀ v, ∃ x, exec (.storeComplete v) s = .next x ∧ x.cel.storeState = 0 ∧ x.cel.vholdEnd = v ∧
      x.cel.storeResult = (if 3600 ≤ v then 1 else 2) ∧ x.obj = s.obj ∧ x.md = s.md ∧
      x.now = Nat.max s.now (s.cel.storeAt + 1010000) ∧
      ∀ u ∈ s.tileList, x.cellar u = { (s.cellar u).storeBank (decide (3600 ≤ v)) with opAt := x.now })

/-- R486, R490 to R492, R496 to R499, R506, R507: CAN B takes no FD frame, and sends none; CAN A sends FD frames, but for its
SRDOs; a SYNC marks the TPDOs of its channel that are due and moves the buffered RPDOs of the channel to the coming frame
boundary; an RPDO that arrives is buffered where it is synchronous, and otherwise is a request at once; a TPDO is sent with the
values latched for it, again with the same records while a stream frame is not acknowledged and its ring still streams, or with
the present ones where it has news or its event timer expires; an acknowledged stream frame advances its ring; a heartbeat
carries the NMT state; a change of a channel's error state is recorded. An SDO or USDO client's access in segments opens a
transfer; a segment of a write is kept and the last one makes the whole value one write; a segment of a read carries the next
bytes of the value held (how many is the model's free value, log entry 11); an unknown specifier, a segment with no transfer of
its kind, one with the wrong toggle bit, and a transfer without a message in its time are aborted. -/
def Obligations.NetworkCommands : Prop :=
  ∀ (s s1 : State) (c : CanChan) (g : CanFormat) (fr : Frame) (n k r counter client st : Nat) (data bs : List Nat),
    ((fr.chan = .b → fr.format = .classical) ∧ (fr.format = .classical → fr.chan = .a → ∃ d v, fr = .srdo .a d v)) ∧
    (exec (.syncMessage .b .fd counter) s = .next s ∧
      (s.rpdoCan n = .b → exec (.rpdoReceived n .fd data) s = .next s)) ∧
    (s.pdoUp c = true → (c = .b → g = .classical) →
      s1 = ((List.range 16).filter (fun n => s.tpdoOn n && s.tpdoChan n == c)).foldl (fun x n => x.syncTpdo counter n) s →
      exec (.syncMessage c g counter) s =
        .next { s1 with
          net := { s1.net with
            rpdoDue := (s1.net.rpdoBuf.filter (fun e => s.rpdoCan e.1 == c)).foldl (fun d e => Tab.set [] d e.1 e.2)
              s1.net.rpdoDue
            rpdoBuf := s1.net.rpdoBuf.filter (fun e => !(s.rpdoCan e.1 == c)) } }) ∧
    (s.rpdoOn n = true → (s.rpdoCan n = .b → g = .classical) → s.ob (0x1400 + n) 2 ≤ 240 →
      exec (.rpdoReceived n g data) s = .next { s with net := { s.net with rpdoBuf := Tab.set [] s.net.rpdoBuf n data } }) ∧
    (s.rpdoOn n = true → (s.rpdoCan n = .b → g = .classical) → 240 < s.ob (0x1400 + n) 2 → s.obj.heldReqs = [] →
      s.served (s.rpdoChan n) = true →
      exec (.rpdoReceived n g data) s = .next (s.rpdoEntries (s.rpdoChan n) (s.rpdoMapping n) data)) ∧
    (s.tpdoOn n = true → s.procRuns 0 = true →
      ((s.tpdo n).latched = some bs → exec (.tpdoTransmit n) s = .next (s.sendTpdo n bs 0)) ∧
      ((s.tpdo n).latched = none → (s.tpdo n).inFlightRecs = k → k ≠ 0 → s.streaming n = true →
        exec (.tpdoTransmit n) s = .next (s.sendTpdo n (s.tpdo n).sent k)) ∧
      ((s.tpdo n).latched = none → ((s.tpdo n).inFlightRecs = 0 ∨ s.streaming n = false) →
        (s.tpdoNews n = true → s1 = s.reach (s.tpdo n).inhibitUntil →
          exec (.tpdoTransmit n) s = .next ((s1.tpdoValues n).1.sendTpdo n (s1.tpdoValues n).2 (s1.streamCount n))) ∧
        (s.tpdoNews n = false → s.tpdoTimed n = true →
          exec (.tpdoTransmit n) s = .next ((s.reach (s.tpdoExpiry n)).sendNow n)))) ∧
    ((s.tpdo n).inFlightRecs = k → k ≠ 0 → s.streamRing n = some r → s.streaming n = true →
      exec (.tpdoAcknowledged n) s = .next ((s.updTpdo n (fun t => { t with inFlightRecs := 0 })).ringAdvance r k)) ∧
    (s.streaming n = false →
      exec (.tpdoAcknowledged n) s = .next (s.updTpdo n (fun t => { t with inFlightRecs := 0 }))) ∧
    (s.nmtHeard c = true → s.ob 0x1017 0 ≠ 0 →
      exec (.heartbeat c) s =
        .next { s with net := { s.net with sent := .heartbeat c (s.nmtOf c).code :: s.net.sent } }) ∧
    (s.md.mode ≠ .reset → s.net.enA = true → st ≠ s.net.errA → st ≤ 2 →
      exec (.canErrorStateChange .a st) s =
        .next (({ s with
          net := { s.net with errA := st, busOffsA := satAdd 32 s.net.busOffsA (b2n (st == 2)) } } : State).report 0 srcNet
            0x0E03 (if st = 2 then 3 else 2) 0 [if st = 0 then 3 else st])) ∧
    (s.md.mode ≠ .reset → s.net.enB = true → st ≠ s.net.errB → st ≤ 2 →
      exec (.canErrorStateChange .b st) s =
        .next (({ s with
          net := { s.net with errB := st, busOffsB := satAdd 32 s.net.busOffsB (b2n (st == 2)) } } : State).report 0 srcNet
            0x0E03 (if st = 2 then 3 else 2) 1 [if st = 0 then 3 else st])) ∧
    (∀ x, client < 5 → s.served (clientChan client) = true →
      (s.transferOf (clientChan client) = some x →
        exec (.sdoTimeout client) s =
          .next ((s.reach (x.frameAt + 500000000)).answer (clientChan client) (.abort 0x08000000))) ∧
      (s.transferOf (clientChan client) = none → exec (.sdoTimeout client) s = .next s)) ∧
    (∀ ch idx sub len v x toggle last, ch ≠ .spi → s.served ch = true → s.clientBusy ch = false →
      exec (.objectWrite ch idx sub len v .unknown) s = .next (s.answer ch (.abort 0x08000000)) ∧
      exec (.recorderRead ch .unknown) s = .next (s.answer ch (.abort 0x08000000)) ∧
      exec (.objectWrite ch idx sub len v .initiate) s =
        .next ((s.answer ch (.ok [])).openTransfer ch { write := true, idx := idx, sub := sub }) ∧
      (s.transferOf ch = none →
        exec (.objectWrite ch idx sub len v (.segment toggle last)) s = .next (s.answer ch (.abort 0x08000000)) ∧
        exec (.recorderRead ch (.segment toggle last)) s = .next (s.answer ch (.abort 0x08000000))) ∧
      (s.transferOf ch = some x →
        (x.write = false ∨ toggle ≠ x.toggle →
          exec (.objectWrite ch idx sub len v (.segment toggle last)) s = .next (s.answer ch (.abort 0x08000000))) ∧
        (x.write = true → toggle = x.toggle → last = false →
          exec (.objectWrite ch idx sub len v (.segment toggle last)) s =
            .next ((s.answer ch (.ok [])).openTransfer ch { x with bytes := x.bytes ++ bytesLE len v, toggle := !x.toggle })) ∧
        (x.write = true → toggle = x.toggle → last = true →
          exec (.objectWrite ch idx sub len v (.segment toggle last)) s =
            exec (.objectWrite ch x.idx x.sub (x.bytes ++ bytesLE len v).length (ofBytesLE (x.bytes ++ bytesLE len v)) .whole) s) ∧
        (x.write = true ∨ toggle ≠ x.toggle →
          exec (.recorderRead ch (.segment toggle last)) s = .next (s.answer ch (.abort 0x08000000))) ∧
        (x.write = false → toggle = x.toggle → k = Config.segmentBytes s.diag.fresh + 1 →
          (x.bytes.length ≤ k → exec (.recorderRead ch (.segment toggle last)) s = .next (s.answer ch (.ok x.bytes))) ∧
          (k < x.bytes.length →
            exec (.recorderRead ch (.segment toggle last)) s =
              .next ((s.answer ch (.ok (x.bytes.take k))).openTransfer ch { x with bytes := x.bytes.drop k, toggle := !x.toggle })))))

/-- R397, R507 to R511: the SPI port while the part serves it. A READ or a WRITE whose frame is good and that nothing holds is
handled as a request of the dictionary; RING_READ answers with whole records of a ring whose CONSUMER is 2 and advances it;
FETCH answers with the frame of the last result; a request with a wrong CRC or length is bad, one while the last is busy is
discarded, and a transaction that times out is counted and recorded. -/
def Obligations.SpiCommands : Prop :=
  ∀ (s s1 : State) (idx sub len v r bytes i : Nat) (ok : Bool) (f : Fam) (row : Row), s.md.mode ≠ .reset →
    (s.served .spi = true → s.net.spi ≠ .busy →
      (s.Reads s1 .spi idx sub len f i row → isDomain s.T idx sub = false → idx ≠ 0x4482 → len ≤ 4096 →
        exec (.spiRead idx sub len true) s =
          .next ((s1.readValue .spi f i idx sub).1.answer .spi (.ok (s1.readValue .spi f i idx sub).2))) ∧
      (s.Admits s1 .spi idx sub len v f i row → 1 ≤ len → len ≤ 1024 →
        exec (.spiWrite idx sub len v true) s =
          .next ((s1.carryOut .spi f i idx sub v row 0).1.answer .spi (s1.carryOut .spi f i idx sub v row 0).2)) ∧
      (r < 64 → 32 ≤ len → len ≤ 512 → s.ob (0x4400 + r) 5 = 2 →
        exec (.ringRead r len true) s =
          .next ((s.ringAdvance r (((s.ring r).unread).take (len / 32)).length).answer .spi
            (.ok ((((s.ring r).unread).take (len / 32)).flatMap Rec.bytes)))) ∧
      exec (.spiRead idx sub len false) s =
        .next { s with net := { s.net with spi := .bad, spiBad := satAdd 32 s.net.spiBad 1 } } ∧
      exec (.spiWrite idx sub len v false) s =
        .next { s with net := { s.net with spi := .bad, spiBad := satAdd 32 s.net.spiBad 1 } } ∧
      exec (.ringRead r len false) s =
        .next { s with net := { s.net with spi := .bad, spiBad := satAdd 32 s.net.spiBad 1 } }) ∧
    (s.served .spi = true → s.net.spi = .busy →
      exec (.spiRead idx sub len ok) s = .next { s with net := { s.net with spiDiscarded := satAdd 32 s.net.spiDiscarded 1 } } ∧
      exec (.spiWrite idx sub len v ok) s =
        .next { s with net := { s.net with spiDiscarded := satAdd 32 s.net.spiDiscarded 1 } } ∧
      exec (.ringRead r len ok) s =
        .next { s with net := { s.net with spiDiscarded := satAdd 32 s.net.spiDiscarded 1 } }) ∧
    exec .spiFetch s = .next { s with obj := { s.obj with respSpi := .ok s.net.spi.frame } } ∧
    exec (.spiTransactionTimeout bytes) s =
      .next (({ s with net := { s.net with spiAborted := satAdd 32 s.net.spiAborted 1 } } : State).report 0 srcNet 0x0E04 2
        0xFFFF (bytesLE 4 bytes))

/-- R29, R30, R449, R450, R453, R454, R457, R464, R486, R501: a bandgap drift outside ±1.5 % is a fault of severity 5 when it
begins and within it ends one; a corrected SRAM error counts and is recorded with severity 1; a double-bit error counts, is
recorded with the severity of its area, and has the reaction of its area; an FD frame on CAN B is ignored; a valid pair of
frames of a receive SRDO ends its loss and, where it maps REQUEST_LOOPS, sets it, and an invalid one, or the loss of the SRDO,
has SRDO_LOSS_ACTION; a transmit SRDO that runs sends its normal and its inverted frame at its refresh time; and the proof test
ends with the failed steps of the trained tiles. -/
def Obligations.SafetyEvents : Prop :=
  ∀ (s s1 s2 : State) (t diff addr i m normal inverted apart failed : Nat) (a : SramArea) (g : CanFormat),
    (s.hasTile t = true → s.md.mode ≠ .reset →
      s1 = { s with diag := { s.diag with bandgap := Nat.max s.diag.bandgap diff } } →
      (diff ≤ 150 → exec (.bandgapDrift t diff) s = .next (s1.updTile t (fun ti => { ti with bandFault := false }))) ∧
      (150 < diff → (s.tile t).bandFault = true →
        exec (.bandgapDrift t diff) s = .next (s1.updTile t (fun ti => { ti with bandFault := true }))) ∧
      (150 < diff → (s.tile t).bandFault = false →
        exec (.bandgapDrift t diff) s =
          .next (((s1.updTile t (fun ti => { ti with bandFault := true })).report t srcTelem 0x0803 5 t [0]).dangerous
            (((s1.updTile t (fun ti => { ti with bandFault := true })).report t srcTelem 0x0803 5 t [0]).loopsOn t) t 0x0803
              t false))) ∧
    (s.hasTile t = true → s.md.mode ≠ .reset →
      exec (.sramErrorCorrected t a addr) s =
        .next (({ s with diag := { s.diag with corrected := satAdd 32 s.diag.corrected 1 } } : State).report t srcSram 0x0209 1
          t (areaCode a :: bytesLE 3 addr))) ∧
    (s.hasTile t = true → s.md.mode ≠ .reset →
      s1 = ({ s with diag := { s.diag with detected := satAdd 32 s.diag.detected 1 } } : State).report t srcSram 0x020A
        (areaSev a) t (areaCode a :: bytesLE 3 addr) →
      (a = .loopTables → exec (.sramErrorDetected t a addr) s = .next (s1.dangerous (s1.loopsOn t) t 0x020A t false)) ∧
      (a = .sequencerTables → exec (.sramErrorDetected t a addr) s = .next (s1.dangerous [] t 0x020A t true)) ∧
      (a = .processor → exec (.sramErrorDetected t a addr) s = .next (s1.watchdog t)) ∧
      (a = .recorder → exec (.sramErrorDetected t a addr) s =
        .next { s1 with ev := { s1.ev with recorders := s1.ev.recorders.upd {} t (fun q => q.spoil addr) } }) ∧
      (a = .ringPool → exec (.sramErrorDetected t a addr) s = .next (s1.spoilPool t (List.range 64) (addr / 8))) ∧
      (a = .capture → exec (.sramErrorDetected t a addr) s =
        .next { s1 with caps := s1.caps.upd {} t (fun c => { c with damaged := true, valid := false }) }) ∧
      (a = .histograms → exec (.sramErrorDetected t a addr) s =
        .next { s1 with
          hists := s1.hists.upd {} (16 * t + addr / 128 % 16) (fun h => { h with bad := true, clear := true }) })) ∧
    (s.srdoChan = .b → exec (.srdoReceived i .fd normal inverted apart) s = .next s) ∧
    (s.srdoRx i = true → (s.srdoChan = .b → g = .classical) → m = 2 ^ (s.srdoEntries i).foldl (fun a e => a + e % 256) 0 →
      apart ≤ s.ob (0x1301 + i) 3 → normal % m + inverted % m + 1 = m →
      s1 = { s with srdo := { s.srdo with lost := clrBit s.srdo.lost i } } →
      ((s.srdoEntries i).head? ≠ some 0x26010520 → exec (.srdoReceived i g normal inverted apart) s = .next s1) ∧
      ((s.srdoEntries i).head? = some 0x26010520 →
        s2 = { s1 with srdo := { s1.srdo with request := normal % 2 ^ 32 } } →
        (s.loopList.any (bit (normal % 2 ^ 32)) = false → exec (.srdoReceived i g normal inverted apart) s = .next s2) ∧
        (s.loopList.any (bit (normal % 2 ^ 32)) = true →
          exec (.srdoReceived i g normal inverted apart) s =
            .next (s2.dangerous (s.notSafe5 (normal % 2 ^ 32)) 0 0x0000 0xFFFF false)))) ∧
    (s.srdoRx i = true → (s.srdoChan = .b → g = .classical) → m = 2 ^ (s.srdoEntries i).foldl (fun a e => a + e % 256) 0 →
      s1 = { s with srdo := { s.srdo with lost := setBit s.srdo.lost i } } →
      (s.ob (0x1301 + i) 3 < apart ∨ normal % m + inverted % m + 1 ≠ m →
        exec (.srdoReceived i g normal inverted apart) s = exec (.srdoLoss i) s) ∧
      (s.ob 0x2600 7 = 0 → exec (.srdoLoss i) s = .next s1) ∧
      (s.ob 0x2600 7 ≠ 0 →
        exec (.srdoLoss i) s = .next (s1.dangerous (s.notSafe5 (s.ob 0x2600 1)) 0 srdoLossCause 0xFFFF (s.ob 0x2600 7 == 2)))) ∧
    (s.srdoTx i = true → s1 = s.reach (s.srdo.sentAt.get 0 i + 500000 * s.ob (0x1301 + i) 2) →
      exec (.srdoTransmit i) s =
        .next { s1 with
          srdo := { s1.srdo with sentAt := Tab.set 0 s1.srdo.sentAt i s1.now }
          net := { s1.net with
            sent := .srdo s.srdoChan (s1.srdoData i).1 (2 ^ (s1.srdoData i).2 - 1 - (s1.srdoData i).1) :: s1.net.sent } }) ∧
    (s.srdoRx i = false ∧ s.srdoTx i = false →
      exec (.srdoReceived i .classical normal inverted apart) s = .next s ∧ exec (.srdoLoss i) s = .next s ∧
        exec (.srdoTransmit i) s = .next s) ∧
    (s.md.proofRunning = true →
      exec (.proofTestComplete failed) s =
        .next { s with
          md := { s.md with
            proofRunning := false
            proofState := if bitmap ((bitsOf failed 64).filter
              (fun b => bit s.link.trained (b / 8) && decide (b % 8 < 7))) = 0 then 2 else 3
            proofResult := bitmap ((bitsOf failed 64).filter
              (fun b => bit s.link.trained (b / 8) && decide (b % 8 < 7))) } })

/-- R47, R81, R469, R471, R473, R474, R477, R478, R540: a nonce can be used for 10 s and a session ends TIMEOUT after its last
access; an alarm source that fires is kept and recorded with severity 6 and has the reaction that its policy selects: none, the
lock, or the erasure of the keys; fuses whose copies disagree count as blown and fire source 3, and source 4 fires on a
FIELD-fused part only; a TAP instruction has no effect on a FIELD-fused part but that alarm, and a debug instruction no effect
outside SERVICE, where it returns zeros; a held request is handled once no commit is in flight; and a capture completes after
65,535 − P samples. -/
def Obligations.SecurityAndMonitorEvents : Prop :=
  ∀ (s s0 s1 : State) (src fuses t : Nat) (i : TapInstr) (h : HeldReq) (rest : List HeldReq),
    (s.sec.nonce ≠ none → s1 = s.reach (s.sec.nonceAt + 5000000000) →
      exec .nonceExpiry s = .next { s1 with sec := { s1.sec with nonce := none } }) ∧
    (s.sec.session ≠ none → s1 = s.reach (s.sec.accessAt + 500000000 * s.ob 0x2400 9) →
      exec .sessionTimeout s = .next { s1 with sec := { s1.sec with session := none, tags := [] } }) ∧
    ((src = 3 ∧ fuses = 0) ∨ (src = 4 ∧ s.sec.field = false) → exec (.securityAlarm src fuses) s = .next s) ∧
    ((fuses.testBit 0 = true → (s.fuseDisagrees fuses).sec.field = true) ∧
      (fuses.testBit 1 = true → (s.fuseDisagrees fuses).sec.provision = true)) ∧
    (src < 6 → s.md.mode ≠ .reset → (src = 4 → s.sec.field = true) → (src = 3 → fuses ≠ 0) →
      s0 = (if src = 3 then { s with
        sec := { s.sec with
          integrity := s.sec.integrity ||| fuses
          fieldCopies := if fuses.testBit 0 then flipCopy s.sec.fieldCopies else s.sec.fieldCopies
          provisionCopies := if fuses.testBit 1 then flipCopy s.sec.provisionCopies else s.sec.provisionCopies } } else s) →
      s1 = ({ s0 with
        sec := { s0.sec with fired := setBit s.sec.fired src, lastSrc := src, lastAt := s.now } } : State).report 0 srcSec 0x0D02 6
          src [s.ob 0x2403 (src + 1)] →
      (s.ob 0x2403 (src + 1) = 0 → exec (.securityAlarm src fuses) s = .next s1) ∧
      (s.ob 0x2403 (src + 1) = 1 →
        exec (.securityAlarm src fuses) s =
          .next { s1 with sec := { s1.sec with locked := true, session := none, nonce := none, tags := [] } }) ∧
      (2 ≤ s.ob 0x2403 (src + 1) → ∃ x, exec (.securityAlarm src fuses) s = .next x ∧ x = s1.erase ∧ x.sec.keys = [] ∧
        x.sec.erased = true ∧ x.sec.locked = true ∧ x.sec.session = none ∧ x.obj = s1.obj ∧ x.md = s1.md ∧ x.ev = s1.ev)) ∧
    (s.sec.field = true → exec (.tapInstruction i) s = .next (s.alarm 4)) ∧
    (s.sec.field = false →
      s1 = { s with
        pins := { s.pins with
          tap := s.tapOut i, extest := i == .extest
          cells := match i with | .samplePreload h l => (h, l) | _ => s.pins.cells }
        diag := { s.diag with fresh := s.diag.fresh + 1 } } →
      (i ≠ .debugHalt → (i ≠ .processorHalt ∨ s.md.mode ≠ .service) → exec (.tapInstruction i) s = .next s1) ∧
      (i = .debugHalt → exec (.tapInstruction i) s = .next s1.debugHalt) ∧
      (i = .processorHalt → s.md.mode = .service →
        exec (.tapInstruction i) s =
          .next { s1 with tiles := s1.tiles.updAll {} s1.tileList (fun _ ti => { ti with procHalted := true }) }) ∧
      (s.md.mode ≠ .service →
        s.debugHalt = s ∧
        ∀ j, j = .debugHalt ∨ j = .processorHalt ∨ j = .processorStep ∨ j = .memoryAccess → s.tapOut j = .zeros)) ∧
    (s.obj.heldReqs = h :: rest → (s.obj.flight = none ∨ s.commitBound h = false) →
      exec .heldRequestServed s = .next (({ s with obj := { s.obj with heldReqs := rest } } : State).handle h)) ∧
    (s.hasTile t = true → (s.caps.get {} t).state = 2 → 65536 ≤ (s.caps.get {} t).after + (s.caps.get {} t).p →
      exec (.captureComplete t) s = .next (s.captureDone t (s.caps.get {} t).p))

/-- R317: the corrected code is the stage-trimmed code less OFFSET/16, times GAIN / 32,768, rounded to the nearest integer and
limited to 0 to 4,095; the loop converters, in the loop sample, and the telemetry converters, in the sum of an entry, use this
same correction with the factors of their converter. -/
def Obligations.CorrectedCode : Prop :=
  (∀ (gain c : Nat) (off : Int), correctCode gain off c ≤ 4095 ∧
    (correctCode gain off c < 4095 →
      2 * ((16 * (c : Int) - off) * gain) ≤ (2 * (correctCode gain off c : Int) + 1) * (16 * 32768)) ∧
    (0 < correctCode gain off c →
      (2 * (correctCode gain off c : Int) - 1) * (16 * 32768) ≤ 2 * ((16 * (c : Int) - off) * gain))) ∧
  (∀ (s : State) (t v code gain : Nat) (off : Int) (trims : List Nat), code ≤ 4095 →
    (s.tile t).cal.get none v = some (gain, off, trims) → s.corrected t v code = correctCode gain off code) ∧
  (∀ (s : State) (t v code : Nat), code ≤ 4095 → (s.tile t).cal.get none v = none → s.corrected t v code = code) ∧
  (∀ (s : State) (l c0 c1 c2 c3 : Nat) (cs : List Conv), (s.convOf (⟨l, c0, c1, c2, c3⟩ :: cs) l) =
    ⟨l, s.corrected (s.anchor l) (s.anchorSlot l) c0, s.corrected (s.anchor l) (s.anchorSlot l) c1,
      s.corrected (s.anchor l) (s.anchorSlot l) c2, s.corrected (s.anchor l) (s.anchorSlot l) c3⟩) ∧
  (∀ (s : State) (t v : Nat) (codes : List Nat), s.sumOf t v codes = (codes.map (s.corrected t (4 + v))).sum)

/-- R306: the result that TELEMETRY_RESULT writes for the entry of a converter, from the sum S of its 2^k corrected samples:
floor((S + 2^(k−s−1)) / 2^(k−s)) when k > s, S when k = s; it has 12 + s bits, in units of 2^−s LSB. -/
def Obligations.ResultOfAnEntry : Prop :=
  ∀ (s s1 : State) (t v k sh at_ sum : Nat) (codes : List Nat) (d : DoneEntry) (ds : List DoneEntry),
    s.hasTile t = true → v < 2 → (s.tablesNow t).resultTime t v = some at_ →
    s1 = ((s.tablesNow t).reach at_).tablesNow t → ((s1.tile t).seq v).done = d :: ds →
    k = field d.word 8 4 → sh = field d.word 12 4 → sh ≤ k → codes.length = 2 ^ k → sum = s1.sumOf t v codes →
    ∃ x, exec (.telemetryResult t v codes) s = .next x ∧
      (sh < k → (((x.tile t).raw.get (0, 0, false, 0) (64 * v + d.entry))).1 =
        (sum + 2 ^ (k - sh - 1)) / 2 ^ (k - sh)) ∧
      (k = sh → (((x.tile t).raw.get (0, 0, false, 0) (64 * v + d.entry))).1 = sum) ∧
      (((x.tile t).raw.get (0, 0, false, 0) (64 * v + d.entry))).1 < 2 ^ (12 + sh) ∧
      (((x.tile t).raw.get (0, 0, false, 0) (64 * v + d.entry))).2.2.2 =
        voltsOf sh (((x.tile t).raw.get (0, 0, false, 0) (64 * v + d.entry))).1

/-- R259: the CRC of a lane frame is CRC-8 with polynomial 0x07, initial value 0x00, no reflection and no final XOR, taken over
bits 35:8 of a request and bits 27:8 of a response, most significant first, one bit at a time. -/
def Obligations.LaneCrc : Prop :=
  (∀ (crc : Nat) (b : Bool), crc < 256 →
    crc8Bit crc b =
      if ((crc >>> 7) &&& 1 == 1) != b then ((crc <<< 1) ^^^ 0x07) &&& 0xFF else (crc <<< 1) &&& 0xFF) ∧
  (∀ v, crc8 v 0 = 0x00) ∧ (∀ v n, crc8 v (n + 1) = crc8Bit (crc8 (v / 2) n) (v % 2 == 1)) ∧
  (∀ k op payload seq, requestFrame k op payload seq % 256 = crc8 (requestFrame k op payload seq / 256 % 2 ^ 28) 28) ∧
  (∀ status k payload, responseFrame status k payload % 256 = crc8 (responseFrame status k payload / 256 % 2 ^ 20) 20)

/-- R257, R258: every field of a request frame and of a response frame stands at its bits, and no frame exceeds its length. -/
def Obligations.LaneFrameFields : Prop :=
  (∀ k op payload seq, k < 4 → op < 64 → payload < 65536 → seq < 16 →
    let w := requestFrame k op payload seq
    w < 2 ^ 40 ∧ field w 36 4 = 0xD ∧ field w 34 2 = k ∧ field w 28 6 = op ∧ field w 12 16 = payload ∧ field w 8 4 = seq) ∧
  (∀ status k payload, status < 4 → k < 4 → payload < 65536 →
    let w := responseFrame status k payload
    w < 2 ^ 32 ∧ field w 28 4 = 0xB ∧ field w 26 2 = status ∧ field w 24 2 = k ∧ field w 8 16 = payload)

/-- R279: every field of a sample slot stands at its bits, whatever the fields hold, no slot exceeds its 32 bits, and its CRC-8
over bits 31:8 passes; two slots of different fields differ. -/
def Obligations.SampleSlotFields : Prop :=
  ∀ f : SampleSlot, -32768 ≤ f.error → f.error ≤ 32767 → f.action < 4 → f.pTick < 8 →
    sampleFields f.word = f ∧ sampleCrcOk f.word = true ∧ f.word < 2 ^ 32 ∧ bit f.word 8 = false ∧
    (∀ g : SampleSlot, -32768 ≤ g.error → g.error ≤ 32767 → g.action < 4 → g.pTick < 8 → g.word = f.word → g = f)

/-- R124: the clamped value of u enters the history and the residue is cleared on clamping, with no stored excess: the next sum
is formed from the limit alone. Without a clamp u and the residue together are the whole sum (R123), and the duty command
never leaves DUTY_MIN to DUTY_MAX (R125). The rounding of the limits is the model's choice (log entry 20). -/
def Obligations.AntiWindup : Prop :=
  ∀ (c : LoopComp) (k : List Int) (dmin dmax f : Nat) (e e1 : Int), f = Nat.max 1 c.ff → dmin ≤ dmax →
    uMin dmin f ≤ uMax dmax f →
    let n := c.next k dmin dmax e
    uMin dmin f ≤ n.u1 ∧ n.u1 ≤ uMax dmax f ∧ dmin ≤ n.duty ∧ n.duty ≤ dmax ∧
    n.u2 = c.u1 ∧ n.u3 = c.u2 ∧ n.e1 = e ∧ n.e2 = c.e1 ∧ 0 ≤ n.res ∧ n.res < 2 ^ 29 ∧
    ((uMax dmax f + 1) * 2 ^ 29 ≤ c.acc k e → n.u1 = uMax dmax f ∧ n.res = 0 ∧ n.atMax = true ∧
      n.acc k e1 = k.getD 0 0 * uMax dmax f + k.getD 1 0 * c.u1 + k.getD 2 0 * c.u2 +
        (k.getD 3 0 * e1 + k.getD 4 0 * e + k.getD 5 0 * c.e1) * 2 ^ 18) ∧
    (c.acc k e < uMin dmin f * 2 ^ 29 → n.u1 = uMin dmin f ∧ n.res = 0 ∧ n.atMin = true ∧
      n.acc k e1 = k.getD 0 0 * uMin dmin f + k.getD 1 0 * c.u1 + k.getD 2 0 * c.u2 +
        (k.getD 3 0 * e1 + k.getD 4 0 * e + k.getD 5 0 * c.e1) * 2 ^ 18) ∧
    (uMin dmin f * 2 ^ 29 ≤ c.acc k e → c.acc k e < (uMax dmax f + 1) * 2 ^ 29 →
      n.u1 * 2 ^ 29 + n.res = c.acc k e)

/-- R157: HALF is 250,000 / FREQ rounded to the nearest integer with ties upward, from the loop's carrier frequency or, for a
phase of no loop, its own; over the settings of 200 kHz to 4,000 kHz it lies from 63 to 1,250; a period is 2·HALF PWM clocks. -/
def Obligations.CarrierHalf : Prop :=
  (∀ freq, 0 < freq → 2 * 250000 < (2 * halfOf freq + 1) * freq ∧ (2 * halfOf freq - 1) * freq ≤ 2 * 250000) ∧
  (∀ freq, 200 ≤ freq → freq ≤ 4000 → 63 ≤ halfOf freq ∧ halfOf freq ≤ 1250) ∧ halfOf 4000 = 63 ∧ halfOf 200 = 1250 ∧
  (∀ (s : State) (p l : Nat), s.loopOf p = some l → (s.phaseNow p).half = halfOf (s.obZero p (loopIdx l 3) 1)) ∧
  (∀ (s : State) (p : Nat), s.loopOf p = none → (s.phaseNow p).half = halfOf (s.obZero p (phaseIdx p 0) 3)) ∧
  (∀ (s : State) (p idx sub : Nat), s.obj.flight = none → s.obZero p idx sub = s.obAt (p / 16) idx sub) ∧
  (∀ (s : State) (l : Nat), s.period l = 2 * halfOf (s.lo l 3 1)) ∧
  (∀ ph : Phase, ph.zeroSeen = true → ph.move = 0 → ph.nextZero = ph.zeroAt + 2 * ph.cfg.half)

/-- R139: the step of ref is RATE × 41.94304 rounded to the nearest integer, and each step takes ref toward its target without
passing it: the remaining distance falls by the step, and ref becomes equal to the target where no more than one step
remains. -/
def Obligations.SlewSteps : Prop :=
  (∀ rate, 2 * (slewStep rate * 100000) ≤ 2 * (rate * 4194304) + 100000 ∧
    2 * (rate * 4194304) < 2 * (slewStep rate * 100000) + 100000) ∧
  (∀ ref target step,
    (ref ≤ target → target ≤ ref + step → stepRef ref target step = target) ∧
    (target ≤ ref → ref ≤ target + step → stepRef ref target step = target) ∧
    (ref + step < target → stepRef ref target step = ref + step) ∧
    (target + step < ref → stepRef ref target step + step = ref) ∧
    (ref ≤ target → ref ≤ stepRef ref target step ∧ stepRef ref target step ≤ target) ∧
    (target ≤ ref → target ≤ stepRef ref target step ∧ stepRef ref target step ≤ ref))

/-- R120, R121: the loop sample is floor((c0 + c1 + c2 + c3 + 2) / 4), a 12-bit number, out of range exactly where all four
conversions are 0 or all four are 4,095; e[n] is 0.64 × ref − s − v_d to the nearest 1/16 LSB, ties away from zero, limited to
−2,048 to +2,047.9375 LSB. -/
def Obligations.SampleAndError : Prop :=
  (∀ c0 c1 c2 c3, c0 ≤ 4095 → c1 ≤ 4095 → c2 ≤ 4095 → c3 ≤ 4095 →
    4 * sampleOf c0 c1 c2 c3 ≤ c0 + c1 + c2 + c3 + 2 ∧ c0 + c1 + c2 + c3 + 2 < 4 * sampleOf c0 c1 c2 c3 + 4 ∧
    sampleOf c0 c1 c2 c3 < 4096 ∧
    (rangeKindOf c0 c1 c2 c3 = 1 ↔ c0 + c1 + c2 + c3 = 0) ∧ (rangeKindOf c0 c1 c2 c3 = 2 ↔ c0 + c1 + c2 + c3 = 4 * 4095)) ∧
  (∀ (sn : LoopSense) (c0 c1 c2 c3 : Nat),
    (sn.take c0 c1 c2 c3).sample = sampleOf c0 c1 c2 c3 ∧
    (rangeKindOf c0 c1 c2 c3 = 0 → (sn.take c0 c1 c2 c3).rangeRun = 0) ∧
    (rangeKindOf c0 c1 c2 c3 ≠ 0 → rangeKindOf c0 c1 c2 c3 = sn.rangeKind →
      (sn.take c0 c1 c2 c3).rangeRun = sn.rangeRun + 1) ∧
    (rangeKindOf c0 c1 c2 c3 ≠ 0 → rangeKindOf c0 c1 c2 c3 ≠ sn.rangeKind → (sn.take c0 c1 c2 c3).rangeRun = 1)) ∧
  (∀ (ref sample : Nat) (vd : Int), -32768 ≤ errorSample ref sample vd ∧ errorSample ref sample vd ≤ 32767 ∧
    (errorSample ref sample vd < 32767 →
      64 * (ref : Int) * 16 - (16 * sample + vd) * 6553600 ≤ errorSample ref sample vd * 6553600 + 3276800) ∧
    (-32768 < errorSample ref sample vd →
      errorSample ref sample vd * 6553600 - 3276800 ≤ 64 * (ref : Int) * 16 - (16 * sample + vd) * 6553600))

/-- R381: a report of code and instance already pending in its slot is a repeat that keeps the time and data of the first
occurrence, with the count limited to 65,535, the delta in 512 ns to 0xFFFFFFFF and the flag of a saturation; otherwise it
takes a free entry behind those there, or, with four entries busy, is counted as lost with its time. A slot never holds more
than four entries or two of one code and instance. -/
def Obligations.ReportSlot : Prop :=
  ∀ (sl : Slot) (n : Entry), sl.entries.length ≤ 4 → (sl.entries.map (fun e => (e.code, e.inst))).Nodup →
    ((sl.report n).entries.length ≤ 4 ∧ ((sl.report n).entries.map (fun e => (e.code, e.inst))).Nodup) ∧
    ((n.code, n.inst) ∈ sl.entries.map (fun e => (e.code, e.inst)) →
      (sl.report n).lost = sl.lost ∧ (sl.report n).lostLast = sl.lostLast ∧
      (sl.report n).entries.map (fun e => (e.code, e.inst, e.sev, e.data, e.time, e.pre)) =
        sl.entries.map (fun e => (e.code, e.inst, e.sev, e.data, e.time, e.pre)) ∧
      ∀ (i : Nat) (e : Entry), sl.entries[i]? = some e →
        (e.code = n.code → e.inst = n.inst → ∃ x, (sl.report n).entries[i]? = some x ∧
          x.rpt = Nat.min (e.rpt + 1) 65535 ∧ x.delta = Nat.min ((n.time - e.time) >>> 8) 0xFFFFFFFF ∧
          (65535 ≤ e.rpt + 1 ∨ 0xFFFFFFFF ≤ (n.time - e.time) >>> 8 → x.sat = true)) ∧
        (¬ (e.code = n.code ∧ e.inst = n.inst) → (sl.report n).entries[i]? = some e)) ∧
    ((n.code, n.inst) ∉ sl.entries.map (fun e => (e.code, e.inst)) → sl.entries.length < 4 →
      sl.report n = { sl with entries := sl.entries ++ [n] }) ∧
    ((n.code, n.inst) ∉ sl.entries.map (fun e => (e.code, e.inst)) → sl.entries.length = 4 →
      sl.report n = { sl with lost := Nat.min (sl.lost + 1) 65535, lostLast := n.time })

/-- R384: a source that EVENT_ENABLE disables reports nothing of severity 0 to 2; a report of severity 3 and above always
reaches its slot, and so does any report of an enabled source, with the present device time as its TIME. -/
def Obligations.ReportsOfASource : Prop :=
  ∀ (s : State) (t src code sev inst : Nat) (d : List Nat),
    (sev ≤ 2 → s.sourceOn t src = false → s.report t src code sev inst d = s) ∧
    ((3 ≤ sev ∨ s.sourceOn t src = true) →
      (s.report t src code sev inst d).ev.slots.get {} (256 * t + src) =
        (s.ev.slots.get {} (256 * t + src)).report
          { code := code, inst := inst, sev := sev, data := d, time := s.now, rpt := 0, delta := 0, sat := false
            pre := !s.clk.running } ∧
      (∀ k, k ≠ 256 * t + src → (s.report t src code sev inst d).ev.slots.get {} k = s.ev.slots.get {} k))

/-- R412, R414 to R416: the layout of a copy, which copy is newer, the value of a pair, and what a write and an interrupted write
leave: a write goes to the other copy than the newest valid one, with its SEQ plus one modulo 65,536, or to copy A with SEQ 1, and
is the pair's value once it is whole; the other copy is never touched, so that a write in progress or interrupted leaves the value
as it was. -/
def Obligations.PagePairs : Prop :=
  (∀ x y, x < 65536 → y < 65536 → (newer x y = true ↔
    1 ≤ ((x : Int) - y) % 65536 ∧ ((x : Int) - y) % 65536 ≤ 32767)) ∧
  (∀ (place i sq : Nat) (bs : List Nat), sq < 65536 →
    (pageBytes place i sq (some bs)).length = 64 ∧ ofBytesLE ((pageBytes place i sq (some bs)).take 2) = sq ∧
    ofBytesLE (((pageBytes place i sq (some bs)).drop 2).take 2) % 1024 = i % 1024 ∧
    ((pageBytes place i sq (some bs)).drop 4).take 56 = (bs ++ List.replicate 56 0).take 56 ∧
    (pageBytes place i sq (some bs)).drop 60 = bytesLE 4 (crc32c ((pageBytes place i sq (some bs)).take 60))) ∧
  (∀ (i : Nat) (bs : List Nat) (m : Nat), m ≠ 0 ∨ (∀ b ∈ bs, b = 0xFF) → copyPasses i bs m = false) ∧
  (∀ (p w : Pair) (place i : Nat) (d : Option (List Nat)) (erasing : Bool) (id : Nat),
    p.a.seq < 65536 → p.b.seq < 65536 → w = (p.begin place i d).finish i →
    (w.newest i).bind Page.data = d ∧ (p.begin place i d).newest i = p.newest i ∧
    ((p.begin place i d).cut place i erasing id).newest i = p.newest i ∧
    (p.newestA i = some true → p.newest i = some p.a ∧ w.a = p.a ∧ ((p.begin place i d).cut place i erasing id).a = p.a ∧
      w.b = .whole ((p.a.seq + 1) % 65536) d) ∧
    (p.newestA i = some false → p.newest i = some p.b ∧ w.b = p.b ∧ ((p.begin place i d).cut place i erasing id).b = p.b ∧
      w.a = .whole ((p.b.seq + 1) % 65536) d) ∧
    (p.newestA i = none → p.newest i = none ∧ w.a = .whole 1 d ∧ w.b = p.b) ∧
    (p.a.valid i = true → p.b.valid i = true → (p.newestA i = some false ↔ newer p.b.seq p.a.seq = true)))

/-- R423 to R425: the value of a tally is its base plus its programmed bits; programming a bit adds one to it, and folding a full
field, the write of base and generation first and the erase of the field after it, leaves it and raises the generation. The
controller of a Cellar does exactly that, and an increment that still waits takes its turn again. A fold that stopped after its
base write is completed at power-up, and so is an increment whose bit is marginal. -/
def Obligations.Tallies : Prop :=
  (∀ f : FieldPage, f.torn = none → f.programmed = f.bits ∧ f.program.programmed = f.programmed + 1 ∧ f.program.gen = f.gen ∧
    f.agrees = true) ∧
  (∀ (c : Cellar) (i : Nat), c.busy ≠ some (.foldErase i) → c.tallyValue i = (c.base i).1 + (c.field i).programmed) ∧
  (∀ (c : Cellar) (t n i : Nat) (trims : List Nat), c.busy = some (.tally i) → (c.field i).torn = none →
    (c.stepDone t n trims).busy = none ∧ (c.stepDone t n trims).tallyValue i = c.tallyValue i + 1 ∧
    (∀ j, j ≠ i → (c.stepDone t n trims).tallyValue j = c.tallyValue j) ∧
    (c.stepDone t n trims).waiting.get 0 i = c.waiting.get 0 i - 1 ∧
    (c.waiting.get 0 i - 1 = 0 → (c.stepDone t n trims).queue = c.queue) ∧
    (c.waiting.get 0 i - 1 ≠ 0 → (c.stepDone t n trims).queue = .tally i :: c.queue)) ∧
  (∀ (c w x : Cellar) (t n i now : Nat) (trims : List Nat), i < 8 → (c.field i).programmed = 128 →
    c.busy = none → (c.pair (7 + i)).a.seq < 65536 → (c.pair (7 + i)).b.seq < 65536 →
    (c.base i).1 + 128 < 2 ^ 32 → w = c.take t n trims (.tally i) now → x = (w.stepDone t n trims).stepDone t n trims →
    w.tallyValue i = c.tallyValue i ∧ (w.stepDone t n trims).tallyValue i = c.tallyValue i ∧
    x.tallyValue i = c.tallyValue i ∧ (x.field i).programmed = 0 ∧ x.base i = ((c.base i).1 + 128, ((c.base i).2 + 1) % 65536) ∧
    (x.field i).gen = ((c.base i).2 + 1) % 65536) ∧
  (∀ (c : Cellar) (i : Nat) (marginal : Bool),
    ((c.field i).agrees = false ∨ ((c.field i).gen + 1) % 65536 = (c.base i).2 →
      ((c.recoverTally i marginal).1.field i) = { g := (c.base i).2 } ∧ (c.recoverTally i marginal).2 = true) ∧
    ((c.field i).torn = none → (c.field i).gen = (c.base i).2 → (c.base i).2 < 65536 →
      ((c.recoverTally i true).1.field i).programmed = (c.field i).programmed + 1 ∧ (c.recoverTally i true).2 = true ∧
      c.recoverTally i false = (c, false)))

/-- R389: the queue of a target never holds more than four reactions and stays ordered by severity, highest first; a reaction
that joins stands behind those of its severity or more and before the others; with the queue full it merges into the last
entry, which keeps the higher severity of the two. -/
def Obligations.ReactionQueue : Prop :=
  ∀ (q : List Reaction) (r : Reaction), q.length ≤ 4 → (q.map (·.sev)).Pairwise (· ≥ ·) →
    (enqueue q r).length ≤ 4 ∧ ((enqueue q r).map (·.sev)).Pairwise (· ≥ ·) ∧
    (q.length < 4 → enqueue q r = q.filter (fun x => decide (r.sev ≤ x.sev)) ++ [r] ++
      q.filter (fun x => decide (x.sev < r.sev))) ∧
    (∀ z, q.length = 4 → q.getLast? = some z → (enqueue q r).length = 4 ∧
      (enqueue q r).Perm ((if z.sev < r.sev then r else z) :: q.dropLast))

/-- R465, R466, R470: on a part that is not unkeyed, every access is checked against the protection class of its object: class O
passes; class S passes a read only on the channel that holds the session, and a write only there, with a tag that is the one
of R470, while the part is not locked; class F passes every read, and a write only while PROVISION is intact. A refused access
receives abort 0x0800_0020 and its reason is written to SEC_LAST_REJECT. Objects marked "O or S" follow READ_POLICY (R409),
and so do writes to REC_CURSOR (R401). -/
def Obligations.ProtectionClasses : Prop :=
  ∀ (s : State) (ch : Chan) (idx sub len v : Nat) (tag : Option Nat), s.unkeyed = false →
    (s.passRead .o ch idx sub = (s, none) ∧
      (idx ≠ 0x4481 ∨ sub ≠ 3 ∨ s.ob 0x4480 3 ≠ 1 → s.passWrite .o ch idx sub len v tag = (s, none)) ∧
      (s.ob 0x4480 3 = 1 → s.passWrite .o ch 0x4481 3 len v tag = s.passWrite .s ch 0x4481 3 len v tag)) ∧
    (s.passRead .f ch idx sub = (s, none)) ∧
    (s.sec.provision = false → s.passWrite .f ch idx sub len v tag = (s, none)) ∧
    (s.sec.provision = true → s.passWrite .f ch idx sub len v tag = (s.secReject 8 ch idx sub, some 0x08000020)) ∧
    ((s.passRead .s ch idx sub).2 = none ↔ ∃ slot ks, s.sec.openNow = some (chanBus ch, slot, ks)) ∧
    ((s.passWrite .s ch idx sub len v tag).2 = none ↔ s.sec.locked = false ∧
      ∃ slot ks, s.sec.openNow = some (chanBus ch, slot, ks) ∧ tag = some (tagOf ks s.sec.counter idx sub len v)) ∧
    ((s.passWrite .s ch idx sub len v tag).2 = none → (s.passWrite .s ch idx sub len v tag).1.sec.counter = s.sec.counter + 1) ∧
    (∀ p, (s.passRead p ch idx sub).2 ≠ none → (s.passRead p ch idx sub).2 = some 0x08000020 ∧
      (s.passRead p ch idx sub).1.sec.rejReason ≠ 0 ∧ (s.passRead p ch idx sub).1.sec.rejObject = okey idx sub ∧
      (s.passRead p ch idx sub).1.sec.rejChannel = chanCode ch) ∧
    (∀ p, (s.passWrite p ch idx sub len v tag).2 ≠ none → (s.passWrite p ch idx sub len v tag).2 = some 0x08000020 ∧
      (s.passWrite p ch idx sub len v tag).1.sec.rejReason ≠ 0 ∧
      (s.passWrite p ch idx sub len v tag).1.sec.rejObject = okey idx sub ∧
      (s.passWrite p ch idx sub len v tag).1.sec.rejChannel = chanCode ch) ∧
    (s.ob 0x4480 3 = 1 → s.passRead .os ch idx sub = s.passRead .s ch idx sub) ∧
    (s.ob 0x4480 3 ≠ 1 → s.passRead .os ch idx sub = (s, none))

/-- R492: a write that is served at once is checked in the order of the table, and the first check that fails gives the abort
code: an index that does not exist, a subindex that does not exist, a ro or const object, a path that the object does not
allow, the protection class and the policies of a provisioned part (R474), length or
range (with the failing subindex of an ENABLE write, R116), a block that is not stopped, and the rules of the object. -/
def Obligations.WriteChecks : Prop :=
  ∀ (s s1 s2 : State) (tg : Option Nat) (ch : Chan) (idx sub len v : Nat) (f : Fam) (i : Nat) (r : Row), s.served ch = true →
    s.spiBusy ch = false → s.clientBusy ch = false → s.mustWait (.write ch idx sub len v 0) = false → s.takeTag ch = (s1, tg) →
    (resolve s.T idx = none → exec (.objectWrite ch idx sub len v .whole) s = .next (s1.answer ch (.abort 0x06020000))) ∧
    (resolve s.T idx = some (f, i) → f.row sub = none → 0 < sub →
      exec (.objectWrite ch idx sub len v .whole) s = .next (s1.answer ch (.abort 0x06090011))) ∧
    (resolve s.T idx = some (f, i) → f.row sub = some r → f = .cellarTally → 8 * s.T < sub →
      exec (.objectWrite ch idx sub len v .whole) s = .next (s1.answer ch (.abort 0x06020000))) ∧
    (resolve s.T idx = some (f, i) → f.row sub = some r → (f = .cellarTally → sub ≤ 8 * s.T) →
      (r.acc = .ro ∨ r.acc = .const → exec (.objectWrite ch idx sub len v .whole) s = .next (s1.answer ch (.abort 0x06010002))) ∧
      (r.acc ≠ .ro → r.acc ≠ .const →
        (pathRefused f sub = true → exec (.objectWrite ch idx sub len v .whole) s = .next (s1.answer ch (.abort 0x06010000))) ∧
        (pathRefused f sub = false →
          (s1.passWrite r.prot ch idx sub len v tg = (s2, some 0x08000020) →
            exec (.objectWrite ch idx sub len v .whole) s = .next (s2.answer ch (.abort 0x08000020))) ∧
          (s1.passWrite r.prot ch idx sub len v tg = (s2, none) → s2.lowersPolicy f sub v = true →
            exec (.objectWrite ch idx sub len v .whole) s = .next ((s2.secReject 8 ch idx sub).answer ch (.abort 0x08000020))) ∧
          (s1.passWrite r.prot ch idx sub len v tg = (s2, none) → s2.lowersPolicy f sub v = false →
            (len ≠ r.bytes ∨ s2.rangeOk f i idx sub v r = false →
              exec (.objectWrite ch idx sub len v .whole) s =
                .next ((s2.enableDetail f i idx sub v).answer ch (.abort 0x06090030))) ∧
            (len = r.bytes → s2.rangeOk f i idx sub v r = true →
              (r.cls = .x → s2.stoppedOk f i sub v = false →
                exec (.objectWrite ch idx sub len v .whole) s = .next (s2.answer ch (.abort 0x08000022))) ∧
              ((r.cls = .x → s2.stoppedOk f i sub v = true) → s2.refused7 f i idx sub v r = true →
                exec (.objectWrite ch idx sub len v .whole) s = .next (s2.answer ch (.abort 0x08000000))))))))

/-- R75, R77: an accepted write of a class C object goes to its shadow alone: no active value of any object changes, nor any
loop, phase or rail. A read of a C object returns its active value; with the READ_SELECT entry of the channel at 1 it returns
the shadow value, and without a pending write the active value either way. -/
def Obligations.ShadowValues : Prop :=
  (∀ (s s1 : State) (ch : Chan) (idx sub len v : Nat) (f : Fam) (i : Nat) (r : Row),
    s.Admits s1 ch idx sub len v f i r → r.cls = .c →
    ∃ t, exec (.objectWrite ch idx sub len v .whole) s = .next t ∧ t.obj.pend = s1.obj.pend.set none (okey idx sub) (some v) ∧
      t.obj.act = s1.obj.act ∧ t.loops = s1.loops ∧ t.phases = s1.phases ∧ t.rails = s1.rails ∧ t.md = s1.md ∧ t.seq = s1.seq) ∧
  (∀ (s : State) (ch : Chan) (idx sub : Nat) (r : Row), r.cls = .c →
    (s.readShadow ch = false → s.stored ch idx sub r = s.ob idx sub) ∧
    (∀ v, s.readShadow ch = true → s.obj.pend.get none (okey idx sub) = some v → s.stored ch idx sub r = v) ∧
    (s.obj.pend.get none (okey idx sub) = none → s.obj.flight = none → s.stored ch idx sub r = s.ob idx sub) ∧
    (s.readShadow ch = true ↔ s.ob 0x2011 (5 + chanCode ch) = 1))

/-- R262, R266: the frame of the five GET opcodes of the lane: accepted, each leaves every object, phase, rail, comparator, link
value, record, key and Cellar as it is, changes nothing of any other loop or lane, and of its own loop only the lane's record
of it; device time goes on to the end of the transaction. -/
def Obligations.LaneGetFrame : Prop :=
  ∀ (s : State) (t k seq l v op : Nat) (c : Instr), s.LaneReady t k seq l op v →
    ((op = 5 ∧ c = .getStatus t k seq v) ∨ (op = 6 ∧ c = .getVout t k seq v) ∨ (op = 7 ∧ c = .getIout t k seq v) ∨
      (op = 8 ∧ c = .getTemp t k seq v) ∨ (op = 9 ∧ c = .getPower t k seq v)) →
    ∃ x, exec c s = .next x ∧ x.obj = s.obj ∧ x.md = s.md ∧ x.pins = s.pins ∧ x.phases = s.phases ∧ x.rails = s.rails ∧
      x.seq = s.seq ∧ x.tiles = s.tiles ∧ x.comps = s.comps ∧ x.ev = s.ev ∧ x.net = s.net ∧ x.srdo = s.srdo ∧ x.sec = s.sec ∧
      x.link = s.link ∧ x.cel = s.cel ∧ x.hists = s.hists ∧ x.caps = s.caps ∧ x.cal = s.cal ∧ x.diag = s.diag ∧
      x.pending = s.pending ∧ x.part = s.part ∧ (∀ u, u ≠ t → x.lane u = s.lane u) ∧ (∀ m, m ≠ l → x.loop m = s.loop m) ∧
      (x.loop l) = { s.loop l with ln := (x.loop l).ln } ∧ (x.loop l).ln.latch = (s.loop l).ln.latch ∧
      (x.loop l).ln.acceptedSets = (s.loop l).ln.acceptedSets ∧ s.now ≤ x.now
end

