-- ==== Sys2Proof/Laws/Bits.lean ====
section
/-! SUPPORT. Bits, bitmaps and bytes: what each helper reads and writes. -/

namespace Sys2Proof.Machine

/-- `bit` is the bit test of the library. -/
theorem bit_eq_testBit (v i : Nat) : bit v i = v.testBit i := by
  simp only [bit, Nat.testBit_eq_decide_div_mod_eq, beq_eq_decide]

@[simp] theorem bit_setBit (v i j : Nat) : bit (setBit v i) j = (bit v j || decide (i = j)) := by
  simp only [bit_eq_testBit, setBit, Nat.testBit_or, Nat.testBit_two_pow]

theorem bit_foldl_setBit (is : List Nat) (v j : Nat) : bit (is.foldl setBit v) j = (bit v j || is.contains j) := by
  induction is generalizing v with
  | nil => simp
  | cons i is ih =>
    rw [List.foldl_cons, ih, bit_setBit]
    by_cases h : i = j
    · simp [h]
    · simp [h, Ne.symm h]

@[simp] theorem bit_zero (j : Nat) : bit 0 j = false := by simp [bit]

/-- A bitmap has exactly the bits of its list. -/
@[simp] theorem bit_bitmap (is : List Nat) (j : Nat) : bit (bitmap is) j = is.contains j := by
  simp [bitmap, bit_foldl_setBit]

/-- The indices below `n` whose bit is set. -/
theorem mem_bitsOf (v n i : Nat) : i ∈ bitsOf v n ↔ i < n ∧ bit v i = true := by
  simp [bitsOf]

/-- A byte list has the length asked for. -/
@[simp] theorem bytesLE_length (n v : Nat) : (bytesLE n v).length = n := by simp [bytesLE]

end Sys2Proof.Machine
end

