-- ==== Sys2Proof/Laws/KeepsUnits.lean ====
section
/-! SUPPORT. What the operations of the units keep: the part number, the queue and the fuses. -/

namespace Sys2Proof.Machine

@[simp] theorem fixed_mk (a b c d e f g h i j k l m n o p q r t u v w x y z) :
    (State.mk a b c d e f g h i j k l m n o p q r t u v w x y z).fixed =
      (a, z, p.provisionCopies != 0, p.fieldCopies != 0) := rfl

@[simp] theorem fixed_fold (s : State) :
    (s.part, s.pending, s.sec.provisionCopies != 0, s.sec.fieldCopies != 0) = s.fixed := rfl

theorem fixed_ite (c : Prop) [Decidable c] (a b : State) :
    (if c then a else b).fixed = if c then a.fixed else b.fixed := by split <;> rfl

theorem fst_ite {α β} (c : Prop) [Decidable c] (a b : α × β) :
    (if c then a else b).1 = if c then a.1 else b.1 := by split <;> rfl

theorem foldl_fixed {α : Type} (f : State → α → State) (h : ∀ s a, (f s a).fixed = s.fixed) (l : List α) (s : State) :
    (l.foldl f s).fixed = s.fixed := by
  induction l generalizing s with
  | nil => rfl
  | cons a l ih => rw [List.foldl_cons, ih, h]

theorem State.Keeps.of_fixed {s t : State} (h : t.fixed = s.fixed) : s.Keeps t := by
  simp only [State.fixed, Prod.mk.injEq] at h
  obtain ⟨h1, h2, h3, h4⟩ := h
  exact ⟨h1, h2, by rw [h3]; exact id, by rw [h4]; exact id, by rw [State.fuseOrder, State.fuseOrder, h3, h4]; exact id⟩

theorem State.Keeps.refl (s : State) : s.Keeps s := .of_fixed rfl

theorem State.Keeps.trans {s t u : State} (h : s.Keeps t) (k : t.Keeps u) : s.Keeps u :=
  ⟨k.part.trans h.part, k.pending.trans h.pending, k.provision ∘ h.provision, k.field ∘ h.field, k.order ∘ h.order⟩

theorem State.Keeps.left {s t u : State} (h : s.Keeps t) (k : u.fixed = t.fixed) : s.Keeps u := h.trans (.of_fixed k)

theorem State.Keeps.right {s t u : State} (k : t.fixed = s.fixed) (h : t.Keeps u) :
    s.Keeps u := (State.Keeps.of_fixed k).trans h

theorem foldl_keeps {α : Type} (f : State → α → State) (h : ∀ (s : State) (a : α), s.Keeps (f s a)) (l : List α) (s : State) :
    s.Keeps (l.foldl f s) := by
  induction l generalizing s with
  | nil => exact .refl s
  | cons a l ih => exact (h s a).trans (ih _)

theorem fixed_part {s t : State} (h : s.fixed = t.fixed) : s.part = t.part := congrArg (·.1) h

@[simp] theorem State.updLoop_fixed (s : State) (l : Nat) (f : Loop → Loop) :
    (State.updLoop s l f).fixed = s.fixed := by
  simp [State.updLoop]

@[simp] theorem State.updPhase_fixed (s : State) (p : Nat) (f : Phase → Phase) :
    (State.updPhase s p f).fixed = s.fixed := by
  simp [State.updPhase]

@[simp] theorem State.updRail_fixed (s : State) (n : Nat) (f : Rail → Rail) :
    (State.updRail s n f).fixed = s.fixed := by
  simp [State.updRail]

@[simp] theorem State.updTile_fixed (s : State) (t : Nat) (f : Tile → Tile) :
    (State.updTile s t f).fixed = s.fixed := by
  simp [State.updTile]

@[simp] theorem State.updComp_fixed (s : State) (t c : Nat) (f : Comp → Comp) :
    (State.updComp s t c f).fixed = s.fixed := by
  simp [State.updComp]

@[simp] theorem State.updLane_fixed (s : State) (t : Nat) (f : Lane → Lane) :
    (State.updLane s t f).fixed = s.fixed := by
  simp [State.updLane]

@[simp] theorem State.updCellar_fixed (s : State) (t : Nat) (f : Cellar → Cellar) :
    (State.updCellar s t f).fixed = s.fixed := by
  simp [State.updCellar]

@[simp] theorem State.reach_fixed (s : State) (d : Nat) : (State.reach s d).fixed = s.fixed := by
  simp [State.reach]

@[simp] theorem State.put_fixed (s : State) (idx sub v : Nat) : (State.put s idx sub v).fixed = s.fixed := by
  simp [State.put]

@[simp] theorem State.report_fixed (s : State) (t src code sev inst : Nat) (data : List Nat) :
    (State.report s t src code sev inst data).fixed = s.fixed := by
  simp [State.report, fixed_ite]

@[simp] theorem State.loopReport_fixed (s : State) (src : Nat → Nat) (l code sev : Nat) (data : List Nat) :
    (State.loopReport s src l code sev data).fixed = s.fixed := by
  simp [State.loopReport]

@[simp] theorem State.railReport_fixed (s : State) (n code sev : Nat) (data : List Nat) :
    (State.railReport s n code sev data).fixed = s.fixed := by
  simp [State.railReport]

@[simp] theorem State.latch_fixed (s : State) (l b : Nat) : (State.latch s l b).fixed = s.fixed := by
  simp [State.latch, fixed_ite]

@[simp] theorem State.cellPage_fixed (s : State) (t pair : Nat) (data : Option (List Nat)) (obj : Nat) :
    (State.cellPage s t pair data obj).fixed = s.fixed := by
  unfold State.cellPage
  repeat' split
  all_goals simp [fixed_ite, foldl_fixed]

@[simp] theorem State.cellWrite_fixed (s : State) (t pair : Nat) (data : List (Nat × Nat)) (obj : Nat) :
    (State.cellWrite s t pair data obj).fixed = s.fixed := by
  simp [State.cellWrite]

@[simp] theorem State.whenKept_fixed (s : State) (t pair : Nat) (ch : Chan) :
    (State.whenKept s t pair ch).fixed = s.fixed := by
  unfold State.whenKept
  repeat' split
  all_goals simp [fixed_ite, foldl_fixed]

@[simp] theorem State.tally_fixed (s : State) (ts : List Nat) (i : Nat) : (State.tally s ts i).fixed = s.fixed := by
  simp [State.tally]

@[simp] theorem State.keepPair_fixed (s : State) (key : Nat) : (State.keepPair s key).fixed = s.fixed := by
  unfold State.keepPair
  repeat' split
  all_goals simp

@[simp] theorem State.keepTrims_fixed (s : State) (t : Nat) : (State.keepTrims s t).fixed = s.fixed := by
  simp [State.keepTrims]

@[simp] theorem State.passEntries_fixed (n : Nat) (s : State) (t at_ : Nat) :
    (State.passEntries n s t at_).fixed = s.fixed := by
  induction n generalizing s with
  | zero => rfl
  | succ n ih => simp [State.passEntries, fixed_ite, ih]

@[simp] theorem State.tablesAt_fixed (s : State) (t at_ : Nat) : (State.tablesAt s t at_).fixed = s.fixed := by
  simp [State.tablesAt]

@[simp] theorem State.triggerOne_fixed (s : State) (t kind at_ : Nat) (here : Nat → Bool) (v : Nat) :
    (State.triggerOne s t kind at_ here v).fixed = s.fixed := by
  simp [State.triggerOne, fixed_ite]

@[simp] theorem State.triggerAt_fixed (s : State) (t kind at_ : Nat) (here : Nat → Bool) :
    (State.triggerAt s t kind at_ here).fixed = s.fixed := by
  simp [State.triggerAt]

@[simp] theorem State.triggerTap_fixed (s : State) (t i at_ : Nat) : (State.triggerTap s t i at_).fixed = s.fixed := by
  simp [State.triggerTap]

@[simp] theorem State.swapTables_fixed (s old : State) (t : Nat) : (s.swapTables old t).fixed = s.fixed := by
  simp [State.swapTables]

@[simp] theorem State.restartTables_fixed (s : State) (t : Nat) : (State.restartTables s t).fixed = s.fixed := by
  simp [State.restartTables]

@[simp] theorem State.tap_fixed (s : State) (p ev at_ : Nat) : (State.tap s p ev at_).fixed = s.fixed := by
  simp [State.tap, fixed_ite, foldl_fixed]

@[simp] theorem State.flushTile_fixed (s : State) (t : Nat) : (State.flushTile s t).fixed = s.fixed := by
  simp [State.flushTile, fixed_ite, foldl_fixed]

@[simp] theorem State.flushTaps_fixed (s : State) (p : Nat) : (State.flushTaps s p).fixed = s.fixed := by
  simp [State.flushTaps]

@[simp] theorem State.noteEdgesAt_fixed (s : State) (ps : List Nat) (at_ : Nat) (now : Nat → Bool) :
    (State.noteEdgesAt s ps at_ now).fixed = s.fixed := by
  simp [State.noteEdgesAt]

@[simp] theorem State.noteEdges_fixed (s : State) (ps : List Nat) (now : Nat → Bool) :
    (State.noteEdges s ps now).fixed = s.fixed := by
  simp [State.noteEdges]

@[simp] theorem State.phasesOffAt_fixed (s : State) (ps : List Nat) (at_ : Nat) :
    (State.phasesOffAt s ps at_).fixed = s.fixed := by
  unfold State.phasesOffAt
  repeat' split
  all_goals simp [fixed_ite, foldl_fixed]

@[simp] theorem State.phasesOff_fixed (s : State) (ps : List Nat) : (State.phasesOff s ps).fixed = s.fixed := by
  simp [State.phasesOff, fixed_ite, foldl_fixed]

@[simp] theorem State.startPhases_fixed (s : State) (l n : Nat) : (State.startPhases s l n).fixed = s.fixed := by
  simp [State.startPhases]

@[simp] theorem State.restoreTrims_fixed (s : State) (l : Nat) : (State.restoreTrims s l).fixed = s.fixed := by
  simp [State.restoreTrims]

@[simp] theorem State.abortLearn_fixed (s : State) (l : Nat) : (State.abortLearn s l).fixed = s.fixed := by
  simp [State.abortLearn, fixed_ite]

@[simp] theorem State.levelRecord_fixed (s : State) (l : Nat) (old new : Int) (n : Nat) :
    (State.levelRecord s l old new n).fixed = s.fixed := by
  simp [State.levelRecord, fixed_ite]

@[simp] theorem State.endBurst_fixed (s : State) (l cause : Nat) : (State.endBurst s l cause).fixed = s.fixed := by
  simp [State.endBurst, fixed_ite]

@[simp] theorem State.recordEnded_fixed (s : State) (l rank : Nat) : (State.recordEnded s l rank).fixed = s.fixed := by
  simp [State.recordEnded, foldl_fixed]

@[simp] theorem State.plausStop_fixed (s : State) (l : Nat) : (State.plausStop s l).fixed = s.fixed := by
  simp [State.plausStop, fixed_ite]

@[simp] theorem State.loopOffAt_fixed (s : State) (l st at_ : Nat) :
    (State.loopOffAt s l st at_).fixed = s.fixed := by
  unfold State.loopOffAt
  repeat' split
  all_goals simp [fixed_ite, foldl_fixed]

@[simp] theorem State.loopOff_fixed (s : State) (l st : Nat) : (State.loopOff s l st).fixed = s.fixed := by
  simp [State.loopOff]

@[simp] theorem State.dictOwns_fixed (s : State) (t : Nat) : (State.dictOwns s t).fixed = s.fixed := by
  simp [State.dictOwns, fixed_ite, foldl_fixed]

@[simp] theorem State.ownersLook_fixed (s : State) :
    (State.ownersLook s).fixed = s.fixed := by
  unfold State.ownersLook
  repeat' split
  all_goals simp [fixed_ite, foldl_fixed]

@[simp] theorem State.softStart_fixed (s : State) (l : Nat) : (State.softStart s l).fixed = s.fixed := by
  simp [State.softStart]

@[simp] theorem State.softStop_fixed (s : State) (l : Nat) : (State.softStop s l).fixed = s.fixed := by
  simp [State.softStop, fixed_ite]

@[simp] theorem State.updTarget_fixed (s : State) (n : Nat) (f : Target → Target) :
    (State.updTarget s n f).fixed = s.fixed := by
  simp [State.updTarget]

@[simp] theorem State.begin_fixed (s : State) (n sev code : Nat) : (State.begin s n sev code).fixed = s.fixed := by
  simp [State.begin]

@[simp] theorem State.finish_fixed (s : State) (n : Nat) : (State.finish s n).fixed = s.fixed := by
  simp [State.finish]

@[simp] theorem State.endHiccup_fixed (s : State) (n : Nat) :
    (State.endHiccup s n).fixed = s.fixed := by
  unfold State.endHiccup
  repeat' split
  all_goals simp [fixed_ite, foldl_fixed]

@[simp] theorem State.queueReaction_fixed (s : State) (n sev code : Nat) :
    (State.queueReaction s n sev code).fixed = s.fixed := by
  simp [State.queueReaction]

@[simp] theorem State.dropped_fixed (s : State) (n code : Nat) : (State.dropped s n code).fixed = s.fixed := by
  unfold State.dropped
  repeat' split
  all_goals simp

@[simp] theorem State.flush_fixed (s : State) (n : Nat) : (State.flush s n).fixed = s.fixed := by
  simp [State.flush, foldl_fixed]

@[simp] theorem State.noteLine_fixed (s : State) : (State.noteLine s).fixed = s.fixed := by
  simp [State.noteLine]

@[simp] theorem State.failed_fixed (s : State) (rail st cause : Nat) :
    (State.failed s rail st cause).fixed = s.fixed := by
  simp [State.failed, fixed_ite]

@[simp] theorem State.railOn_fixed (s : State) (n : Nat) : (State.railOn s n).fixed = s.fixed := by
  unfold State.railOn
  repeat' split
  all_goals simp [fixed_ite]

@[simp] theorem State.railOff_fixed (s : State) (n st : Nat) : (State.railOff s n st).fixed = s.fixed := by
  unfold State.railOff
  repeat' split
  all_goals simp

@[simp] theorem State.keptOff_fixed (s : State) (n cause : Nat) :
    (State.keptOff s n cause).fixed = s.fixed := by
  unfold State.keptOff
  repeat' split
  all_goals simp [fixed_ite, foldl_fixed]

@[simp] theorem State.keepOff_fixed (s : State) (n cause : Nat) :
    (State.keepOff s n cause).fixed = s.fixed := by
  simp [State.keepOff, fixed_ite, foldl_fixed]

@[simp] theorem State.keepDependants_fixed (s : State) (n : Nat) : (State.keepDependants s n).fixed = s.fixed := by
  simp [State.keepDependants, foldl_fixed]

@[simp] theorem State.railEnds_fixed (s : State) (n : Nat) :
    (State.railEnds s n).fixed = s.fixed := by
  unfold State.railEnds
  repeat' split
  all_goals simp [fixed_ite, foldl_fixed]

@[simp] theorem State.failRail_fixed (s : State) (n cause code : Nat) (data : List Nat) :
    (State.failRail s n cause code data).fixed = s.fixed := by
  unfold State.failRail
  repeat' split
  all_goals simp

@[simp] theorem State.loopDown_fixed (s : State) (n : Nat) : (State.loopDown s n).fixed = s.fixed := by
  unfold State.loopDown
  repeat' split
  all_goals simp

@[simp] theorem State.enterMode_fixed (s : State) (m : Mode) (cause sub : Nat) :
    (State.enterMode s m cause sub).fixed = s.fixed := by
  simp [State.enterMode, fixed_ite, foldl_fixed]

@[simp] theorem State.startManual_fixed (s : State) : (State.startManual s).fixed = s.fixed := by
  simp [State.startManual]

@[simp] theorem State.stopManual_fixed (s : State) : (State.stopManual s).fixed = s.fixed := by
  simp [State.stopManual]

@[simp] theorem State.manualLook_fixed (s : State) : (State.manualLook s).fixed = s.fixed := by
  simp [State.manualLook]

@[simp] theorem State.seqStart_fixed (s : State) : (State.seqStart s).fixed = s.fixed := by
  simp [State.seqStart]

@[simp] theorem State.enterRun_fixed (s : State) (cause : Nat) : (State.enterRun s cause).fixed = s.fixed := by
  simp [State.enterRun]

@[simp] theorem State.seqRest_fixed (s : State) : (State.seqRest s).fixed = s.fixed := by
  simp [State.seqRest, fixed_ite, foldl_fixed]

@[simp] theorem State.leaveRun_fixed (s : State) (cause sub : Nat) : (State.leaveRun s cause sub).fixed = s.fixed := by
  simp [State.leaveRun]

@[simp] theorem State.atStateZero_fixed (s : State) : (State.atStateZero s).fixed = s.fixed := by
  unfold State.atStateZero
  repeat' split
  all_goals simp

@[simp] theorem State.offStart_fixed (s : State) : (State.offStart s).fixed = s.fixed := by
  simp [State.offStart]

@[simp] theorem State.waitAt_fixed (s : State) : (State.waitAt s).fixed = s.fixed := by
  simp [State.waitAt, fixed_ite]

@[simp] theorem State.stepTiles_fixed (s : State) :
    (State.stepTiles s).fixed = s.fixed := by
  unfold State.stepTiles
  repeat' split
  all_goals simp [fixed_ite, foldl_fixed]

@[simp] theorem State.seqStep_fixed (s : State) :
    (State.seqStep s).fixed = s.fixed := by
  unfold State.seqStep
  repeat' split
  all_goals simp [fixed_ite, foldl_fixed]

@[simp] theorem State.localSteps_fixed (s : State) (k : Nat) : (s.localSteps k).fixed = s.fixed := by
  induction k generalizing s with
  | zero => rfl
  | succ k ih => simp [State.localSteps, fixed_ite, ih]

@[simp] theorem State.progress_fixed (s : State) : (State.progress s).fixed = s.fixed := by
  simp [State.progress, fixed_ite]

@[simp] theorem State.turnDown_fixed (s : State) : (State.turnDown s).fixed = s.fixed := by
  simp [State.turnDown]

@[simp] theorem State.requestDown_fixed (s : State) (c : DownCause) : (State.requestDown s c).fixed = s.fixed := by
  simp [State.requestDown, fixed_ite]

@[simp] theorem State.requestStopSeq_fixed (s : State) : (State.requestStopSeq s).fixed = s.fixed := by
  simp [State.requestStopSeq]

@[simp] theorem State.retryRailOff_fixed (s : State) (n : Nat) : (State.retryRailOff s n).fixed = s.fixed := by
  simp [State.retryRailOff]

@[simp] theorem State.retryOff_fixed (s : State) (n : Nat) : (State.retryOff s n).fixed = s.fixed := by
  simp [State.retryOff, fixed_ite]

@[simp] theorem State.retry_fixed (s : State) (n : Nat) : (State.retry s n).fixed = s.fixed := by
  simp [State.retry, fixed_ite]

@[simp] theorem State.groupStep_fixed (s : State) (g : Nat) : (State.groupStep s g).fixed = s.fixed := by
  simp [State.groupStep, fixed_ite]

@[simp] theorem State.groupShutdown_fixed (s : State) (n : Nat) : (State.groupShutdown s n).fixed = s.fixed := by
  simp [State.groupShutdown, fixed_ite, foldl_fixed]

@[simp] theorem State.sysReset_fixed (s : State) (n : Nat) : (State.sysReset s n).fixed = s.fixed := by
  simp [State.sysReset, fixed_ite]

@[simp] theorem State.railReaction_fixed (s : State) (n : Nat) : (State.railReaction s n).fixed = s.fixed := by
  unfold State.railReaction
  repeat' split
  all_goals simp

@[simp] theorem State.railFault_fixed (s : State) (n cause : Nat) (direct : Bool) :
    (State.railFault s n cause direct).fixed = s.fixed := by
  unfold State.railFault
  repeat' split
  all_goals simp [fixed_ite, foldl_fixed]

@[simp] theorem State.railSafe_fixed (s : State) (l : Nat) : (State.railSafe s l).fixed = s.fixed := by
  simp [State.railSafe, fixed_ite]

@[simp] theorem State.toSafe_fixed (s : State) (l sev code : Nat) : (State.toSafe s l sev code).fixed = s.fixed := by
  simp [State.toSafe, fixed_ite]

@[simp] theorem State.moreLow_fixed (s : State) (l code : Nat) : (State.moreLow s l code).fixed = s.fixed := by
  simp [State.moreLow, fixed_ite]

@[simp] theorem State.enterSafe_fixed (s : State) (l sev code : Nat) :
    (State.enterSafe s l sev code).fixed = s.fixed := by
  simp [State.enterSafe, fixed_ite]

@[simp] theorem State.enterSafeAll_fixed (s : State) (ls : List Nat) (sev code : Nat) :
    (State.enterSafeAll s ls sev code).fixed = s.fixed := by
  simp [State.enterSafeAll, foldl_fixed]

@[simp] theorem State.enterHold_fixed (s : State) (tile code inst : Nat) :
    (State.enterHold s tile code inst).fixed = s.fixed := by
  simp [State.enterHold, fixed_ite]

@[simp] theorem State.dangerous_fixed (s : State) (ls : List Nat) (tile code inst : Nat) (always : Bool) :
    (State.dangerous s ls tile code inst always).fixed = s.fixed := by
  simp [State.dangerous, fixed_ite]

@[simp] theorem State.markResetOnly_fixed (s : State) : (State.markResetOnly s).fixed = s.fixed := by
  simp [State.markResetOnly]

@[simp] theorem State.failTile_fixed (s : State) (t cause : Nat) : (State.failTile s t cause).fixed = s.fixed := by
  simp [State.failTile]

@[simp] theorem State.loopFault_fixed (s : State) (n : Nat) : (State.loopFault s n).fixed = s.fixed := by
  simp [State.loopFault, fixed_ite]

@[simp] theorem State.latchOff_fixed (s : State) (l : Nat) : (State.latchOff s l).fixed = s.fixed := by
  simp [State.latchOff, fixed_ite]

@[simp] theorem State.hiccupOff_fixed (s : State) (l p : Nat) (queued : Bool) :
    (State.hiccupOff s l p queued).fixed = s.fixed := by
  simp [State.hiccupOff, fixed_ite, foldl_fixed]

@[simp] theorem State.hiccup_fixed (s : State) (l p : Nat) (queued : Bool) :
    (State.hiccup s l p queued).fixed = s.fixed := by
  simp [State.hiccup, fixed_ite]

@[simp] theorem State.otShutdown_fixed (s : State) (l : Nat) : (State.otShutdown s l).fixed = s.fixed := by
  simp [State.otShutdown, fixed_ite]

@[simp] theorem State.startReaction_fixed (s : State) (n : Nat) (r : Reaction) :
    (State.startReaction s n r).fixed = s.fixed := by
  unfold State.startReaction
  repeat' split
  all_goals simp

@[simp] theorem State.takeQueued_fixed (s : State) (n : Nat) (qs : List Reaction) :
    (s.takeQueued n qs).fixed = s.fixed := by
  induction qs generalizing s with
  | nil => simp [State.takeQueued]
  | cons r qs ih => simp [State.takeQueued, fixed_ite, ih]

@[simp] theorem State.histValue_fixed (s : State) (ts : List Nat) (src inst : Nat) (v : Int) :
    (State.histValue s ts src inst v).fixed = s.fixed := by
  simp [State.histValue]

@[simp] theorem State.histFrameEnd_fixed (s : State) : (State.histFrameEnd s).fixed = s.fixed := by
  simp [State.histFrameEnd]

@[simp] theorem State.acceptRecords_fixed (s : State) (l v src : Nat) (sup : Bool) :
    (State.acceptRecords s l v src sup).fixed = s.fixed := by
  simp [State.acceptRecords, fixed_ite]

@[simp] theorem State.acceptTarget_fixed (s : State) (l v src : Nat) :
    (State.acceptTarget s l v src).fixed = s.fixed := by
  simp [State.acceptTarget, fixed_ite]

@[simp] theorem State.reached_fixed (s : State) (l : Nat) : (State.reached s l).fixed = s.fixed := by
  simp [State.reached]

@[simp] theorem State.overtake_fixed (s : State) (l by_ : Nat) : (State.overtake s l by_).fixed = s.fixed := by
  simp [State.overtake, fixed_ite]

@[simp] theorem State.actTile_fixed (s : State) (kind : Nat) (ps : List Nat) (at_ : Nat) :
    (State.actTile s kind ps at_).fixed = s.fixed := by
  simp [State.actTile]

@[simp] theorem State.actOn_fixed (s : State) (l kind : Nat) : (State.actOn s l kind).fixed = s.fixed := by
  simp [State.actOn, fixed_ite, foldl_fixed]

@[simp] theorem State.beginAction_fixed (s : State) (l kind trig : Nat) (ut : Int) :
    (State.beginAction s l kind trig ut).fixed = s.fixed := by
  simp [State.beginAction]

@[simp] theorem State.canopyTrigger_fixed (s : State) (l trig : Nat) (ut : Int) :
    (State.canopyTrigger s l trig ut).fixed = s.fixed := by
  simp [State.canopyTrigger, fixed_ite]

@[simp] theorem State.releaseTile_fixed (s : State) (ps : List Nat) (at_ : Nat) :
    (State.releaseTile s ps at_).fixed = s.fixed := by
  simp [State.releaseTile]

@[simp] theorem State.releaseAction_fixed (s : State) (l : Nat) : (State.releaseAction s l).fixed = s.fixed := by
  simp [State.releaseAction, fixed_ite, foldl_fixed]

@[simp] theorem State.setLevels_fixed (s : State) (l : Nat) :
    (State.setLevels s l).fixed = s.fixed := by
  unfold State.setLevels
  repeat' split
  all_goals simp [fixed_ite, foldl_fixed]

@[simp] theorem State.senseLoop_fixed (s : State) (l : Nat) (c : Conv) : (State.senseLoop s l c).fixed = s.fixed := by
  simp [State.senseLoop, fixed_ite]

@[simp] theorem State.dischargeEnd_fixed (s : State) (l : Nat) : (State.dischargeEnd s l).fixed = s.fixed := by
  simp [State.dischargeEnd, fixed_ite]

@[simp] theorem State.advanceRef_fixed (s : State) (l : Nat) : (State.advanceRef s l).fixed = s.fixed := by
  unfold State.advanceRef
  repeat' split
  all_goals simp [fixed_ite]

@[simp] theorem State.enterRegulating_fixed (s : State) (l : Nat) : (State.enterRegulating s l).fixed = s.fixed := by
  simp only [State.enterRegulating]
  repeat' split
  all_goals simp

@[simp] theorem State.softStopEnd_fixed (s : State) (l : Nat) : (State.softStopEnd s l).fixed = s.fixed := by
  simp [State.softStopEnd]

@[simp] theorem State.holdEnds_fixed (s : State) (l : Nat) : (State.holdEnds s l).fixed = s.fixed := by
  simp [State.holdEnds, fixed_ite]

@[simp] theorem State.refArrived_fixed (s : State) (l : Nat) : (State.refArrived s l).fixed = s.fixed := by
  simp [State.refArrived, fixed_ite]

@[simp] theorem State.wakeLoop_fixed (s : State) (l : Nat) : (State.wakeLoop s l).fixed = s.fixed := by
  simp [State.wakeLoop, fixed_ite]

@[simp] theorem State.sampleWake_fixed (s : State) (l : Nat) : (State.sampleWake s l).fixed = s.fixed := by
  simp [State.sampleWake, fixed_ite]

@[simp] theorem State.sampleActions_fixed (s : State) (l : Nat) : (State.sampleActions s l).fixed = s.fixed := by
  simp only [State.sampleActions]
  repeat' split
  all_goals simp

@[simp] theorem State.noteError_fixed (s : State) (l : Nat) :
    (State.noteError s l).fixed = s.fixed := by
  unfold State.noteError
  repeat' split
  all_goals simp [fixed_ite, foldl_fixed]

@[simp] theorem State.computeLoop_fixed (s : State) (l n : Nat) : (State.computeLoop s l n).fixed = s.fixed := by
  simp [State.computeLoop, fixed_ite]

@[simp] theorem State.uvLook_fixed (s : State) (l : Nat) : (State.uvLook s l).fixed = s.fixed := by
  simp [State.uvLook, fixed_ite]

@[simp] theorem State.recoverySample_fixed (s : State) (l : Nat) : (State.recoverySample s l).fixed = s.fixed := by
  simp [State.recoverySample, fixed_ite, foldl_fixed]

@[simp] theorem State.sampleValues_fixed (s : State) (l : Nat) (computed : Bool) :
    (State.sampleValues s l computed).fixed = s.fixed := by
  simp [State.sampleValues, fixed_ite]

@[simp] theorem State.hashAct_fixed (s : State) (l : Nat) : (State.hashAct s l).fixed = s.fixed := by
  simp [State.hashAct]

@[simp] theorem State.sampleLoop_fixed (s : State) (cs : List Conv) (n l : Nat) :
    (State.sampleLoop s cs n l).fixed = s.fixed := by
  simp [State.sampleLoop]

@[simp] theorem State.cutPhase_fixed (s : State) (p : Nat) (oc : Bool) : (State.cutPhase s p oc).fixed = s.fixed := by
  simp [State.cutPhase]

@[simp] theorem State.tripOffSet_fixed (s : State) (ps : List Nat) (b : Nat) :
    (State.tripOffSet s ps b).fixed = s.fixed := by
  simp [State.tripOffSet, fixed_ite, foldl_fixed]

@[simp] theorem State.tripOffClear_fixed (s : State) (ps : List Nat) (b : Nat) :
    (State.tripOffClear s ps b).fixed = s.fixed := by
  simp [State.tripOffClear]

@[simp] theorem State.applyCount_fixed (s : State) (l n : Nat) (th : Option Nat) (b : Nat) :
    (State.applyCount s l n th b).fixed = s.fixed := by
  simp [State.applyCount]

@[simp] theorem State.applyDue_fixed (s : State) (l : Nat) : (State.applyDue s l).fixed = s.fixed := by
  simp only [State.applyDue]
  repeat' split
  all_goals simp

@[simp] theorem State.setLevel_fixed (s : State) (l : Nat) (lam : Int) (th : Option Nat) (shed : Bool) :
    (State.setLevel s l lam th shed).fixed = s.fixed := by
  simp [State.setLevel]

@[simp] theorem State.levelLook_fixed (s : State) (l : Nat) : (State.levelLook s l).fixed = s.fixed := by
  simp [State.levelLook, fixed_ite]

@[simp] theorem State.countMark_fixed (s : State) (l : Nat) (th : Option Nat) :
    (State.countMark s l th).fixed = s.fixed := by
  unfold State.countMark
  repeat' split
  all_goals simp

@[simp] theorem State.respreadNow_fixed (s : State) (l : Nat) : (State.respreadNow s l).fixed = s.fixed := by
  simp [State.respreadNow, fixed_ite]

@[simp] theorem State.decideCount_fixed (s : State) (l n : Nat) (th : Option Nat) :
    (State.decideCount s l n th).fixed = s.fixed := by
  simp [State.decideCount]

@[simp] theorem State.populate_fixed (s : State) (l : Nat) : (State.populate s l).fixed = s.fixed := by
  simp [State.populate, fixed_ite]

@[simp] theorem State.shareLoop_fixed (s : State) (l : Nat) : (State.shareLoop s l).fixed = s.fixed := by
  simp only [State.shareLoop]
  repeat' (first | split | (simp; done) | (refine foldl_fixed _ (fun s a => ?_) _ _) | (refine (foldl_fixed _ (fun s a => ?_) _ _).trans ?_))

@[simp] theorem State.startLearn_fixed (s : State) (l : Nat) : (State.startLearn s l).fixed = s.fixed := by
  simp [State.startLearn]

@[simp] theorem State.learnFrame_fixed (s : State) (l : Nat) : (State.learnFrame s l).fixed = s.fixed := by
  simp [State.learnFrame, fixed_ite]

@[simp] theorem State.learnIteration_fixed (s : State) (l : Nat) : (State.learnIteration s l).fixed = s.fixed := by
  simp [State.learnIteration, fixed_ite, foldl_fixed]

@[simp] theorem State.burstFrame_fixed (s : State) (l : Nat) : (State.burstFrame s l).fixed = s.fixed := by
  simp [State.burstFrame]

@[simp] theorem State.beginBurst_fixed (s : State) (l : Nat) :
    (State.beginBurst s l).fixed = s.fixed := by
  simp [State.beginBurst]

@[simp] theorem State.burstForbidden_fixed (s : State) (l : Nat) : (State.burstForbidden s l).fixed = s.fixed := by
  simp [State.burstForbidden, fixed_ite]

@[simp] theorem State.consume_fixed (s : State) (l : Nat) : (State.consume s l).fixed = s.fixed := by
  simp [State.consume]

@[simp] theorem State.firePreview_fixed (s : State) (l : Nat) (p : Preview) :
    (State.firePreview s l p).fixed = s.fixed := by
  simp [State.firePreview]

@[simp] theorem State.captureEdge_fixed (s : State) (t c : Nat) (active : Bool) :
    (State.captureEdge s t c active).fixed = s.fixed := by
  simp [State.captureEdge, fixed_ite, foldl_fixed]

@[simp] theorem State.routeEdge_fixed (s : State) (t c : Nat) (active : Bool) :
    (State.routeEdge s t c active).fixed = s.fixed := by
  simp [State.routeEdge, fixed_ite]

@[simp] theorem State.wakeRises_fixed (s : State) (t : Nat) (was : Bool) :
    (State.wakeRises s t was).fixed = s.fixed := by
  unfold State.wakeRises
  repeat' split
  all_goals simp [fixed_ite, foldl_fixed]

@[simp] theorem State.railLook_fixed (s : State) (n : Nat) : (State.railLook s n).fixed = s.fixed := by
  simp [State.railLook, fixed_ite]

@[simp] theorem State.overvoltage_fixed (s : State) (t k : Nat) : (State.overvoltage s t k).fixed = s.fixed := by
  unfold State.overvoltage
  repeat' split
  all_goals simp

@[simp] theorem State.plausLook_fixed (s : State) (t j : Nat) : (State.plausLook s t j).fixed = s.fixed := by
  unfold State.plausLook
  repeat' split
  all_goals simp

@[simp] theorem State.compLook_fixed (s : State) (t c : Nat) : (State.compLook s t c).fixed = s.fixed := by
  unfold State.compLook
  repeat' split
  all_goals simp

@[simp] theorem State.activate_fixed (s : State) (t c : Nat) : (State.activate s t c).fixed = s.fixed := by
  simp [State.activate, fixed_ite]

@[simp] theorem State.abortLearnOf_fixed (s : State) (p : Nat) : (State.abortLearnOf s p).fixed = s.fixed := by
  unfold State.abortLearnOf
  repeat' split
  all_goals simp

@[simp] theorem State.ocTruncate_fixed (s : State) (p : Nat) : (State.ocTruncate s p).fixed = s.fixed := by
  unfold State.ocTruncate
  repeat' split
  all_goals simp [fixed_ite]

@[simp] theorem State.compActs_fixed (s : State) (t c : Nat) : (State.compActs s t c).fixed = s.fixed := by
  unfold State.compActs
  repeat' split
  all_goals simp [fixed_ite]

@[simp] theorem State.firstEval_fixed (s : State) (t c : Nat) : (State.firstEval s t c).fixed = s.fixed := by
  simp [State.firstEval, fixed_ite]

@[simp] theorem State.settle_fixed (s : State) (t c mode : Nat) : (State.settle s t c mode).fixed = s.fixed := by
  simp [State.settle]

@[simp] theorem State.unmanage_fixed (s : State) (t c : Nat) : (State.unmanage s t c).fixed = s.fixed := by
  simp [State.unmanage, fixed_ite]

@[simp] theorem State.plausFree_fixed (s : State) (t c : Nat) :
    (State.plausFree s t c).fixed = s.fixed := by
  unfold State.plausFree
  split
  · simp
  · rfl

@[simp] theorem State.holdLook_fixed (s : State) : (State.holdLook s).fixed = s.fixed := by
  simp [State.holdLook, fixed_ite, foldl_fixed]

@[simp] theorem State.release_fixed (s : State) (t c : Nat) : (State.release s t c).fixed = s.fixed := by
  simp [State.release]

@[simp] theorem State.manage_fixed (s : State) (t c m v : Nat) : (State.manage s t c m v).fixed = s.fixed := by
  simp [State.manage, fixed_ite]

@[simp] theorem State.manageLoop_fixed (s : State) (l : Nat) : (State.manageLoop s l).fixed = s.fixed := by
  simp [State.manageLoop, fixed_ite]

@[simp] theorem State.returnLoop_fixed (s : State) (l : Nat) : (State.returnLoop s l).fixed = s.fixed := by
  simp [State.returnLoop, fixed_ite]

@[simp] theorem State.plausFrame_fixed (s : State) (l : Nat) : (State.plausFrame s l).fixed = s.fixed := by
  simp [State.plausFrame, fixed_ite]

@[simp] theorem State.captureSample_fixed (s : State) (t : Nat) : (State.captureSample s t).fixed = s.fixed := by
  simp only [State.captureSample]
  repeat' split
  all_goals simp

@[simp] theorem State.arm_fixed (s : State) (t slot : Nat) : (State.arm s t slot).fixed = s.fixed := by
  simp [State.arm]

@[simp] theorem State.captureTrigger_fixed (s : State) (t code inst time : Nat) :
    (State.captureTrigger s t code inst time).fixed = s.fixed := by
  simp [State.captureTrigger, fixed_ite]

@[simp] theorem State.captureDone_fixed (s : State) (t : Nat) (p : Nat) :
    (State.captureDone s t p).fixed = s.fixed := by
  simp [State.captureDone]

@[simp] theorem State.putOn_fixed (s : State) (key v tiles : Nat) : (State.putOn s key v tiles).fixed = s.fixed := by
  simp [State.putOn]

@[simp] theorem State.restartTap_fixed (s : State) (key : Nat) : (State.restartTap s key).fixed = s.fixed := by
  unfold State.restartTap
  repeat' split
  all_goals simp

@[simp] theorem State.activate1_fixed (s : State) (e : Late) : (State.activate1 s e).fixed = s.fixed := by
  simp [State.activate1]

@[simp] theorem State.endFlight_fixed (s : State) (frame res : Nat) :
    (State.endFlight s frame res).fixed = s.fixed := by
  simp [State.endFlight]

@[simp] theorem State.phasesSwapped_fixed (s : State) (done : List Nat) :
    (State.phasesSwapped s done).fixed = s.fixed := by
  unfold State.phasesSwapped
  try dsimp only
  repeat' split
  all_goals first
    | rfl
    | (simp [fixed_ite, fst_ite, foldl_fixed]; done)

@[simp] theorem State.swapValues_fixed (s : State) (fl : Flight) (missed : Nat) :
    (State.swapValues s fl missed).fixed = s.fixed := by
  simp [State.swapValues, fixed_ite, foldl_fixed]

@[simp] theorem State.limitTarget_fixed (s : State) (l : Nat) : (State.limitTarget s l).fixed = s.fixed := by
  simp [State.limitTarget, fixed_ite]

@[simp] theorem State.respread_fixed (s : State) (l : Nat) : (State.respread s l).fixed = s.fixed := by
  simp [State.respread, fixed_ite]

@[simp] theorem State.tablesSwapped_fixed (s s0 : State) (t : Nat) : (s.tablesSwapped s0 t).fixed = s.fixed := by
  simp [State.tablesSwapped, fixed_ite]

@[simp] theorem State.afterSwap_fixed (s0 : State) (s : State) (e : Nat × Nat) :
    (State.afterSwap s0 s e).fixed = s.fixed := by
  unfold State.afterSwap
  repeat' split
  all_goals simp [fixed_ite, foldl_fixed]

@[simp] theorem State.swapStopped_fixed (s : State) (es : List (Nat × Nat)) :
    (State.swapStopped s es).fixed = s.fixed := by
  simp [State.swapStopped]

@[simp] theorem State.commitRecord_fixed (s : State) (tiles res : Nat) :
    (State.commitRecord s tiles res).fixed = s.fixed := by
  simp [State.commitRecord]

@[simp] theorem State.commitApply_fixed (s : State) (fl : Flight) : (State.commitApply s fl).fixed = s.fixed := by
  simp [State.commitApply, fixed_ite, foldl_fixed]

@[simp] theorem State.commitFrame_fixed (s : State) : (State.commitFrame s).fixed = s.fixed := by
  unfold State.commitFrame
  repeat' split
  all_goals simp

@[simp] theorem State.ringWrite_fixed (s : State) (x : Rec) (r : Nat) : (State.ringWrite s x r).fixed = s.fixed := by
  unfold State.ringWrite
  split
  · dsimp only
    split
    · rw [State.report_fixed, fixed_mk, fixed_fold, foldl_fixed _ (fun s a => State.histValue_fixed _ _ _ _ _), fixed_mk]
      rfl
    · rw [foldl_fixed _ (fun s a => State.histValue_fixed _ _ _ _ _), fixed_mk]
      rfl
  · rfl

@[simp] theorem State.ringAdvance_fixed (s : State) (r n : Nat) : (State.ringAdvance s r n).fixed = s.fixed := by
  simp [State.ringAdvance]

@[simp] theorem State.setPosition_fixed (s : State) (n : Nat) : (State.setPosition s n).fixed = s.fixed := by
  simp [State.setPosition]

@[simp] theorem State.setView_fixed (s : State) (v : Nat) : (State.setView s v).fixed = s.fixed := by
  simp [State.setView]

@[simp] theorem State.readWindow_fixed (s : State) : (State.readWindow s).1.fixed = s.fixed := by
  simp [State.readWindow, fixed_ite]

@[simp] theorem State.writeRec_fixed (s : State) (t src : Nat) (e : Entry) :
    (State.writeRec s t src e).fixed = s.fixed := by
  simp [State.writeRec, fixed_ite, foldl_fixed]

@[simp] theorem State.writeAtTime_fixed (s : State) (t src : Nat) (e : Entry) :
    (State.writeAtTime s t src e).fixed = s.fixed := by
  simp [State.writeAtTime]

@[simp] theorem State.writeNext_fixed (s : State) (t : Nat) : (State.writeNext s t).fixed = s.fixed := by
  unfold State.writeNext
  repeat' split
  all_goals simp [fixed_ite]

@[simp] theorem State.drain_fixed (s : State) (t k : Nat) : (s.drain t k).fixed = s.fixed := by
  induction k generalizing s with
  | zero => rfl
  | succ k ih => simp [State.drain, fixed_ite, ih]

@[simp] theorem State.emcyOut_fixed (s : State) (c : CanChan) (code reg : Nat) (r : Option Rec) :
    (State.emcyOut s c code reg r).fixed = s.fixed := by
  unfold State.emcyOut
  repeat' split
  all_goals simp [fixed_ite]

@[simp] theorem State.emcyAll_fixed (s : State) (code reg : Nat) (r : Option Rec) :
    (State.emcyAll s code reg r).fixed = s.fixed := by
  simp [State.emcyAll]

@[simp] theorem State.forwarded_fixed (s : State) (r : Rec) : (State.forwarded s r).fixed = s.fixed := by
  simp [State.forwarded, fixed_ite]

@[simp] theorem State.alertLook_fixed (s : State) : (State.alertLook s).fixed = s.fixed := by
  simp [State.alertLook, fixed_ite]

@[simp] theorem State.telemFrame_fixed (s : State) (l : Nat) : (State.telemFrame s l).fixed = s.fixed := by
  simp [State.telemFrame, fixed_ite]

@[simp] theorem State.checkerTile_fixed (s : State) (l t fails max_ : Nat) :
    (State.checkerTile s l t fails max_).fixed = s.fixed := by
  simp [State.checkerTile, fixed_ite]

@[simp] theorem State.checkerFrame_fixed (s : State) (l : Nat) : (State.checkerFrame s l).fixed = s.fixed := by
  simp [State.checkerFrame, foldl_fixed]

@[simp] theorem State.takeSlots_fixed (s : State) (l : Nat) : (State.takeSlots s l).fixed = s.fixed := by
  simp [State.takeSlots]

@[simp] theorem State.latchHashes_fixed (s : State) : (State.latchHashes s).fixed = s.fixed := by
  simp [State.latchHashes]

@[simp] theorem State.otReact_fixed (s : State) (l : Nat) : (State.otReact s l).fixed = s.fixed := by
  simp [State.otReact, fixed_ite]

@[simp] theorem State.otFrame_fixed (s : State) (l : Nat) : (State.otFrame s l).fixed = s.fixed := by
  simp [State.otFrame, fixed_ite]

@[simp] theorem State.staleFrame_fixed (s : State) (l : Nat) : (State.staleFrame s l).fixed = s.fixed := by
  simp [State.staleFrame]

@[simp] theorem State.lostFrame_fixed (s : State) (l : Nat) : (State.lostFrame s l).fixed = s.fixed := by
  simp [State.lostFrame, fixed_ite]

@[simp] theorem State.mismatchFrame_fixed (s : State) (l : Nat) : (State.mismatchFrame s l).fixed = s.fixed := by
  simp [State.mismatchFrame]

@[simp] theorem State.levelsFrame_fixed (s : State) (l : Nat) : (State.levelsFrame s l).fixed = s.fixed := by
  simp [State.levelsFrame, fixed_ite]

@[simp] theorem State.settleTick_fixed (s : State) (n : Nat) : (State.settleTick s n).fixed = s.fixed := by
  unfold State.settleTick
  try dsimp only
  repeat' split
  all_goals first
    | rfl
    | (simp [fixed_ite, fst_ite, foldl_fixed]; done)

@[simp] theorem State.seqTick_fixed (s : State) : (State.seqTick s).fixed = s.fixed := by
  simp [State.seqTick, foldl_fixed]

@[simp] theorem State.reloadPhases_fixed (s : State) : (State.reloadPhases s).fixed = s.fixed := by
  simp [State.reloadPhases]

@[simp] theorem State.hourFrame_fixed (s : State) : (State.hourFrame s).fixed = s.fixed := by
  simp [State.hourFrame, fixed_ite]

@[simp] theorem State.faultFrame_fixed (s : State) : (State.faultFrame s).fixed = s.fixed := by
  simp [State.faultFrame, fixed_ite]

@[simp] theorem State.loopFrameEnd_fixed (s : State) (l : Nat) : (State.loopFrameEnd s l).fixed = s.fixed := by
  simp [State.loopFrameEnd]

@[simp] theorem State.loopFrameStart_fixed (s : State) (l : Nat) : (State.loopFrameStart s l).fixed = s.fixed := by
  simp [State.loopFrameStart]

@[simp] theorem State.idleLoops_fixed (s : State) (ls : List Nat) : (State.idleLoops s ls).fixed = s.fixed := by
  simp [State.idleLoops, fixed_ite, foldl_fixed]

@[simp] theorem State.frameWork_fixed (s : State) : (State.frameWork s).fixed = s.fixed := by
  simp [State.frameWork, foldl_fixed]

end Sys2Proof.Machine
end

