-- ==== Sys2Proof/Laws/KeepsDictionary.lean ====
section
/-! SUPPORT. What modes, security and the dictionary keep: the part number, the queue and, but for the fuse
commands, the fuses. -/

namespace Sys2Proof.Machine

@[simp] theorem State.withShadow_fixed (s : State) : (State.withShadow s).fixed = s.fixed := by
  simp [State.withShadow]

@[simp] theorem State.supposing_fixed (s : State) (cls : Cls) (idx sub v : Nat) :
    (State.supposing s cls idx sub v).fixed = s.fixed := by
  simp [State.supposing, fixed_ite]

@[simp] theorem State.resetRing_fixed (s : State) (r : Nat) : (State.resetRing s r).fixed = s.fixed := by
  unfold State.resetRing
  rw [fixed_mk, fixed_fold]

@[simp] theorem State.srdoInvalid_fixed (s : State) : (State.srdoInvalid s).fixed = s.fixed := by
  simp [State.srdoInvalid]

@[simp] theorem State.laneStops_fixed (s : State) (t : Nat) : (State.laneStops s t).fixed = s.fixed := by
  simp [State.laneStops]

@[simp] theorem State.updTpdo_fixed (s : State) (n : Nat) (f : Tpdo → Tpdo) :
    (State.updTpdo s n f).fixed = s.fixed := by
  simp [State.updTpdo]

@[simp] theorem State.dropStream_fixed (s : State) (n : Nat) :
    (State.dropStream s n).fixed = s.fixed := by
  unfold State.dropStream
  repeat' split
  all_goals simp [fixed_ite, foldl_fixed]

@[simp] theorem State.dropStreams_fixed (s : State) (r : Nat) :
    (State.dropStreams s r).fixed = s.fixed := by
  unfold State.dropStreams
  repeat' split
  all_goals simp [fixed_ite, foldl_fixed]

@[simp] theorem State.afterX_fixed (s : State) (f : Fam) (i sub : Nat) : (State.afterX s f i sub).fixed = s.fixed := by
  unfold State.afterX
  repeat' split
  all_goals simp [foldl_fixed]

@[simp] theorem State.startStore_fixed (s : State) (cause : Nat) : (State.startStore s cause).fixed = s.fixed := by
  simp [State.startStore, fixed_ite]

@[simp] theorem State.endStore_fixed (s : State) (vholdMv : Nat) : (State.endStore s vholdMv).fixed = s.fixed := by
  simp [State.endStore, fixed_ite]

@[simp] theorem State.cellStart_fixed (s : State) (t : Nat) : (State.cellStart s t).fixed = s.fixed := by
  simp only [State.cellStart]
  repeat' split
  all_goals simp

@[simp] theorem State.snapshotSet_fixed (s : State) : (State.snapshotSet s).fixed = s.fixed := by
  simp [State.snapshotSet, fixed_ite, foldl_fixed]

@[simp] theorem State.completeSave_fixed (s : State) : (State.completeSave s).fixed = s.fixed := by
  simp [State.completeSave, fixed_ite, foldl_fixed]

@[simp] theorem State.loadTrims_fixed (s : State) : (State.loadTrims s).fixed = s.fixed := by
  simp [State.loadTrims]

@[simp] theorem State.loadValues_fixed (s : State) (n : Nat) :
    (State.loadValues s n).fixed = s.fixed := by
  unfold State.loadValues
  repeat' split
  all_goals simp [fixed_ite, foldl_fixed]

@[simp] theorem State.noSetRecord_fixed (s : State) (n : Nat) :
    (State.noSetRecord s n).fixed = s.fixed := by
  unfold State.noSetRecord
  repeat' split
  all_goals simp [fixed_ite, foldl_fixed]

@[simp] theorem State.loadSet_fixed (s : State) (n : Nat) : (State.loadSet s n).fixed = s.fixed := by
  simp [State.loadSet, fixed_ite]

@[simp] theorem State.afterLoad_fixed (s0 s : State) (k : Nat) : (State.afterLoad s0 s k).fixed = s.fixed := by
  unfold State.afterLoad
  repeat' split
  all_goals simp

@[simp] theorem State.restoreSet_fixed (s : State) (n : Nat) : (State.restoreSet s n).fixed = s.fixed := by
  unfold State.restoreSet
  try dsimp only
  repeat' split
  all_goals first
    | rfl
    | (simp [fixed_ite, fst_ite, foldl_fixed]; done)

@[simp] theorem State.pairDefault_fixed (s : State) (t i : Nat) : (State.pairDefault s t i).fixed = s.fixed := by
  simp [State.pairDefault, fixed_ite]

@[simp] theorem State.scrubPair_fixed (s : State) (t i : Nat) : (State.scrubPair s t i).fixed = s.fixed := by
  simp only [State.scrubPair]
  repeat' split
  all_goals simp

@[simp] theorem State.scrubTile_fixed (s : State) (t : Nat) :
    (State.scrubTile s t).fixed = s.fixed := by
  unfold State.scrubTile
  repeat' split
  all_goals simp [fixed_ite, foldl_fixed]

@[simp] theorem State.reqAnswer_fixed (s : State) (res detail : Nat) :
    (State.reqAnswer s res detail).fixed = s.fixed := by
  simp [State.reqAnswer]

@[simp] theorem State.reqRefused_fixed (s : State) (res detail : Nat) :
    (State.reqRefused s res detail).1.fixed = s.fixed := by
  simp [State.reqRefused]

@[simp] theorem State.reqAccepted_fixed (s : State) (req : Nat) : (State.reqAccepted s req).fixed = s.fixed := by
  simp [State.reqAccepted]

@[simp] theorem State.beginOpenWire_fixed (s : State) (set : Nat) : (State.beginOpenWire s set).fixed = s.fixed := by
  simp [State.beginOpenWire, foldl_fixed]

@[simp] theorem State.beginStart_fixed (s : State) (why : RunTrigger) : (State.beginStart s why).fixed = s.fixed := by
  simp [State.beginStart]

@[simp] theorem State.triggerRecord_fixed (s : State) (sev what : Nat) :
    (State.triggerRecord s sev what).fixed = s.fixed := by
  simp [State.triggerRecord]

@[simp] theorem State.reportOpen_fixed (s : State) (set : Nat) (given : List OpenReading) :
    (State.reportOpen s set given).fixed = s.fixed := by
  simp [State.reportOpen, fixed_ite, foldl_fixed]

@[simp] theorem State.unmask_fixed (s : State) (active : List Nat) :
    (State.unmask s active).fixed = s.fixed := by
  simp [State.unmask, foldl_fixed]

@[simp] theorem State.endOpenWire_fixed (s : State) (given : List OpenReading) (active : List Nat) :
    (State.endOpenWire s given active).fixed = s.fixed := by
  simp [State.endOpenWire, fixed_ite, foldl_fixed]

@[simp] theorem State.endStart_fixed (s : State) : (State.endStart s).fixed = s.fixed := by
  unfold State.endStart
  repeat' split
  all_goals simp [fixed_ite]

@[simp] theorem State.toConfigure_fixed (s : State) : (State.toConfigure s).1.fixed = s.fixed := by
  simp [State.toConfigure, fixed_ite, fst_ite]

@[simp] theorem State.toStandby_fixed (s : State) : (State.toStandby s).1.fixed = s.fixed := by
  unfold State.toStandby
  repeat' split
  all_goals simp

@[simp] theorem State.cancelRestart_fixed (s : State) : (State.cancelRestart s).fixed = s.fixed := by
  simp [State.cancelRestart]

@[simp] theorem State.stopRequest_fixed (s : State) : (State.stopRequest s).1.fixed = s.fixed := by
  simp [State.stopRequest, fixed_ite, fst_ite]

@[simp] theorem State.runRequest_fixed (s : State) : (State.runRequest s).1.fixed = s.fixed := by
  simp [State.runRequest, fixed_ite, fst_ite]

@[simp] theorem State.modeRequest_fixed (s : State) (v : Nat) : (State.modeRequest s v).1.fixed = s.fixed := by
  simp [State.modeRequest, fixed_ite, fst_ite]

@[simp] theorem State.loopCleared_fixed (s : State) (l : Nat) : (State.loopCleared s l).fixed = s.fixed := by
  simp [State.loopCleared, fixed_ite]

@[simp] theorem State.clearHold_fixed (s : State) : (State.clearHold s).1.fixed = s.fixed := by
  simp [State.clearHold, fixed_ite, fst_ite, foldl_fixed]

@[simp] theorem State.enterService_fixed (s : State) : (State.enterService s).1.fixed = s.fixed := by
  simp [State.enterService, fixed_ite, fst_ite]

@[simp] theorem State.vinLost_fixed (s : State) (how : Nat) : (State.vinLost s how).fixed = s.fixed := by
  simp [State.vinLost, fixed_ite]

@[simp] theorem State.afterReset_fixed (s : State) (cause : Nat) (por : Bool) :
    (State.afterReset s cause por).fixed = s.fixed := by
  simp [State.afterReset]

@[simp] theorem State.secReject_fixed (s : State) (reason : Nat) (ch : Chan) (idx sub : Nat) :
    (State.secReject s reason ch idx sub).fixed = s.fixed := by
  simp [State.secReject]

@[simp] theorem State.secRefuse_fixed (s : State) (reason : Nat) (ch : Chan) (idx sub : Nat) :
    (State.secRefuse s reason ch idx sub).1.fixed = s.fixed := by
  simp [State.secRefuse]

@[simp] theorem State.lock_fixed (s : State) : (State.lock s).fixed = s.fixed := by
  simp [State.lock]

@[simp] theorem State.keepKeys_fixed (s : State) : (State.keepKeys s).fixed = s.fixed := by
  simp [State.keepKeys]

@[simp] theorem State.erase_fixed (s : State) : (State.erase s).fixed = s.fixed := by
  simp [State.erase]

@[simp] theorem State.alarmActs_fixed (s : State) (src : Nat) : (State.alarmActs s src).fixed = s.fixed := by
  simp [State.alarmActs, fixed_ite]

@[simp] theorem State.alarm_fixed (s : State) (src : Nat) : (State.alarm s src).fixed = s.fixed := by
  simp [State.alarm, fixed_ite]

@[simp] theorem State.authFail_fixed (s : State) (slot : Nat) : (State.authFail s slot).fixed = s.fixed := by
  simp [State.authFail, fixed_ite]

@[simp] theorem State.takeTag_fixed (s : State) (ch : Chan) : (State.takeTag s ch).1.fixed = s.fixed := by
  unfold State.takeTag
  repeat' split
  all_goals simp

@[simp] theorem State.passS_fixed (s : State) (ch : Chan) (idx sub len v : Nat) (tag : Option Nat) :
    (State.passS s ch idx sub len v tag).1.fixed = s.fixed := by
  unfold State.passS
  repeat' split
  all_goals simp [SecGrp.counted]

@[simp] theorem State.passWrite_fixed (s : State) (p : Prot) (ch : Chan) (idx sub len v : Nat) (tag : Option Nat) :
    (State.passWrite s p ch idx sub len v tag).1.fixed = s.fixed := by
  unfold State.passWrite
  repeat' split
  all_goals simp

@[simp] theorem State.passRead_fixed (s : State) (p : Prot) (ch : Chan) (idx sub : Nat) :
    (State.passRead s p ch idx sub).1.fixed = s.fixed := by
  unfold State.passRead
  repeat' split
  all_goals simp

@[simp] theorem State.endSession_fixed (s : State) : (State.endSession s).fixed = s.fixed := by
  simp [State.endSession]

@[simp] theorem State.sessionOpen_fixed (s : State) (ch : Chan) (slot : Nat) :
    (State.sessionOpen s ch slot).1.fixed = s.fixed := by
  simp [State.sessionOpen, fixed_ite, fst_ite]

@[simp] theorem State.sessionProve_fixed (s : State) (ch : Chan) (v : Nat) :
    (State.sessionProve s ch v).1.fixed = s.fixed := by
  unfold State.sessionProve
  repeat' split
  all_goals simp [fixed_ite, fst_ite]

@[simp] theorem State.sessionTag_fixed (s : State) (ch : Chan) (v : Nat) :
    (State.sessionTag s ch v).1.fixed = s.fixed := by
  simp [State.sessionTag]

@[simp] theorem State.setKey_fixed (s : State) (slot v : Nat) : (State.setKey s slot v).fixed = s.fixed := by
  simp [State.setKey]

@[simp] theorem State.rekeySlot_fixed (s : State) (ch : Chan) (v : Nat) :
    (State.rekeySlot s ch v).1.fixed = s.fixed := by
  simp only [State.rekeySlot]
  repeat' split
  all_goals simp

@[simp] theorem State.fuseVerified_fixed (s : State) (b copies : Nat) :
    (State.fuseVerified s b copies).1.fixed = s.fixed := by
  unfold State.fuseVerified
  repeat' split
  all_goals simp [fixed_ite, foldl_fixed]

theorem State.blowFuse_keeps (s : State) (ch : Chan) (v b : Nat) : s.Keeps (s.blowFuse ch v b).1 := by
  unfold State.blowFuse
  repeat' split
  all_goals first
    | (refine .of_fixed ?_; simp; done)
    | (dsimp only
       refine State.Keeps.left ?_ (State.fuseVerified_fixed ..)
       constructor <;> simp_all [State.fuseOrder, SecGrp.provision, SecGrp.field])

@[simp] theorem State.expireNonce_fixed (s : State) : (State.expireNonce s).fixed = s.fixed := by
  simp [State.expireNonce, fixed_ite]

@[simp] theorem State.expireSession_fixed (s : State) : (State.expireSession s).fixed = s.fixed := by
  simp [State.expireSession, fixed_ite]

@[simp] theorem State.refuse_fixed (s : State) : (State.refuse s).1.fixed = s.fixed := by
  simp [State.refuse]

@[simp] theorem State.commitRequest_fixed (s : State) (tag : Nat) : (State.commitRequest s tag).1.fixed = s.fixed := by
  unfold State.commitRequest
  repeat' split
  all_goals simp

@[simp] theorem State.discardAll_fixed (s : State) : (State.discardAll s).fixed = s.fixed := by
  simp [State.discardAll]

@[simp] theorem State.calStart_fixed (s : State) : (State.calStart s).1.fixed = s.fixed := by
  simp [State.calStart, fixed_ite, fst_ite]

@[simp] theorem State.proofStart_fixed (s : State) : (State.proofStart s).1.fixed = s.fixed := by
  simp [State.proofStart, fixed_ite, fst_ite]

@[simp] theorem State.clearSafe_fixed (s : State) (l : Nat) : (State.clearSafe s l).1.fixed = s.fixed := by
  simp [State.clearSafe, fixed_ite, fst_ite]

@[simp] theorem State.clearLatch_fixed (s : State) (l : Nat) : (State.clearLatch s l).1.fixed = s.fixed := by
  simp [State.clearLatch, fixed_ite, fst_ite]

@[simp] theorem State.clearFirstFail_fixed (s : State) : (State.clearFirstFail s).fixed = s.fixed := by
  simp [State.clearFirstFail]

@[simp] theorem State.clearRecorders_fixed (s : State) : (State.clearRecorders s).fixed = s.fixed := by
  unfold State.clearRecorders
  try dsimp only
  repeat' split
  all_goals first
    | rfl
    | (simp [fixed_ite, fst_ite, foldl_fixed]; done)

@[simp] theorem State.ackFaults_fixed (s : State) : (State.ackFaults s).fixed = s.fixed := by
  simp [State.ackFaults]

@[simp] theorem State.clearFirst_fixed (s : State) : (State.clearFirst s).fixed = s.fixed := by
  simp [State.clearFirst]

@[simp] theorem State.newTarget_fixed (s : State) (l v : Nat) (src : TargetSource) :
    (State.newTarget s l v src).fixed = s.fixed := by
  unfold State.newTarget
  repeat' split
  all_goals simp

@[simp] theorem State.learnStart_fixed (s : State) (l : Nat) : (State.learnStart s l).1.fixed = s.fixed := by
  simp [State.learnStart, fixed_ite, fst_ite]

@[simp] theorem State.manualWrite_fixed (s : State) (p v : Nat) : (State.manualWrite s p v).fixed = s.fixed := by
  simp [State.manualWrite, fixed_ite]

@[simp] theorem State.clearAlerts_fixed (s : State) (l mask : Nat) : (State.clearAlerts s l mask).fixed = s.fixed := by
  simp [State.clearAlerts]

@[simp] theorem State.captureArm_fixed (s : State) (t : Nat) : (State.captureArm s t).1.fixed = s.fixed := by
  simp [State.captureArm, fixed_ite, fst_ite]

@[simp] theorem State.captureDisarm_fixed (s : State) (t : Nat) : (State.captureDisarm s t).fixed = s.fixed := by
  simp [State.captureDisarm, fixed_ite]

@[simp] theorem State.saveRequest_fixed (s : State) (n : Nat) : (State.saveRequest s n).1.fixed = s.fixed := by
  simp [State.saveRequest, fixed_ite, fst_ite]

@[simp] theorem State.restoreRequest_fixed (s : State) (n : Nat) : (State.restoreRequest s n).1.fixed = s.fixed := by
  simp [State.restoreRequest, fixed_ite, fst_ite]

@[simp] theorem State.setActive_fixed (s : State) (n : Nat) : (State.setActive s n).fixed = s.fixed := by
  simp [State.setActive]

theorem State.liveDevice_keeps (s : State) (ch : Chan) (f : Fam) (sub v : Nat) (b : Nat) (o : Outcome1)
    (h : s.liveDevice ch f sub v b = some o) : s.Keeps o.1 := by
  unfold State.liveDevice at h
  split at h
  all_goals (try (split at h)) <;> (try (split at h))
  all_goals first
    | (cases h; done)
    | (obtain rfl := Option.some.inj h.symm
       first
         | exact State.blowFuse_keeps s ch v b
         | (refine .of_fixed ?_; simp; done))

theorem State.liveBlock_keeps (s : State) (f : Fam) (i sub v : Nat) (o : Outcome1)
    (h : s.liveBlock f i sub v = some o) : s.Keeps o.1 := by
  unfold State.liveBlock at h
  split at h
  all_goals (try (split at h)) <;> (try (split at h))
  all_goals first
    | (cases h; done)
    | (obtain rfl := Option.some.inj h.symm
       refine .of_fixed ?_; simp; done)

theorem State.live_keeps (s : State) (ch : Chan) (f : Fam) (i idx sub v b : Nat) :
    s.Keeps (s.live ch f i idx sub v b).1 := by
  unfold State.live
  split
  · exact State.liveDevice_keeps _ _ _ _ _ _ _ (by assumption)
  · split
    · exact State.liveBlock_keeps _ _ _ _ _ _ (by assumption)
    · exact .of_fixed (by simp)

@[simp] theorem State.clearRead_fixed (s : State) (f : Fam) (i sub : Nat) :
    (State.clearRead s f i sub).fixed = s.fixed := by
  unfold State.clearRead
  repeat' split
  all_goals simp

@[simp] theorem State.putX_fixed (s : State) (f : Fam) (i idx sub v : Nat) :
    (State.putX s f i idx sub v).fixed = s.fixed := by
  unfold State.putX
  repeat' split
  all_goals simp

theorem State.carryOut_keeps (s : State) (ch : Chan) (f : Fam) (i idx sub v : Nat) (r : Row) (b : Nat) :
    s.Keeps (s.carryOut ch f i idx sub v r b).1 := by
  unfold State.carryOut
  split
  · exact .of_fixed (by simp)
  · split
    · exact .of_fixed (by simp)
    · split <;> exact .of_fixed (by simp)
  · split
    · exact .of_fixed (by simp)
    · have h := State.live_keeps s ch f i idx sub v b
      split <;> (rename_i e; rw [e] at h; exact h)

@[simp] theorem State.enableDetail_fixed (s : State) (f : Fam) (i idx sub v : Nat) :
    (State.enableDetail s f i idx sub v).fixed = s.fixed := by
  unfold State.enableDetail
  repeat' split
  all_goals simp

theorem State.writeChecked_keeps (s : State) (ch : Chan) (f : Fam) (i idx sub len v : Nat) (r : Row) (b : Nat) :
    s.Keeps (s.writeChecked ch f i idx sub len v r b).1 := by
  unfold State.writeChecked
  split
  · exact .of_fixed (by simp)
  · split
    · exact .of_fixed (by simp)
    · split
      · exact .of_fixed (by simp)
      · exact State.carryOut_keeps ..

theorem State.writeGated_keeps (s : State) (ch : Chan) (f : Fam) (i idx sub len v : Nat) (r : Row) (tag : Option Nat)
    (b : Nat) : s.Keeps (s.writeGated ch f i idx sub len v r tag b).1 := by
  have h := State.passWrite_fixed s r.prot ch idx sub len v tag
  unfold State.writeGated
  split <;> (rename_i e; rw [e] at h)
  · exact .of_fixed h
  · refine State.Keeps.right h ?_
    split
    · exact .of_fixed (by simp)
    · exact State.writeChecked_keeps ..

theorem State.writeFound_keeps (s : State) (ch : Chan) (f : Fam) (i idx sub len v : Nat) (tag : Option Nat) (b : Nat) :
    s.Keeps (s.writeFound ch f i idx sub len v tag b).1 := by
  unfold State.writeFound
  repeat' split
  all_goals first
    | exact State.writeGated_keeps ..
    | exact .refl s

theorem State.doWrite_keeps (s : State) (ch : Chan) (idx sub len v b : Nat) :
    s.Keeps (s.doWrite ch idx sub len v b).1 := by
  unfold State.doWrite
  dsimp only
  split
  · exact .of_fixed (by simp)
  · exact State.Keeps.right (by simp) (State.writeFound_keeps ..)

@[simp] theorem State.readValue_fixed (s : State) (ch : Chan) (f : Fam) (i idx sub : Nat) :
    (State.readValue s ch f i idx sub).1.fixed = s.fixed := by
  simp [State.readValue, fixed_ite, fst_ite]

@[simp] theorem State.readFound_fixed (s : State) (ch : Chan) (f : Fam) (i idx sub len : Nat) :
    (State.readFound s ch f i idx sub len).1.fixed = s.fixed := by
  unfold State.readFound
  split
  · simp [fixed_ite, fst_ite]
  · split
    · rfl
    · split
      · rfl
      · have h := State.passRead_fixed s (by assumption : Row).prot ch idx sub
        split <;> rename_i e <;> rw [e] at h
        · exact h
        · simpa [fixed_ite, fst_ite] using h

@[simp] theorem State.doRead_fixed (s : State) (ch : Chan) (idx sub len : Nat) :
    (State.doRead s ch idx sub len).1.fixed = s.fixed := by
  unfold State.doRead
  repeat' split
  all_goals simp

@[simp] theorem State.domainChunk_fixed (s : State) (idx sub len : Nat) (bs : List Nat) :
    (State.domainChunk s idx sub len bs).1.fixed = s.fixed := by
  simp [State.domainChunk]

@[simp] theorem State.spiDoRead_fixed (s : State) (idx sub len : Nat) :
    (State.spiDoRead s idx sub len).1.fixed = s.fixed := by
  have h (s : State) := State.doRead_fixed s .spi idx sub len
  unfold State.spiDoRead
  split
  · have h := h s
    split
    · rename_i e
      rw [e] at h
      exact (State.domainChunk_fixed ..).trans h
    · exact h
  · split
    · exact (h _).trans (by simp)
    · exact h s

@[simp] theorem State.reply_fixed (s : State) (ch : Chan) (r : Resp) : (State.reply s ch r).fixed = s.fixed := by
  unfold State.reply
  repeat' split
  all_goals simp

@[simp] theorem State.latency_fixed (s : State) (ch : Chan) : (State.latency s ch).fixed = s.fixed := by
  simp [State.latency]

@[simp] theorem State.answer_fixed (s : State) (ch : Chan) (r : Resp) : (State.answer s ch r).fixed = s.fixed := by
  unfold State.answer
  repeat' split
  all_goals simp

@[simp] theorem State.unanswered_fixed (s : State) (idx : Nat) : (State.unanswered s idx).fixed = s.fixed := by
  unfold State.unanswered
  repeat' split
  all_goals simp

@[simp] theorem State.openTransfer_fixed (s : State) (ch : Chan) (x : OpenTransfer) :
    (State.openTransfer s ch x).fixed = s.fixed := by
  unfold State.openTransfer
  repeat' split
  all_goals simp [fixed_ite, foldl_fixed]

@[simp] theorem State.answerInitiate_fixed (s : State) (ch : Chan) (x : OpenTransfer) (r : Resp) :
    (State.answerInitiate s ch x r).fixed = s.fixed := by
  unfold State.answerInitiate
  repeat' split
  all_goals simp [fixed_ite, foldl_fixed]

@[simp] theorem State.answerRead_fixed (s : State) (ch : Chan) (r : Resp) :
    (State.answerRead s ch r).fixed = s.fixed := by
  unfold State.answerRead
  repeat' split
  all_goals simp [fixed_ite, foldl_fixed]

theorem State.rpdoEntry_keeps (s : State) (ch : Chan) (e v : Nat) : s.Keeps (s.rpdoEntry ch e v) := by
  have h := State.doWrite_keeps s ch (e / 65536) (e / 256 % 256) (e % 256 / 8) v 0
  unfold State.rpdoEntry
  dsimp only
  split
  · exact .refl s
  · split <;> (rename_i e; rw [e] at h)
    · exact h.left (by simp)
    · exact h.left (by simp)
    · exact h

theorem State.rpdoEntries_keeps (s : State) (ch : Chan) (es bs : List Nat) : s.Keeps (s.rpdoEntries ch es bs) := by
  induction es generalizing s bs with
  | nil => exact .refl s
  | cons e es ih => exact (State.rpdoEntry_keeps ..).trans (ih _ _)

theorem State.applyRpdo_keeps (s : State) (n : Nat) (bs : List Nat) : s.Keeps (s.applyRpdo n bs) :=
  State.rpdoEntries_keeps ..

theorem State.handle_keeps (s : State) (h : HeldReq) : s.Keeps (s.handle h) := by
  unfold State.handle
  split
  · exact (State.doWrite_keeps ..).left (State.answer_fixed ..)
  · refine .of_fixed ?_
    dsimp only
    split <;> simp
  · exact State.applyRpdo_keeps ..

@[simp] theorem State.hold_fixed (s : State) (h : HeldReq) : (State.hold s h).fixed = s.fixed := by
  unfold State.hold
  repeat' split
  all_goals simp

@[simp] theorem State.silence_fixed (s : State) (mine : Chan → Bool) :
    (State.silence s mine).fixed = s.fixed := by
  unfold State.silence
  repeat' split
  all_goals simp [fixed_ite, foldl_fixed]

@[simp] theorem State.transferError_fixed (s : State) (ch : Chan) : (State.transferError s ch).fixed = s.fixed := by
  simp [State.transferError, fixed_ite]

theorem State.request_keeps (s : State) (ch : Chan) (h : HeldReq) : s.Keeps (s.request ch h) := by
  unfold State.request
  repeat' split
  · exact .refl s
  · exact .of_fixed (by simp)
  · exact .of_fixed (by simp)
  · exact .of_fixed (by simp)
  · exact State.handle_keeps ..

theorem State.write_keeps (s : State) (ch : Chan) (idx sub len v : Nat) : s.Keeps (s.write ch idx sub len v) :=
  State.request_keeps ..

theorem State.serveHeld_keeps (s : State) : s.Keeps s.serveHeld := by
  unfold State.serveHeld
  split
  · exact .refl s
  · split
    · exact .refl s
    · exact State.Keeps.right (by simp) (State.handle_keeps ..)

@[simp] theorem State.applyLaneCfg_fixed (s : State) (t : Nat) : (State.applyLaneCfg s t).fixed = s.fixed := by
  simp only [State.applyLaneCfg]
  split
  · rfl
  · refine (foldl_fixed _ (fun s a => ?_) _ _).trans (by simp)
    split <;> simp

@[simp] theorem State.protocolError_fixed (s : State) (ch : Chan) :
    (State.protocolError s ch).fixed = s.fixed := by
  simp [State.protocolError]

@[simp] theorem State.readSegment_fixed (s : State) (ch : Chan) (x : OpenTransfer) (toggle : Bool) :
    (State.readSegment s ch x toggle).fixed = s.fixed := by
  unfold State.readSegment
  repeat' split
  all_goals simp [fixed_ite, foldl_fixed]

theorem State.writeSegment_keeps (s : State) (ch : Chan) (x : OpenTransfer) (len v : Nat) (toggle last : Bool) :
    s.Keeps (s.writeSegment ch x len v toggle last) := by
  unfold State.writeSegment
  dsimp only
  split
  · exact .of_fixed (by simp)
  · split
    · exact State.write_keeps ..
    · exact .of_fixed (by simp)

/-- A frame of a segmented access does what its operation does, or answers. -/
theorem State.transferFrame_keeps (s : State) (ch : Chan) (f : State → State) (h : s.Keeps (f s)) :
    s.Keeps (s.transferFrame ch f) := by
  unfold State.transferFrame
  split
  · exact .refl s
  · split
    · exact .of_fixed (by simp)
    · exact h

theorem State.writePart_keeps (s : State) (ch : Chan) (idx sub len v : Nat) (part : Transfer) :
    s.Keeps (s.writePart ch idx sub len v part) := by
  unfold State.writePart
  split
  · exact State.write_keeps ..
  · exact State.transferFrame_keeps _ _ _ (.of_fixed (by simp))
  · refine State.transferFrame_keeps _ _ _ ?_
    split
    · exact State.writeSegment_keeps ..
    · exact .of_fixed (by simp)
  · exact State.transferFrame_keeps _ _ _ (.of_fixed (by simp))

theorem State.readPart_keeps (s : State) (ch : Chan) (idx sub len : Nat) (part : Transfer) :
    s.Keeps (s.readPart ch idx sub len part) := by
  unfold State.readPart
  split
  · exact State.request_keeps ..
  · refine State.transferFrame_keeps _ _ _ ?_
    dsimp only
    split
    · exact .of_fixed (by simp)
    · exact State.Keeps.right (by simp) (State.handle_keeps ..)
  · refine State.transferFrame_keeps _ _ _ ?_
    split
    · exact .of_fixed (by simp)
    · exact .of_fixed (by simp)
  · exact State.transferFrame_keeps _ _ _ (.of_fixed (by simp))

theorem State.onFrame_keeps (s : State) (c : CanChan) (format : CanFormat) (f : State → State)
    (h : s.Keeps (f s)) : s.Keeps (s.onFrame c format f) := by
  unfold State.onFrame
  split
  · exact .refl s
  · exact h

@[simp] theorem State.endTransfers_fixed (s : State) (c : CanChan) : (State.endTransfers s c).fixed = s.fixed := by
  simp [State.endTransfers, fixed_ite]

@[simp] theorem State.resetComm_fixed (s : State) (c : CanChan) : (s.resetComm c).fixed = s.fixed := by
  rw [← State.endTransfers_fixed s c]
  simp only [State.resetComm, State.fixed, SecGrp.leave]
  split <;> rfl

@[simp] theorem State.tpdoEntry_fixed (s : State) (n e : Nat) : (State.tpdoEntry s n e).1.fixed = s.fixed := by
  have h := State.doRead_fixed s (canChan (s.tpdoChan n)) (e / 65536) (e / 256 % 256) 0
  unfold State.tpdoEntry
  dsimp only
  split
  · rfl
  · split
    · rename_i k
      simpa only [k] using h
    · rename_i s1 x hx k
      rw [k] at h
      exact h

@[simp] theorem State.tpdoValues_fixed (s : State) (n : Nat) : (State.tpdoValues s n).1.fixed = s.fixed := by
  have h (l : List Nat) : ∀ a : State × List Nat, (l.foldl (fun a e => ((a.1.tpdoEntry n e).1, a.2 ++ (a.1.tpdoEntry n e).2)) a).1.fixed = a.1.fixed := by
    induction l with
    | nil => intro a; rfl
    | cons e l ih => intro a; rw [List.foldl_cons, ih]; exact State.tpdoEntry_fixed ..
  exact h _ _

@[simp] theorem State.sendTpdo_fixed (s : State) (n : Nat) (bs : List Nat) (k : Nat) :
    (State.sendTpdo s n bs k).fixed = s.fixed := by
  simp [State.sendTpdo]

@[simp] theorem State.latchTpdo_fixed (s : State) (n : Nat) : (State.latchTpdo s n).fixed = s.fixed := by
  simp [State.latchTpdo, fixed_ite]

@[simp] theorem State.sendNow_fixed (s : State) (n : Nat) : (State.sendNow s n).fixed = s.fixed := by
  simp [State.sendNow]

@[simp] theorem State.transmitTpdo_fixed (s : State) (n : Nat) : (State.transmitTpdo s n).fixed = s.fixed := by
  unfold State.transmitTpdo
  try dsimp only
  repeat' split
  all_goals first
    | rfl
    | (simp [fixed_ite, fst_ite, foldl_fixed]; done)

@[simp] theorem State.ackTpdo_fixed (s : State) (n : Nat) : (State.ackTpdo s n).fixed = s.fixed := by
  unfold State.ackTpdo
  repeat' split
  all_goals simp [fixed_ite]

@[simp] theorem State.syncTpdo_fixed (s : State) (counter n : Nat) : (State.syncTpdo s counter n).fixed = s.fixed := by
  simp [State.syncTpdo, fixed_ite]

@[simp] theorem State.sync_fixed (s : State) (c : CanChan) (counter : Nat) :
    (State.sync s c counter).fixed = s.fixed := by
  simp [State.sync, fixed_ite, foldl_fixed]

theorem State.netFrame_keeps (s : State) : s.Keeps s.netFrame := by
  unfold State.netFrame
  exact (State.Keeps.right (t := { s with net := { s.net with rpdoDue := [] } }) (by simp)
    (foldl_keeps (fun (s : State) (e : Nat × List Nat) => s.applyRpdo e.1 e.2)
      (fun s a => State.applyRpdo_keeps s a.1 a.2) _ _)).left (foldl_fixed _ (fun s a => State.latchTpdo_fixed s a) _ _)

theorem State.receiveRpdo_keeps (s : State) (n : Nat) (bs : List Nat) : s.Keeps (s.receiveRpdo n bs) := by
  unfold State.receiveRpdo
  dsimp only
  split
  · exact .refl s
  · split
    · exact .of_fixed (by simp)
    · split
      · exact .of_fixed (by simp)
      · exact State.request_keeps ..

@[simp] theorem State.spiBad_fixed (s : State) : (State.spiBad s).fixed = s.fixed := by
  simp [State.spiBad]

@[simp] theorem State.spiDiscard_fixed (s : State) : (State.spiDiscard s).fixed = s.fixed := by
  simp [State.spiDiscard]

theorem State.spiRead_keeps (s : State) (idx sub len : Nat) (b : Bool) : s.Keeps (s.spiRead idx sub len b) := by
  unfold State.spiRead
  repeat' split
  all_goals first
    | exact State.handle_keeps ..
    | (refine .of_fixed ?_; simp; done)
    | exact .refl s

theorem State.spiWrite_keeps (s : State) (idx sub len v : Nat) (b : Bool) : s.Keeps (s.spiWrite idx sub len v b) := by
  unfold State.spiWrite
  repeat' split
  all_goals first
    | exact State.write_keeps ..
    | (refine .of_fixed ?_; simp; done)
    | exact .refl s

@[simp] theorem State.ringRead_fixed (s : State) (r len : Nat) (crcOk : Bool) :
    (State.ringRead s r len crcOk).fixed = s.fixed := by
  simp [State.ringRead, fixed_ite]

@[simp] theorem State.srdoLost_fixed (s : State) (i : Nat) :
    (State.srdoLost s i).fixed = s.fixed := by
  simp [State.srdoLost, fixed_ite]

@[simp] theorem State.srdoLoss_fixed (s : State) (i : Nat) :
    (State.srdoLoss s i).fixed = s.fixed := by
  simp [State.srdoLoss, fixed_ite]

@[simp] theorem State.srdoTake_fixed (s : State) (i normal : Nat) : (State.srdoTake s i normal).fixed = s.fixed := by
  simp [State.srdoTake, fixed_ite]

@[simp] theorem State.srdoIn_fixed (s : State) (i normal inverted apartMs : Nat) :
    (State.srdoIn s i normal inverted apartMs).fixed = s.fixed := by
  unfold State.srdoIn
  repeat' split
  all_goals simp [fixed_ite]

@[simp] theorem State.srdoOut_fixed (s : State) (i : Nat) :
    (State.srdoOut s i).fixed = s.fixed := by
  simp [State.srdoOut, fixed_ite, foldl_fixed]

@[simp] theorem State.refFault_fixed (s : State) (t kind : Nat) : (State.refFault s t kind).fixed = s.fixed := by
  simp [State.refFault, fixed_ite]

@[simp] theorem State.frequencyCheck_fixed (s : State) (t count : Nat) :
    (State.frequencyCheck s t count).fixed = s.fixed := by
  simp [State.frequencyCheck, fixed_ite]

@[simp] theorem State.slowStops_fixed (s : State) (t : Nat) : (State.slowStops s t).fixed = s.fixed := by
  simp [State.slowStops, fixed_ite]

@[simp] theorem State.watchdog_fixed (s : State) (t : Nat) : (State.watchdog s t).fixed = s.fixed := by
  simp [State.watchdog, fixed_ite]

@[simp] theorem State.syncIn_fixed (s : State) : (State.syncIn s).fixed = s.fixed := by
  simp only [State.syncIn]
  repeat' split
  all_goals simp

@[simp] theorem State.timeRx_fixed (s : State) (c : CanChan) (v : Nat) : (State.timeRx s c v).fixed = s.fixed := by
  simp [State.timeRx, fixed_ite]

theorem State.frameBoundary_keeps (s : State) : s.Keeps s.frameBoundary := by
  unfold State.frameBoundary
  split
  · exact State.Keeps.right (State.frameWork_fixed s) (State.netFrame_keeps _)
  · exact .refl s

@[simp] theorem State.keepCal_fixed (s : State) (t : Nat) : (State.keepCal s t).fixed = s.fixed := by
  simp [State.keepCal, foldl_fixed]

@[simp] theorem State.calTile_fixed (rs : List CalResult) (s : State) (t : Nat) :
    (State.calTile rs s t).fixed = s.fixed := by
  simp [State.calTile, fixed_ite]

@[simp] theorem State.calFinish_fixed (s : State) (rs : List CalResult) : (State.calFinish s rs).fixed = s.fixed := by
  simp [State.calFinish, foldl_fixed]

@[simp] theorem State.keepHeader_fixed (s : State) (t result : Nat) :
    (State.keepHeader s t result).fixed = s.fixed := by
  unfold State.keepHeader
  repeat' split
  all_goals simp [fixed_ite, foldl_fixed]

@[simp] theorem State.recoverAll_fixed (s : State) (i : PowerUpIn) : (State.recoverAll s i).fixed = s.fixed := by
  simp [State.recoverAll, fixed_ite, foldl_fixed]

@[simp] theorem State.recoverRecords_fixed (s : State) (f : Nat × Option (Nat × Nat) × List Nat) :
    (State.recoverRecords s f).fixed = s.fixed := by
  unfold State.recoverRecords
  repeat' split
  all_goals simp [fixed_ite, foldl_fixed]

@[simp] theorem State.loadPair_fixed (s : State) (t i : Nat) : (State.loadPair s t i).fixed = s.fixed := by
  simp [State.loadPair]

@[simp] theorem State.lostPairs_fixed (s : State) (t : Nat) : (State.lostPairs s t).fixed = s.fixed := by
  simp [State.lostPairs, foldl_fixed]

@[simp] theorem State.netFromCfg_fixed (s : State) : (State.netFromCfg s).fixed = s.fixed := by
  simp [State.netFromCfg]

@[simp] theorem State.loadAll_fixed (s : State) : (State.loadAll s).fixed = s.fixed := by
  simp [State.loadAll]

@[simp] theorem State.resetRecord_fixed (s : State) (t : Nat) : (State.resetRecord s t).fixed = s.fixed := by
  simp [State.resetRecord]

@[simp] theorem State.tileUp_fixed (i : PowerUpIn) (s : State) (t : Nat) : (State.tileUp i s t).fixed = s.fixed := by
  simp [State.tileUp, fixed_ite]

@[simp] theorem State.porAlarms_fixed (s : State) :
    (State.porAlarms s).fixed = s.fixed := by
  unfold State.porAlarms
  repeat' split
  all_goals simp [fixed_ite, foldl_fixed]

@[simp] theorem State.powerUpLoad_fixed (s : State) (i : PowerUpIn) : (State.powerUpLoad s i).fixed = s.fixed := by
  simp [State.powerUpLoad, fixed_ite, foldl_fixed]

@[simp] theorem State.firstLook_fixed (s : State) (active : List Nat) : (State.firstLook s active).fixed = s.fixed := by
  simp [State.firstLook, foldl_fixed]

@[simp] theorem State.autoMode_fixed (s : State) : (State.autoMode s).fixed = s.fixed := by
  unfold State.autoMode
  repeat' split
  all_goals simp [fixed_ite]

@[simp] theorem State.powerUpEnd_fixed (s : State) (i : PowerUpIn) : (State.powerUpEnd s i).fixed = s.fixed := by
  simp [State.powerUpEnd, fixed_ite]

@[simp] theorem State.powerUp_fixed (s : State) (i : PowerUpIn) : (State.powerUp s i).fixed = s.fixed := by
  simp [State.powerUp, fixed_ite]

end Sys2Proof.Machine
end

