-- ==== Sys2Proof/Laws/KeepsCommands.lean ====
section
/-! SUPPORT. What the operations of the commands keep: the part number, the queue and the fuses. -/

namespace Sys2Proof.Machine

@[simp] theorem State.stepped_fixed (s : State) : (State.stepped s).fixed = s.fixed := by
  simp [State.stepped, fixed_ite]

@[simp] theorem State.marked_fixed (s : State) (others : Nat) :
    (State.marked s others).fixed = s.fixed := by
  simp [State.marked]

@[simp] theorem State.advance_fixed (s : State) (others : Nat) :
    (State.advance s others).fixed = s.fixed := by
  unfold State.advance
  repeat' split
  all_goals simp

@[simp] theorem State.reverse_fixed (s : State) (others : Nat) :
    (State.reverse s others).fixed = s.fixed := by
  simp [State.reverse, fixed_ite]

@[simp] theorem State.goLocal_fixed (s : State) : (State.goLocal s).fixed = s.fixed := by
  simp [State.goLocal, fixed_ite]

@[simp] theorem State.lineTimeout_fixed (s : State) (t others : Nat) :
    (State.lineTimeout s t others).fixed = s.fixed := by
  unfold State.lineTimeout
  try dsimp only
  repeat' split
  all_goals first
    | rfl
    | (simp [fixed_ite, fst_ite, foldl_fixed]; done)

@[simp] theorem State.downWithOthers_fixed (s : State) :
    (State.downWithOthers s).fixed = s.fixed := by
  unfold State.downWithOthers
  repeat' split
  all_goals simp [fixed_ite, foldl_fixed]

@[simp] theorem State.stateSeen_fixed (s : State) (t st dir : Nat) : (State.stateSeen s t st dir).fixed = s.fixed := by
  simp [State.stateSeen, fixed_ite]

@[simp] theorem State.turnOn_fixed (s : State) (n : Nat) : (State.turnOn s n).fixed = s.fixed := by
  simp only [State.turnOn]
  repeat' split
  all_goals simp

@[simp] theorem State.parentNotice_fixed (s : State) (t n : Nat) : (State.parentNotice s t n).fixed = s.fixed := by
  simp [State.parentNotice, fixed_ite]

@[simp] theorem State.retryEnds_fixed (s : State) (n : Nat) : (State.retryEnds s n).fixed = s.fixed := by
  simp [State.retryEnds, fixed_ite]

@[simp] theorem State.retriesEnd_fixed (s : State) : (State.retriesEnd s).fixed = s.fixed := by
  simp [State.retriesEnd, foldl_fixed]

@[simp] theorem State.retryNext_fixed (s : State) (n : Nat) : (State.retryNext s n).fixed = s.fixed := by
  simp [State.retryNext]

@[simp] theorem State.settleDone_fixed (s : State) (n : Nat) :
    (State.settleDone s n).fixed = s.fixed := by
  unfold State.settleDone
  repeat' split
  all_goals simp [fixed_ite, foldl_fixed]

@[simp] theorem State.declareGood_fixed (s : State) (n : Nat) : (State.declareGood s n).fixed = s.fixed := by
  simp [State.declareGood, fixed_ite]

@[simp] theorem State.clearRetries_fixed (s : State) (n : Nat) : (State.clearRetries s n).fixed = s.fixed := by
  simp [State.clearRetries, fixed_ite]

@[simp] theorem State.pgChanged_fixed (s : State) (n : Nat) (high : Bool) (held : Nat) :
    (State.pgChanged s n high held).fixed = s.fixed := by
  simp [State.pgChanged, fixed_ite]

@[simp] theorem State.dropSeen_fixed (s : State) (n : Nat) : (State.dropSeen s n).fixed = s.fixed := by
  simp [State.dropSeen]

@[simp] theorem State.dropFault_fixed (s : State) (n : Nat) : (State.dropFault s n).fixed = s.fixed := by
  simp [State.dropFault, fixed_ite]

@[simp] theorem State.badTime_fixed (s : State) (n : Nat) : (State.badTime s n).fixed = s.fixed := by
  unfold State.badTime
  try dsimp only
  repeat' split
  all_goals first
    | rfl
    | (simp [fixed_ite, fst_ite, foldl_fixed]; done)

@[simp] theorem State.deadline_fixed (s : State) (n : Nat) : (State.deadline s n).fixed = s.fixed := by
  simp [State.deadline, fixed_ite]

@[simp] theorem State.groupMoves_fixed (s : State) (g was : Nat) : (State.groupMoves s g was).fixed = s.fixed := by
  simp [State.groupMoves, fixed_ite]

@[simp] theorem State.dischargeDone_fixed (s : State) (n : Nat) : (State.dischargeDone s n).fixed = s.fixed := by
  simp only [State.dischargeDone]
  repeat' split
  all_goals simp

@[simp] theorem State.dischargedNow_fixed (s : State) (n : Nat) : (State.dischargedNow s n).fixed = s.fixed := by
  simp [State.dischargedNow, fixed_ite]

@[simp] theorem State.dischargeAtOnce_fixed (s : State) (n : Nat) : (State.dischargeAtOnce s n).fixed = s.fixed := by
  unfold State.dischargeAtOnce
  repeat' split
  all_goals simp

@[simp] theorem State.turnOff_fixed (s : State) (n : Nat) : (State.turnOff s n).fixed = s.fixed := by
  unfold State.turnOff
  repeat' split
  all_goals simp

@[simp] theorem State.dischargeTimesOut_fixed (s : State) (n : Nat) :
    (State.dischargeTimesOut s n).fixed = s.fixed := by
  simp [State.dischargeTimesOut, fixed_ite]

@[simp] theorem State.resetPulseEnd_fixed (s : State) : (State.resetPulseEnd s).fixed = s.fixed := by
  simp [State.resetPulseEnd, fixed_ite]

@[simp] theorem State.sysRestart_fixed (s : State) : (State.sysRestart s).fixed = s.fixed := by
  simp [State.sysRestart, fixed_ite]

@[simp] theorem State.sysCountClear_fixed (s : State) : (State.sysCountClear s).fixed = s.fixed := by
  unfold State.sysCountClear
  repeat' split
  all_goals simp

@[simp] theorem State.railDropped_fixed (s : State) (n : Nat) : (State.railDropped s n).fixed = s.fixed := by
  simp [State.railDropped, fixed_ite]

@[simp] theorem State.railOutcome_fixed (s : State) (i : Instr) : (State.railOutcome s i).fixed = s.fixed := by
  unfold State.railOutcome
  repeat' split
  all_goals simp

@[simp] theorem State.deferred_fixed (s : State) (d : Deferred) : (State.deferred s d).fixed = s.fixed := by
  unfold State.deferred
  repeat' split
  all_goals simp

@[simp] theorem State.railDue_fixed (s : State) (n : Nat) (i : Instr) : (State.railDue s n i).fixed = s.fixed := by
  simp [State.railDue, fixed_ite]

@[simp] theorem State.railDropDue_fixed (s : State) (n : Nat) : (State.railDropDue s n).fixed = s.fixed := by
  simp [State.railDropDue, fixed_ite]

@[simp] theorem State.takeWaiting_fixed (s : State) (n : Nat) :
    (State.takeWaiting s n).fixed = s.fixed := by
  unfold State.takeWaiting
  repeat' split
  all_goals simp [fixed_ite, foldl_fixed]

@[simp] theorem State.recovered_fixed (s : State) (t : Nat) : (State.recovered s t).fixed = s.fixed := by
  simp [State.recovered, fixed_ite, foldl_fixed]

@[simp] theorem State.freezeAhead_fixed (s : State) (p : Nat) : (State.freezeAhead s p).fixed = s.fixed := by
  simp [State.freezeAhead, fixed_ite]

@[simp] theorem State.edgeDecision_fixed (s : State) (p : Nat) : (State.edgeDecision s p).fixed = s.fixed := by
  simp [State.edgeDecision, fixed_ite]

@[simp] theorem State.burstZero_fixed (s : State) (p z : Nat) : (State.burstZero s p z).fixed = s.fixed := by
  unfold State.burstZero
  try dsimp only
  repeat' split
  all_goals first
    | rfl
    | (simp [fixed_ite, fst_ite, foldl_fixed]; done)

@[simp] theorem State.carrierZero_fixed (s : State) (p : Nat) : (State.carrierZero s p).fixed = s.fixed := by
  simp [State.carrierZero, fixed_ite]

@[simp] theorem State.syncOut_fixed (s : State) (l b : Nat) : (State.syncOut s l b).fixed = s.fixed := by
  simp [State.syncOut, fixed_ite]

@[simp] theorem State.carrierBoundary_fixed (s : State) (l : Nat) : (State.carrierBoundary s l).fixed = s.fixed := by
  simp [State.carrierBoundary, fixed_ite]

@[simp] theorem State.outputStuck_fixed (s : State) (p ball : Nat) : (State.outputStuck s p ball).fixed = s.fixed := by
  unfold State.outputStuck
  repeat' split
  all_goals simp

@[simp] theorem State.readback_fixed (s : State) (p : Nat) (high low : Option Bool) :
    (State.readback s p high low).fixed = s.fixed := by
  simp [State.readback, fixed_ite]

@[simp] theorem State.truncateAll_fixed (s : State) (ps : List Nat) : (State.truncateAll s ps).fixed = s.fixed := by
  simp [State.truncateAll, foldl_fixed]

@[simp] theorem State.tripRecord_fixed (s : State) (t src act : Nat) :
    (State.tripRecord s t src act).fixed = s.fixed := by
  simp [State.tripRecord]

@[simp] theorem State.tripOn_fixed (s : State) (t n : Nat) : (State.tripOn s t n).fixed = s.fixed := by
  simp [State.tripOn, fixed_ite]

@[simp] theorem State.sfltOn_fixed (s : State) (t k : Nat) : (State.sfltOn s t k).fixed = s.fixed := by
  simp [State.sfltOn, fixed_ite]

@[simp] theorem State.sfltPin_fixed (s : State) (t k : Nat) :
    (State.sfltPin s t k).fixed = s.fixed := by
  unfold State.sfltPin
  repeat' split
  all_goals simp [fixed_ite, foldl_fixed]

@[simp] theorem State.tripPin_fixed (s : State) (t n : Nat) (level : Bool) :
    (State.tripPin s t n level).fixed = s.fixed := by
  simp [State.tripPin, fixed_ite]

@[simp] theorem State.safeLow_fixed (s : State) : (State.safeLow s).fixed = s.fixed := by
  simp [State.safeLow, fixed_ite, foldl_fixed]

@[simp] theorem State.safeHigh_fixed (s : State) : (State.safeHigh s).fixed = s.fixed := by
  simp [State.safeHigh, fixed_ite]

@[simp] theorem State.tripActs_fixed (s : State) (t : Nat) (i : TripInput) :
    (State.tripActs s t i).fixed = s.fixed := by
  unfold State.tripActs
  repeat' split
  all_goals simp

@[simp] theorem State.windowEnds_fixed (s : State) (t : Nat) (i : TripInput) (present : Bool) :
    (State.windowEnds s t i present).fixed = s.fixed := by
  simp [State.windowEnds, fixed_ite]

@[simp] theorem State.tripReleased_fixed (s : State) (t : Nat) (i : TripInput) :
    (State.tripReleased s t i).fixed = s.fixed := by
  unfold State.tripReleased
  repeat' split
  all_goals simp

@[simp] theorem State.tripInputsEnd_fixed (s : State) (l : Nat) : (State.tripInputsEnd s l).fixed = s.fixed := by
  simp [State.tripInputsEnd]

@[simp] theorem State.tripOffTime_fixed (s : State) (l : Nat) : (State.tripOffTime s l).fixed = s.fixed := by
  simp [State.tripOffTime, fixed_ite]

@[simp] theorem State.safeTripRelease_fixed (s : State) (l : Nat) : (State.safeTripRelease s l).fixed = s.fixed := by
  simp [State.safeTripRelease, fixed_ite]

@[simp] theorem State.debugHalt_fixed (s : State) : (State.debugHalt s).fixed = s.fixed := by
  simp [State.debugHalt, fixed_ite, foldl_fixed]

@[simp] theorem State.haltEnd_fixed (s : State) : (State.haltEnd s).fixed = s.fixed := by
  simp [State.haltEnd, fixed_ite]

theorem State.writeAt_keeps (s : State) (ok : Bool) (ch : Chan) (idx sub len v : Nat) :
    s.Keeps (s.writeAt ok ch idx sub len v) :=
  State.write_keeps ..

@[simp] theorem State.dwellExpiry_fixed (s : State) (l : Nat) : (State.dwellExpiry s l).fixed = s.fixed := by
  simp [State.dwellExpiry, fixed_ite]

@[simp] theorem State.learnEnds_fixed (s : State) (l : Nat) : (State.learnEnds s l).fixed = s.fixed := by
  simp [State.learnEnds, fixed_ite]

@[simp] theorem State.shareTells_fixed (s : State) (p : Nat) : (State.shareTells s p).fixed = s.fixed := by
  simp only [State.shareTells]
  repeat' split
  all_goals simp

@[simp] theorem State.burstEnters_fixed (s : State) (l : Nat) : (State.burstEnters s l).fixed = s.fixed := by
  simp [State.burstEnters, fixed_ite]

@[simp] theorem State.burstSleeps_fixed (s : State) (l : Nat) : (State.burstSleeps s l).fixed = s.fixed := by
  simp [State.burstSleeps, fixed_ite, foldl_fixed]

@[simp] theorem State.burstExits_fixed (s : State) (l : Nat) (cause : BurstExitCause) :
    (State.burstExits s l cause).fixed = s.fixed := by
  unfold State.burstExits
  repeat' split
  all_goals simp

@[simp] theorem State.holdTimeout_fixed (s : State) (l : Nat) : (State.holdTimeout s l).fixed = s.fixed := by
  simp [State.holdTimeout, fixed_ite]

@[simp] theorem State.canopyCross_fixed (s : State) (l : Nat) : (State.canopyCross s l).fixed = s.fixed := by
  simp [State.canopyCross, fixed_ite]

@[simp] theorem State.canopyTimeout_fixed (s : State) (l : Nat) : (State.canopyTimeout s l).fixed = s.fixed := by
  simp only [State.canopyTimeout]
  repeat' split
  all_goals simp

@[simp] theorem State.lprev_fixed (s : State) (l : Nat) : (State.lprev s l).fixed = s.fixed := by
  simp only [State.lprev]
  repeat' split
  all_goals simp

@[simp] theorem State.lprevEdge_fixed (s : State) (t : Nat) : (State.lprevEdge s t).fixed = s.fixed := by
  simp [State.lprevEdge, fixed_ite, foldl_fixed]

@[simp] theorem State.applyPreview_fixed (s : State) (l : Nat) : (State.applyPreview s l).fixed = s.fixed := by
  unfold State.applyPreview
  repeat' split
  all_goals simp [foldl_fixed]

@[simp] theorem State.endPreview_fixed (s : State) (l : Nat) : (State.endPreview s l).fixed = s.fixed := by
  unfold State.endPreview
  repeat' split
  all_goals simp

@[simp] theorem State.hiccupTriggers_fixed (s : State) (p : Nat) : (State.hiccupTriggers s p).fixed = s.fixed := by
  unfold State.hiccupTriggers
  repeat' split
  all_goals simp [fixed_ite]

@[simp] theorem State.offTimeEnds_fixed (s : State) (l : Nat) : (State.offTimeEnds s l).fixed = s.fixed := by
  simp [State.offTimeEnds, fixed_ite]

@[simp] theorem State.hiccupsClear_fixed (s : State) (l : Nat) : (State.hiccupsClear s l).fixed = s.fixed := by
  simp [State.hiccupsClear, fixed_ite]

@[simp] theorem State.otRestarts_fixed (s : State) (l : Nat) : (State.otRestarts s l).fixed = s.fixed := by
  simp [State.otRestarts, fixed_ite]

@[simp] theorem State.uvReports_fixed (s : State) (l : Nat) : (State.uvReports s l).fixed = s.fixed := by
  simp [State.uvReports, fixed_ite]

@[simp] theorem State.uvEnds_fixed (s : State) (l : Nat) : (State.uvEnds s l).fixed = s.fixed := by
  simp [State.uvEnds, fixed_ite]

@[simp] theorem State.lowSidesTimeout_fixed (s : State) (l : Nat) : (State.lowSidesTimeout s l).fixed = s.fixed := by
  simp [State.lowSidesTimeout, fixed_ite]

@[simp] theorem State.laneSet_fixed (s : State) (t k l op v : Nat) : (State.laneSet s t k l op v).fixed = s.fixed := by
  unfold State.laneSet
  repeat' split
  all_goals simp

@[simp] theorem State.laneNak_fixed (s : State) (t op status : Nat) (l : Option Nat) :
    (State.laneNak s t op status l).fixed = s.fixed := by
  unfold State.laneNak
  repeat' split
  all_goals simp

@[simp] theorem State.countSet_fixed (s : State) (l : Nat) : (State.countSet s l).fixed = s.fixed := by
  simp [State.countSet]

@[simp] theorem State.laneExec_fixed (s : State) (t k op v : Nat) : (State.laneExec s t k op v).1.fixed = s.fixed := by
  simp only [State.laneExec]
  repeat' split
  all_goals simp

@[simp] theorem State.laneLast_fixed (s : State) (t k op v rsp : Nat) :
    (State.laneLast s t k op v rsp).fixed = s.fixed := by
  unfold State.laneLast
  repeat' split
  all_goals simp

@[simp] theorem State.laneAnswer_fixed (s : State) (t : Nat) (a : Option Nat) (b : Bool) :
    (s.laneAnswer t a b).st.fixed = s.fixed := by
  unfold State.laneAnswer
  dsimp only
  repeat' split
  all_goals simp

@[simp] theorem State.laneExhausted_fixed (s : State) (t n : Nat) : (State.laneExhausted s t n).fixed = s.fixed := by
  unfold State.laneExhausted
  dsimp only
  rw [State.updLane_fixed, foldl_fixed, State.report_fixed]
  intro s a
  split <;> simp

@[simp] theorem State.transact_fixed (s : State) (t : Nat) (a : Option Nat) (b : Bool) :
    (s.transact t a b).fixed = s.fixed := by
  simp [State.transact, fixed_ite]

@[simp] theorem State.laneCommand_fixed (s : State) (t k op seq payload : Nat) :
    (State.laneCommand s t k op seq payload).fixed = s.fixed := by
  unfold State.laneCommand
  try dsimp only
  repeat' split
  all_goals first
    | rfl
    | (simp [fixed_ite, fst_ite, foldl_fixed]; done)

@[simp] theorem State.backoffEnds_fixed (s : State) (t : Nat) : (State.backoffEnds s t).fixed = s.fixed := by
  simp [State.backoffEnds, fixed_ite]

@[simp] theorem State.laneLevel_fixed (s : State) (t mv : Nat) :
    (State.laneLevel s t mv).fixed = s.fixed := by
  simp [State.laneLevel, fixed_ite]

@[simp] theorem State.laneRefuses_fixed (s : State) (t k l status : Nat) :
    (State.laneRefuses s t k l status).fixed = s.fixed := by
  simp [State.laneRefuses]

@[simp] theorem State.acceptOne_fixed (s : State) (l : Nat) (w : Waiting) :
    (State.acceptOne s l w).fixed = s.fixed := by
  unfold State.acceptOne
  try dsimp only
  repeat' split
  all_goals first
    | rfl
    | (simp [fixed_ite, fst_ite, foldl_fixed]; done)

@[simp] theorem State.acceptWaiting_fixed (s : State) (l : Nat) : (State.acceptWaiting s l).fixed = s.fixed := by
  simp [State.acceptWaiting, fixed_ite, foldl_fixed]

theorem State.boundaryFirst_keeps (s : State) : s.Keeps s.boundaryFirst := by
  unfold State.boundaryFirst
  dsimp only
  split
  · exact s.frameBoundary_keeps
  · exact .refl s

theorem State.oneSample_keeps (s : State) (cs : List Conv) : s.Keeps (s.oneSample cs) := by
  unfold State.oneSample
  split
  · exact .refl s
  · exact s.boundaryFirst_keeps.left (by simp [foldl_fixed])

@[simp] theorem State.stopReplica_fixed (s : State) (l r : Nat) : (State.stopReplica s l r).fixed = s.fixed := by
  simp [State.stopReplica]

@[simp] theorem State.slotLost_fixed (s : State) (l r from_ kind : Nat) :
    (State.slotLost s l r from_ kind).fixed = s.fixed := by
  simp [State.slotLost, fixed_ite]

@[simp] theorem State.missPreview_fixed (s : State) (l r : Nat) :
    (State.missPreview s l r).fixed = s.fixed := by
  unfold State.missPreview
  repeat' split
  all_goals simp [fixed_ite, foldl_fixed]

@[simp] theorem State.sampleLost_fixed (s : State) (l r t : Nat) : (State.sampleLost s l r t).fixed = s.fixed := by
  simp [State.sampleLost]

@[simp] theorem State.takeError_fixed (s : State) (l r n : Nat) (e : Int) :
    (State.takeError s l r n e).fixed = s.fixed := by
  simp [State.takeError, fixed_ite]

@[simp] theorem State.takeAction_fixed (s : State) (l r act : Nat) : (State.takeAction s l r act).fixed = s.fixed := by
  simp [State.takeAction, fixed_ite]

@[simp] theorem State.deliver_fixed (s : State) (l r : Nat) (f : SampleSlot) :
    (State.deliver s l r f).fixed = s.fixed := by
  simp [State.deliver, fixed_ite]

@[simp] theorem State.sampleSlot_fixed (s : State) (r t k w : Nat) : (State.sampleSlot s r t k w).fixed = s.fixed := by
  unfold State.sampleSlot
  try dsimp only
  repeat' split
  all_goals first
    | rfl
    | (simp [fixed_ite, fst_ite, foldl_fixed]; done)

@[simp] theorem State.portLost_fixed (s : State) (r t : Nat) : (State.portLost s r t).fixed = s.fixed := by
  simp [State.portLost, fixed_ite]

@[simp] theorem State.decideLoss_fixed (s : State) (t : Nat) (answered : Bool) :
    (State.decideLoss s t answered).fixed = s.fixed := by
  simp [State.decideLoss, fixed_ite]

@[simp] theorem State.safeRequested_fixed (s : State) (r t b : Nat) :
    (State.safeRequested s r t b).fixed = s.fixed := by
  simp only [State.safeRequested]
  repeat' (first | split | (simp; done) | (refine foldl_fixed _ (fun s a => ?_) _ _) | (refine (foldl_fixed _ (fun s a => ?_) _ _).trans ?_))

@[simp] theorem State.controlByte_fixed (s : State) (r t b : Nat) : (State.controlByte s r t b).fixed = s.fixed := by
  simp [State.controlByte, fixed_ite]

@[simp] theorem State.slotGone_fixed (s : State) (l t : Nat) : (State.slotGone s l t).fixed = s.fixed := by
  simp [State.slotGone]

@[simp] theorem State.missCommit_fixed (s : State) (r t : Nat) : (State.missCommit s r t).fixed = s.fixed := by
  unfold State.missCommit
  repeat' split
  all_goals simp

@[simp] theorem State.frameSlotBad_fixed (s : State) (r t : Nat) : (State.frameSlotBad s r t).fixed = s.fixed := by
  simp [State.frameSlotBad, fixed_ite, foldl_fixed]

@[simp] theorem State.commitSeen_fixed (s : State) (r t : Nat) (f : FrameSlot) :
    (State.commitSeen s r t f).fixed = s.fixed := by
  unfold State.commitSeen
  repeat' split
  all_goals simp

@[simp] theorem State.missSeen_fixed (s : State) (r t : Nat) : (State.missSeen s r t).fixed = s.fixed := by
  simp [State.missSeen, fixed_ite]

@[simp] theorem State.timeWrong_fixed (s : State) (r t : Nat) : (State.timeWrong s r t).fixed = s.fixed := by
  simp [State.timeWrong]

@[simp] theorem State.mismatch_fixed (s : State) (l r b : Nat) :
    (State.mismatch s l r b).fixed = s.fixed := by
  simp [State.mismatch, fixed_ite]

@[simp] theorem State.hashLook_fixed (s : State) (l : Nat) :
    (State.hashLook s l).fixed = s.fixed := by
  unfold State.hashLook
  repeat' split
  all_goals simp [fixed_ite, foldl_fixed]

@[simp] theorem State.hashDiffers_fixed (s : State) (l r t : Nat) :
    (State.hashDiffers s l r t).fixed = s.fixed := by
  unfold State.hashDiffers
  repeat' split
  all_goals simp [fixed_ite, foldl_fixed]

@[simp] theorem State.compareHashes_fixed (s : State) (r t : Nat) (hs : List Nat) :
    (State.compareHashes s r t hs).fixed = s.fixed := by
  simp [State.compareHashes, fixed_ite, foldl_fixed]

@[simp] theorem State.takeCount_fixed (s : State) (l n : Nat) : (State.takeCount s l n).fixed = s.fixed := by
  simp [State.takeCount]

@[simp] theorem State.takeValues_fixed (s : State) (r t : Nat) (f : FrameSlot) :
    (State.takeValues s r t f).fixed = s.fixed := by
  simp [State.takeValues, fixed_ite, foldl_fixed]

@[simp] theorem State.frameSlotGood_fixed (s : State) (r t : Nat) (f : FrameSlot) :
    (State.frameSlotGood s r t f).fixed = s.fixed := by
  simp [State.frameSlotGood, fixed_ite]

@[simp] theorem State.frameSlot_fixed (s : State) (r t : Nat) (bs : List Nat) :
    (State.frameSlot s r t bs).fixed = s.fixed := by
  simp [State.frameSlot, fixed_ite, foldl_fixed]

@[simp] theorem State.mgmtSend_fixed (s : State) (i : Nat) (q : Packet) (acked : Bool) :
    (State.mgmtSend s i q acked).fixed = s.fixed := by
  rfl

@[simp] theorem State.mgmtAgain_fixed (s : State) (i : Nat) (q : Packet) (crcOk : Bool) :
    (State.mgmtAgain s i q crcOk).fixed = s.fixed := by
  rfl

@[simp] theorem State.mgmtPacket_fixed (s : State) (r t : Nat) (response crcOk : Bool) :
    (s.mgmtPacket r t response crcOk).fixed = s.fixed := by
  unfold State.mgmtPacket
  dsimp only
  repeat' split
  all_goals simp

@[simp] theorem State.mgmtTimeout_fixed (s : State) (t d : Nat) : (s.mgmtTimeout t d).fixed = s.fixed := by
  unfold State.mgmtTimeout
  dsimp only
  repeat' split
  all_goals simp

@[simp] theorem State.mgmtCredit_fixed (s : State) (t d : Nat) : (State.mgmtCredit s t d).fixed = s.fixed := by
  simp [State.mgmtCredit, fixed_ite]

@[simp] theorem State.useResult_fixed (s : State) (t v e ch : Nat) : (State.useResult s t v e ch).fixed = s.fixed := by
  simp only [State.useResult]
  repeat' split
  all_goals simp

@[simp] theorem State.tablesNow_fixed (s : State) (t : Nat) : (State.tablesNow s t).fixed = s.fixed := by
  simp [State.tablesNow]

@[simp] theorem State.telemResult_fixed (s : State) (t v : Nat) (codes : List Nat) :
    (State.telemResult s t v codes).fixed = s.fixed := by
  unfold State.telemResult
  try dsimp only
  repeat' split
  all_goals first
    | rfl
    | (simp [fixed_ite, fst_ite, foldl_fixed]; done)

@[simp] theorem State.telemTrigger_fixed (s : State) (t v : Nat) : (State.telemTrigger s t v).fixed = s.fixed := by
  simp [State.telemTrigger, fixed_ite]

@[simp] theorem State.telemTimer_fixed (s : State) (t : Nat) : (State.telemTimer s t).fixed = s.fixed := by
  simp [State.telemTimer, fixed_ite]

@[simp] theorem State.telemLimit_fixed (s : State) (t v : Nat) : (State.telemLimit s t v).fixed = s.fixed := by
  simp [State.telemLimit, fixed_ite]

@[simp] theorem State.telemStale_fixed (s : State) (l c : Nat) : (State.telemStale s l c).fixed = s.fixed := by
  simp [State.telemStale, fixed_ite]

@[simp] theorem State.checkOne_fixed (s : State) (t v i kind : Nat) (fails : Bool) :
    (State.checkOne s t v i kind fails).fixed = s.fixed := by
  simp [State.checkOne, fixed_ite]

@[simp] theorem State.checkSense_fixed (s : State) (t v k c loop : Nat) :
    (State.checkSense s t v k c loop).fixed = s.fixed := by
  unfold State.checkSense
  repeat' split
  all_goals simp

@[simp] theorem State.checkTake_fixed (s : State) (t v n code loop : Nat) :
    (State.checkTake s t v n code loop).fixed = s.fixed := by
  unfold State.checkTake
  try dsimp only
  repeat' split
  all_goals first
    | rfl
    | (simp [fixed_ite, fst_ite, foldl_fixed]; done)

@[simp] theorem State.checkConv_fixed (s : State) (t c0 c1 loop0 loop1 : Nat) :
    (State.checkConv s t c0 c1 loop0 loop1).fixed = s.fixed := by
  simp only [State.checkConv]
  repeat' split
  all_goals simp

@[simp] theorem State.bandgap_fixed (s : State) (t diff : Nat) : (State.bandgap s t diff).fixed = s.fixed := by
  simp [State.bandgap, fixed_ite]

@[simp] theorem State.plausTimeout_fixed (s : State) (l : Nat) : (State.plausTimeout s l).fixed = s.fixed := by
  simp [State.plausTimeout, fixed_ite]

@[simp] theorem State.compOn_fixed (s : State) (t c : Nat) : (State.compOn s t c).fixed = s.fixed := by
  simp [State.compOn, fixed_ite]

@[simp] theorem State.compOff_fixed (s : State) (t c : Nat) : (State.compOff s t c).fixed = s.fixed := by
  simp [State.compOff, fixed_ite]

@[simp] theorem State.compSettled_fixed (s : State) (t c : Nat) (beyond : Bool) :
    (State.compSettled s t c beyond).fixed = s.fixed := by
  simp [State.compSettled, fixed_ite]

@[simp] theorem State.calComplete_fixed (s : State) (rs : List CalResult) :
    (State.calComplete s rs).fixed = s.fixed := by
  simp [State.calComplete, fixed_ite]

@[simp] theorem State.answerKept_fixed (s : State) :
    (State.answerKept s).fixed = s.fixed := by
  unfold State.answerKept
  repeat' split
  all_goals simp [fixed_ite, foldl_fixed]

@[simp] theorem State.stepCompletes_fixed (s : State) (t : Nat) :
    (State.stepCompletes s t).fixed = s.fixed := by
  unfold State.stepCompletes
  repeat' split
  all_goals simp [fixed_ite, foldl_fixed]

@[simp] theorem State.pageCompletes_fixed (s : State) (t : Nat) : (State.pageCompletes s t).fixed = s.fixed := by
  unfold State.pageCompletes
  repeat' split
  all_goals simp

@[simp] theorem State.tallyBegins_fixed (s : State) (t i : Nat) : (State.tallyBegins s t i).fixed = s.fixed := by
  simp [State.tallyBegins, fixed_ite]

@[simp] theorem State.tallyCompletes_fixed (s : State) (t : Nat) : (State.tallyCompletes s t).fixed = s.fixed := by
  simp only [State.tallyCompletes]
  repeat' split
  all_goals simp

@[simp] theorem State.hourEnds_fixed (s : State) (t i : Nat) : (State.hourEnds s t i).fixed = s.fixed := by
  simp [State.hourEnds, fixed_ite]

@[simp] theorem State.scrub_fixed (s : State) : (State.scrub s).fixed = s.fixed := by
  simp [State.scrub, fixed_ite, foldl_fixed]

@[simp] theorem State.eventReport_fixed (s : State) (t src code sev inst : Nat) (data : List Nat) :
    (State.eventReport s t src code sev inst data).fixed = s.fixed := by
  unfold State.eventReport
  repeat' split
  all_goals simp

@[simp] theorem State.forwardHead_fixed (s : State) (r : Nat) (l : List Rec) : (s.forwardHead r l).fixed = s.fixed := by
  cases l with
  | nil => rfl
  | cons x xs => exact (State.forwarded_fixed ..).trans (State.ringAdvance_fixed ..)

@[simp] theorem State.forwardNext_fixed (s : State) (t : Nat) : (s.forwardNext t).fixed = s.fixed := by
  unfold State.forwardNext
  repeat' split
  all_goals first
    | rfl
    | simp

@[simp] theorem State.inhibitEnds_fixed (s : State) (c : CanChan) : (State.inhibitEnds s c).fixed = s.fixed := by
  unfold State.inhibitEnds
  repeat' split
  all_goals simp

@[simp] theorem State.queuedStart_fixed (s : State) (n : Nat) : (State.queuedStart s n).fixed = s.fixed := by
  simp [State.queuedStart, fixed_ite]

@[simp] theorem State.startEdge_fixed (s : State) : (State.startEdge s).fixed = s.fixed := by
  simp [State.startEdge, fixed_ite]

@[simp] theorem State.startLow_fixed (s : State) : (State.startLow s).fixed = s.fixed := by
  simp [State.startLow, fixed_ite]

@[simp] theorem State.vinFalls_fixed (s : State) (mv : Nat) : (State.vinFalls s mv).fixed = s.fixed := by
  simp [State.vinFalls, fixed_ite]

@[simp] theorem State.pfailRises_fixed (s : State) : (State.pfailRises s).fixed = s.fixed := by
  simp [State.pfailRises]

@[simp] theorem State.vinRises_fixed (s : State) (mv : Nat) : (State.vinRises s mv).fixed = s.fixed := by
  simp [State.vinRises, fixed_ite]

@[simp] theorem State.restartNow_fixed (s : State) : (State.restartNow s).fixed = s.fixed := by
  simp [State.restartNow, fixed_ite]

@[simp] theorem State.nmtStart_fixed (s : State) (c : CanChan) : (State.nmtStart s c).fixed = s.fixed := by
  simp [State.nmtStart, fixed_ite]

@[simp] theorem State.nmtSet_fixed (s : State) (c : CanChan) (m : Nmt) : (State.nmtSet s c m).fixed = s.fixed := by
  simp [State.nmtSet, fixed_ite]

@[simp] theorem State.nmtResetComm_fixed (s : State) (c : CanChan) : (State.nmtResetComm s c).fixed = s.fixed := by
  simp [State.nmtResetComm, fixed_ite]

@[simp] theorem State.nmtResetNode_fixed (s : State) (c : CanChan) : (State.nmtResetNode s c).fixed = s.fixed := by
  simp [State.nmtResetNode, fixed_ite]

@[simp] theorem State.captureEnds_fixed (s : State) (t : Nat) : (State.captureEnds s t).fixed = s.fixed := by
  simp [State.captureEnds, fixed_ite]

@[simp] theorem State.beat_fixed (s : State) (c : CanChan) : (State.beat s c).fixed = s.fixed := by
  simp [State.beat, fixed_ite]

@[simp] theorem State.canState_fixed (s : State) (c : CanChan) (st : Nat) :
    (State.canState s c st).fixed = s.fixed := by
  simp [State.canState, fixed_ite]

@[simp] theorem State.sdoEnds_fixed (s : State) (client : Nat) : (State.sdoEnds s client).fixed = s.fixed := by
  unfold State.sdoEnds
  dsimp only
  repeat' split
  all_goals simp

@[simp] theorem State.fetch_fixed (s : State) : (State.fetch s).fixed = s.fixed := by
  simp [State.fetch, fixed_ite]

@[simp] theorem State.spiTimeout_fixed (s : State) (bytes : Nat) : (State.spiTimeout s bytes).fixed = s.fixed := by
  simp [State.spiTimeout, fixed_ite]

@[simp] theorem State.pllTimeout_fixed (s : State) (t : Nat) : (State.pllTimeout s t).fixed = s.fixed := by
  simp [State.pllTimeout, fixed_ite]

@[simp] theorem State.excursion_fixed (s : State) (ns : Nat) : (State.excursion s ns).fixed = s.fixed := by
  simp [State.excursion, fixed_ite]

@[simp] theorem State.spoilPool_fixed (s : State) (t : Nat) (rs : List Nat) (k : Nat) :
    (s.spoilPool t rs k).fixed = s.fixed := by
  induction rs generalizing s k with
  | nil => rfl
  | cons r rs ih => simp [State.spoilPool, fixed_ite, ih]

@[simp] theorem State.sramActs_fixed (s : State) (t : Nat) (a : SramArea) (addr : Nat) :
    (s.sramActs t a addr).fixed = s.fixed := by
  unfold State.sramActs
  split <;> simp

@[simp] theorem State.sramDetected_fixed (s : State) (t : Nat) (a : SramArea) (addr : Nat) :
    (State.sramDetected s t a addr).fixed = s.fixed := by
  simp [State.sramDetected, fixed_ite]

@[simp] theorem State.sramCorrected_fixed (s : State) (t : Nat) (a : SramArea) (addr : Nat) :
    (State.sramCorrected s t a addr).fixed = s.fixed := by
  simp [State.sramCorrected, fixed_ite]

@[simp] theorem State.proofEnds_fixed (s : State) (failed : Nat) : (State.proofEnds s failed).fixed = s.fixed := by
  simp [State.proofEnds, fixed_ite]

@[simp] theorem State.tapLoads_fixed (s : State) (i : TapInstr) :
    (State.tapLoads s i).fixed = s.fixed := by
  unfold State.tapLoads
  repeat' split
  all_goals simp [fixed_ite, foldl_fixed]

@[simp] theorem State.tapRuns_fixed (s : State) (i : TapInstr) : (State.tapRuns s i).fixed = s.fixed := by
  unfold State.tapRuns
  repeat' split
  all_goals simp

theorem State.fuseWrite_keeps (s : State) (ch : Chan) (v b : Nat) : s.Keeps (s.fuseWrite ch v b) :=
  State.request_keeps ..

/-- A fuse that counts as blown does so still. -/
theorem flipCopy_blown {n : Nat} (h : n ≠ 0) : flipCopy n ≠ 0 := by
  unfold flipCopy
  repeat' split
  all_goals omega

theorem State.fuseDisagrees_blown (s : State) (fuses : Nat) :
    (s.fuseDisagrees fuses).part = s.part ∧ (s.fuseDisagrees fuses).pending = s.pending ∧
      (s.sec.provision = true → (s.fuseDisagrees fuses).sec.provision = true) ∧
      (s.sec.field = true → (s.fuseDisagrees fuses).sec.field = true) := by
  refine ⟨rfl, rfl, fun h => ?_, fun h => ?_⟩ <;>
    simp only [State.fuseDisagrees, SecGrp.provision, SecGrp.field, bne_iff_ne] at h ⊢ <;> split <;>
    first | exact h | exact flipCopy_blown h

@[simp] theorem State.idle_fixed (s : State) : (State.idle s).fixed = s.fixed := by
  simp [State.idle, fixed_ite]

end Sys2Proof.Machine
end

