-- ==== Sys2Proof/Laws/Tab.lean ====
section
/-! SUPPORT. Reading and writing tables: a read after a write, and the canonical form. -/

namespace Sys2Proof

variable {α : Type}

@[simp] theorem Tab.get_nil (d : α) (i : Nat) : Tab.get d [] i = d := rfl

theorem Tab.get_erase_same (d : α) (t : Tab α) (i : Nat) : Tab.get d (Tab.erase i t) i = d := by
  induction t with
  | nil => rfl
  | cons e t ih =>
    simp only [Tab.erase, List.filter_cons] at ih ⊢
    by_cases h : e.1 = i
    · simpa [h] using ih
    · simpa [h, Tab.get, Ne.symm h] using ih

theorem Tab.get_erase_other (d : α) (t : Tab α) {i j : Nat} (h : j ≠ i) : Tab.get d (Tab.erase i t) j = Tab.get d t j := by
  induction t with
  | nil => rfl
  | cons e t ih =>
    simp only [Tab.erase, List.filter_cons] at ih ⊢
    by_cases k : e.1 = i
    · have : j ≠ e.1 := fun hj => h (hj.trans k)
      simpa [k, Tab.get, h] using ih
    · by_cases k2 : j = e.1
      · simp [k, Tab.get, k2]
      · simpa [k, Tab.get, k2] using ih

theorem Tab.get_insert_same (d v : α) (t : Tab α) (i : Nat) (h : ∀ e ∈ t, e.1 ≠ i) : Tab.get d (Tab.insert i v t) i = v := by
  induction t with
  | nil => simp [Tab.insert, Tab.get]
  | cons e t ih =>
    have h1 : i ≠ e.1 := Ne.symm (h e (by simp))
    simp only [Tab.insert]
    split
    · simp [Tab.get]
    · simpa [Tab.get, h1] using ih (fun x hx => h x (by simp [hx]))

theorem Tab.get_insert_other (d v : α) (t : Tab α) {i j : Nat} (h : j ≠ i) :
    Tab.get d (Tab.insert i v t) j = Tab.get d t j := by
  induction t with
  | nil => simp [Tab.insert, Tab.get, h]
  | cons e t ih =>
    simp only [Tab.insert]
    split
    · simp [Tab.get, h]
    · simp [Tab.get, ih]

theorem Tab.erase_ne (t : Tab α) (i : Nat) : ∀ e ∈ Tab.erase i t, e.1 ≠ i := by
  intro e he
  simpa using (List.mem_filter.mp he).2

/-- A read after a write to the same number. -/
@[simp] theorem Tab.get_set_same [DecidableEq α] (d v : α) (t : Tab α) (i : Nat) : (Tab.set d t i v).get d i = v := by
  unfold Tab.set
  split
  · next h => rw [h]; exact Tab.get_erase_same d t i
  · exact Tab.get_insert_same d v _ i (Tab.erase_ne t i)

/-- A write leaves every other number alone. -/
theorem Tab.get_set_other [DecidableEq α] (d v : α) (t : Tab α) {i j : Nat} (h : j ≠ i) :
    (Tab.set d t i v).get d j = t.get d j := by
  unfold Tab.set
  split
  · exact Tab.get_erase_other d t h
  · rw [Tab.get_insert_other d v _ h, Tab.get_erase_other d t h]

@[simp] theorem Tab.get_upd_same [DecidableEq α] (d : α) (t : Tab α) (i : Nat) (f : α → α) :
    (Tab.upd d t i f).get d i = f (t.get d i) := Tab.get_set_same ..

theorem Tab.get_upd_other [DecidableEq α] (d : α) (t : Tab α) {i j : Nat} (f : α → α) (h : j ≠ i) :
    (Tab.upd d t i f).get d j = t.get d j := Tab.get_set_other _ _ _ h

theorem Tab.wf_iff [DecidableEq α] (d : α) (t : Tab α) :
    Tab.wf d t = true ↔ t.Pairwise (fun a b => a.1 < b.1) ∧ ∀ e ∈ t, e.2 ≠ d := by
  simp [Tab.wf, List.pairwise_map]

theorem Tab.mem_insert (i : Nat) (v : α) (t : Tab α) (e : Nat × α) (h : e ∈ Tab.insert i v t) : e = (i, v) ∨ e ∈ t := by
  induction t with
  | nil => simpa [Tab.insert] using h
  | cons x t ih =>
    simp only [Tab.insert] at h
    split at h
    · simpa using h
    · rcases List.mem_cons.mp h with h | h
      · simp [h]
      · rcases ih h with h | h <;> simp [h]

theorem Tab.sorted_insert (i : Nat) (v : α) (t : Tab α) (h : t.Pairwise (fun a b => a.1 < b.1)) (hi : ∀ e ∈ t, e.1 ≠ i) :
    (Tab.insert i v t).Pairwise (fun a b => a.1 < b.1) := by
  induction t with
  | nil => simp [Tab.insert]
  | cons e t ih =>
    have hs := List.pairwise_cons.mp h
    have he : e.1 ≠ i := hi e (by simp)
    simp only [Tab.insert]
    split
    · next hlt =>
      refine List.pairwise_cons.mpr ⟨fun x hx => ?_, h⟩
      rcases List.mem_cons.mp hx with rfl | hx
      · exact hlt
      · exact Nat.lt_trans hlt (hs.1 x hx)
    · next hge =>
      refine List.pairwise_cons.mpr ⟨fun x hx => ?_, ih hs.2 (fun x hx => hi x (by simp [hx]))⟩
      rcases Tab.mem_insert i v t x hx with rfl | hx
      · exact Nat.lt_of_le_of_ne (Nat.not_lt.mp hge) he
      · exact hs.1 x hx

/-- A write keeps the canonical form. -/
theorem Tab.wf_set [DecidableEq α] (d v : α) (t : Tab α) (i : Nat) (h : Tab.wf d t = true) :
    Tab.wf d (Tab.set d t i v) = true := by
  rw [Tab.wf_iff] at h ⊢
  obtain ⟨h1, h2⟩ := h
  have e1 : (Tab.erase i t).Pairwise (fun a b => a.1 < b.1) := h1.filter _
  have e2 : ∀ e ∈ Tab.erase i t, e.2 ≠ d := fun e he => h2 e (List.mem_filter.mp he).1
  unfold Tab.set
  split
  · exact ⟨e1, e2⟩
  · next hv =>
    refine ⟨Tab.sorted_insert i v _ e1 (Tab.erase_ne t i), fun e he => ?_⟩
    rcases Tab.mem_insert i v _ e he with rfl | he
    · exact hv
    · exact e2 e he

theorem Tab.wf_upd [DecidableEq α] (d : α) (t : Tab α) (i : Nat) (f : α → α) (h : Tab.wf d t = true) :
    Tab.wf d (Tab.upd d t i f) = true := Tab.wf_set d _ t i h

/-- What every change at a number leaves there holds there after a change of all, where that number was among them. -/
theorem Tab.get_updAll_mem [DecidableEq α] (d : α) (f : Nat → α → α) (m : Nat) (P : α → Prop) (hf : ∀ v, P (f m v))
    (is : List Nat) (t : Tab α) (h : m ∈ is ∨ P (Tab.get d t m)) : P (Tab.get d (Tab.updAll d t is f) m) := by
  unfold Tab.updAll
  induction is generalizing t with
  | nil => simpa using h
  | cons i is ih =>
    refine ih _ ?_
    by_cases e : m = i
    · subst e; right; simp only [Tab.get_upd_same]; exact hf _
    · rw [Tab.get_upd_other _ _ _ e]
      simpa [e] using h

/-- A change of all leaves a number that was not among them as it was. -/
theorem Tab.get_updAll_other [DecidableEq α] (d : α) (f : Nat → α → α) {m : Nat} {is : List Nat} (t : Tab α) (h : m ∉ is) :
    Tab.get d (Tab.updAll d t is f) m = Tab.get d t m := by
  unfold Tab.updAll
  induction is generalizing t with
  | nil => rfl
  | cons i is ih =>
    have h1 : m ≠ i := fun e => h (e ▸ List.mem_cons_self)
    have h2 : m ∉ is := fun e => h (List.mem_cons_of_mem _ e)
    exact (ih _ h2).trans (Tab.get_upd_other _ _ _ h1)

/-- A change of all makes its change at each number once. -/
theorem Tab.get_updAll_same [DecidableEq α] (d : α) (f : Nat → α → α) {m : Nat} {is : List Nat} (t : Tab α) (hn : is.Nodup)
    (h : m ∈ is) : Tab.get d (Tab.updAll d t is f) m = f m (Tab.get d t m) := by
  unfold Tab.updAll
  induction is generalizing t with
  | nil => cases h
  | cons i is ih =>
    obtain ⟨h1, h2⟩ := List.nodup_cons.mp hn
    rcases List.mem_cons.mp h with rfl | h
    · exact (Tab.get_updAll_other d f _ h1).trans (Tab.get_upd_same ..)
    · exact (ih _ h2 h).trans (by rw [Tab.get_upd_other _ _ _ (fun e : m = i => h1 (e.symm ▸ h))])

theorem Tab.wf_updAll [DecidableEq α] (d : α) (t : Tab α) (is : List Nat) (f : Nat → α → α) (h : Tab.wf d t = true) :
    Tab.wf d (Tab.updAll d t is f) = true := by
  unfold Tab.updAll
  induction is generalizing t with
  | nil => exact h
  | cons i is ih => exact ih _ (Tab.wf_upd d t i (f i) h)

end Sys2Proof
end

