-- ==== Sys2Proof/Laws/State.lean ====
section
/-! SUPPORT. What each update of the state does to each field, and what the accessors read after an update. -/

namespace Sys2Proof.Machine

@[simp] theorem State.updLoop_part (s : State) (l : Nat) (f : Loop → Loop) : (s.updLoop l f).part = s.part := rfl
@[simp] theorem State.updLoop_md (s : State) (l : Nat) (f : Loop → Loop) : (s.updLoop l f).md = s.md := rfl
@[simp] theorem State.updLoop_pins (s : State) (l : Nat) (f : Loop → Loop) : (s.updLoop l f).pins = s.pins := rfl
@[simp] theorem State.updLoop_clk (s : State) (l : Nat) (f : Loop → Loop) : (s.updLoop l f).clk = s.clk := rfl
@[simp] theorem State.updLoop_obj (s : State) (l : Nat) (f : Loop → Loop) : (s.updLoop l f).obj = s.obj := rfl
@[simp] theorem State.updLoop_loops (s : State) (l : Nat) (f : Loop → Loop) : (s.updLoop l f).loops = s.loops.upd {} l f := rfl
@[simp] theorem State.updLoop_phases (s : State) (l : Nat) (f : Loop → Loop) : (s.updLoop l f).phases = s.phases := rfl
@[simp] theorem State.updLoop_rails (s : State) (l : Nat) (f : Loop → Loop) : (s.updLoop l f).rails = s.rails := rfl
@[simp] theorem State.updLoop_seq (s : State) (l : Nat) (f : Loop → Loop) : (s.updLoop l f).seq = s.seq := rfl
@[simp] theorem State.updLoop_tiles (s : State) (l : Nat) (f : Loop → Loop) : (s.updLoop l f).tiles = s.tiles := rfl
@[simp] theorem State.updLoop_comps (s : State) (l : Nat) (f : Loop → Loop) : (s.updLoop l f).comps = s.comps := rfl
@[simp] theorem State.updLoop_windows (s : State) (l : Nat) (f : Loop → Loop) : (s.updLoop l f).windows = s.windows := rfl
@[simp] theorem State.updLoop_ev (s : State) (l : Nat) (f : Loop → Loop) : (s.updLoop l f).ev = s.ev := rfl
@[simp] theorem State.updLoop_net (s : State) (l : Nat) (f : Loop → Loop) : (s.updLoop l f).net = s.net := rfl
@[simp] theorem State.updLoop_srdo (s : State) (l : Nat) (f : Loop → Loop) : (s.updLoop l f).srdo = s.srdo := rfl
@[simp] theorem State.updLoop_sec (s : State) (l : Nat) (f : Loop → Loop) : (s.updLoop l f).sec = s.sec := rfl
@[simp] theorem State.updLoop_lanes (s : State) (l : Nat) (f : Loop → Loop) : (s.updLoop l f).lanes = s.lanes := rfl
@[simp] theorem State.updLoop_link (s : State) (l : Nat) (f : Loop → Loop) : (s.updLoop l f).link = s.link := rfl
@[simp] theorem State.updLoop_cel (s : State) (l : Nat) (f : Loop → Loop) : (s.updLoop l f).cel = s.cel := rfl
@[simp] theorem State.updLoop_hists (s : State) (l : Nat) (f : Loop → Loop) : (s.updLoop l f).hists = s.hists := rfl
@[simp] theorem State.updLoop_histFrame (s : State) (l : Nat) (f : Loop → Loop) : (s.updLoop l f).histFrame = s.histFrame := rfl
@[simp] theorem State.updLoop_caps (s : State) (l : Nat) (f : Loop → Loop) : (s.updLoop l f).caps = s.caps := rfl
@[simp] theorem State.updLoop_cal (s : State) (l : Nat) (f : Loop → Loop) : (s.updLoop l f).cal = s.cal := rfl
@[simp] theorem State.updLoop_diag (s : State) (l : Nat) (f : Loop → Loop) : (s.updLoop l f).diag = s.diag := rfl
@[simp] theorem State.updLoop_pending (s : State) (l : Nat) (f : Loop → Loop) : (s.updLoop l f).pending = s.pending := rfl

@[simp] theorem State.updPhase_part (s : State) (p : Nat) (f : Phase → Phase) : (s.updPhase p f).part = s.part := rfl
@[simp] theorem State.updPhase_md (s : State) (p : Nat) (f : Phase → Phase) : (s.updPhase p f).md = s.md := rfl
@[simp] theorem State.updPhase_pins (s : State) (p : Nat) (f : Phase → Phase) : (s.updPhase p f).pins = s.pins := rfl
@[simp] theorem State.updPhase_clk (s : State) (p : Nat) (f : Phase → Phase) : (s.updPhase p f).clk = s.clk := rfl
@[simp] theorem State.updPhase_obj (s : State) (p : Nat) (f : Phase → Phase) : (s.updPhase p f).obj = s.obj := rfl
@[simp] theorem State.updPhase_loops (s : State) (p : Nat) (f : Phase → Phase) : (s.updPhase p f).loops = s.loops := rfl
@[simp] theorem State.updPhase_phases (s : State) (p : Nat) (f : Phase → Phase) : (s.updPhase p f).phases = s.phases.upd {} p f := rfl
@[simp] theorem State.updPhase_rails (s : State) (p : Nat) (f : Phase → Phase) : (s.updPhase p f).rails = s.rails := rfl
@[simp] theorem State.updPhase_seq (s : State) (p : Nat) (f : Phase → Phase) : (s.updPhase p f).seq = s.seq := rfl
@[simp] theorem State.updPhase_tiles (s : State) (p : Nat) (f : Phase → Phase) : (s.updPhase p f).tiles = s.tiles := rfl
@[simp] theorem State.updPhase_comps (s : State) (p : Nat) (f : Phase → Phase) : (s.updPhase p f).comps = s.comps := rfl
@[simp] theorem State.updPhase_windows (s : State) (p : Nat) (f : Phase → Phase) : (s.updPhase p f).windows = s.windows := rfl
@[simp] theorem State.updPhase_ev (s : State) (p : Nat) (f : Phase → Phase) : (s.updPhase p f).ev = s.ev := rfl
@[simp] theorem State.updPhase_net (s : State) (p : Nat) (f : Phase → Phase) : (s.updPhase p f).net = s.net := rfl
@[simp] theorem State.updPhase_srdo (s : State) (p : Nat) (f : Phase → Phase) : (s.updPhase p f).srdo = s.srdo := rfl
@[simp] theorem State.updPhase_sec (s : State) (p : Nat) (f : Phase → Phase) : (s.updPhase p f).sec = s.sec := rfl
@[simp] theorem State.updPhase_lanes (s : State) (p : Nat) (f : Phase → Phase) : (s.updPhase p f).lanes = s.lanes := rfl
@[simp] theorem State.updPhase_link (s : State) (p : Nat) (f : Phase → Phase) : (s.updPhase p f).link = s.link := rfl
@[simp] theorem State.updPhase_cel (s : State) (p : Nat) (f : Phase → Phase) : (s.updPhase p f).cel = s.cel := rfl
@[simp] theorem State.updPhase_hists (s : State) (p : Nat) (f : Phase → Phase) : (s.updPhase p f).hists = s.hists := rfl
@[simp] theorem State.updPhase_histFrame (s : State) (p : Nat) (f : Phase → Phase) : (s.updPhase p f).histFrame = s.histFrame := rfl
@[simp] theorem State.updPhase_caps (s : State) (p : Nat) (f : Phase → Phase) : (s.updPhase p f).caps = s.caps := rfl
@[simp] theorem State.updPhase_cal (s : State) (p : Nat) (f : Phase → Phase) : (s.updPhase p f).cal = s.cal := rfl
@[simp] theorem State.updPhase_diag (s : State) (p : Nat) (f : Phase → Phase) : (s.updPhase p f).diag = s.diag := rfl
@[simp] theorem State.updPhase_pending (s : State) (p : Nat) (f : Phase → Phase) : (s.updPhase p f).pending = s.pending := rfl

@[simp] theorem State.updRail_part (s : State) (n : Nat) (f : Rail → Rail) : (s.updRail n f).part = s.part := rfl
@[simp] theorem State.updRail_md (s : State) (n : Nat) (f : Rail → Rail) : (s.updRail n f).md = s.md := rfl
@[simp] theorem State.updRail_pins (s : State) (n : Nat) (f : Rail → Rail) : (s.updRail n f).pins = s.pins := rfl
@[simp] theorem State.updRail_clk (s : State) (n : Nat) (f : Rail → Rail) : (s.updRail n f).clk = s.clk := rfl
@[simp] theorem State.updRail_obj (s : State) (n : Nat) (f : Rail → Rail) : (s.updRail n f).obj = s.obj := rfl
@[simp] theorem State.updRail_loops (s : State) (n : Nat) (f : Rail → Rail) : (s.updRail n f).loops = s.loops := rfl
@[simp] theorem State.updRail_phases (s : State) (n : Nat) (f : Rail → Rail) : (s.updRail n f).phases = s.phases := rfl
@[simp] theorem State.updRail_rails (s : State) (n : Nat) (f : Rail → Rail) : (s.updRail n f).rails = s.rails.upd {} n f := rfl
@[simp] theorem State.updRail_seq (s : State) (n : Nat) (f : Rail → Rail) : (s.updRail n f).seq = s.seq := rfl
@[simp] theorem State.updRail_tiles (s : State) (n : Nat) (f : Rail → Rail) : (s.updRail n f).tiles = s.tiles := rfl
@[simp] theorem State.updRail_comps (s : State) (n : Nat) (f : Rail → Rail) : (s.updRail n f).comps = s.comps := rfl
@[simp] theorem State.updRail_windows (s : State) (n : Nat) (f : Rail → Rail) : (s.updRail n f).windows = s.windows := rfl
@[simp] theorem State.updRail_ev (s : State) (n : Nat) (f : Rail → Rail) : (s.updRail n f).ev = s.ev := rfl
@[simp] theorem State.updRail_net (s : State) (n : Nat) (f : Rail → Rail) : (s.updRail n f).net = s.net := rfl
@[simp] theorem State.updRail_srdo (s : State) (n : Nat) (f : Rail → Rail) : (s.updRail n f).srdo = s.srdo := rfl
@[simp] theorem State.updRail_sec (s : State) (n : Nat) (f : Rail → Rail) : (s.updRail n f).sec = s.sec := rfl
@[simp] theorem State.updRail_lanes (s : State) (n : Nat) (f : Rail → Rail) : (s.updRail n f).lanes = s.lanes := rfl
@[simp] theorem State.updRail_link (s : State) (n : Nat) (f : Rail → Rail) : (s.updRail n f).link = s.link := rfl
@[simp] theorem State.updRail_cel (s : State) (n : Nat) (f : Rail → Rail) : (s.updRail n f).cel = s.cel := rfl
@[simp] theorem State.updRail_hists (s : State) (n : Nat) (f : Rail → Rail) : (s.updRail n f).hists = s.hists := rfl
@[simp] theorem State.updRail_histFrame (s : State) (n : Nat) (f : Rail → Rail) : (s.updRail n f).histFrame = s.histFrame := rfl
@[simp] theorem State.updRail_caps (s : State) (n : Nat) (f : Rail → Rail) : (s.updRail n f).caps = s.caps := rfl
@[simp] theorem State.updRail_cal (s : State) (n : Nat) (f : Rail → Rail) : (s.updRail n f).cal = s.cal := rfl
@[simp] theorem State.updRail_diag (s : State) (n : Nat) (f : Rail → Rail) : (s.updRail n f).diag = s.diag := rfl
@[simp] theorem State.updRail_pending (s : State) (n : Nat) (f : Rail → Rail) : (s.updRail n f).pending = s.pending := rfl

@[simp] theorem State.updTile_part (s : State) (t : Nat) (f : Tile → Tile) : (s.updTile t f).part = s.part := rfl
@[simp] theorem State.updTile_md (s : State) (t : Nat) (f : Tile → Tile) : (s.updTile t f).md = s.md := rfl
@[simp] theorem State.updTile_pins (s : State) (t : Nat) (f : Tile → Tile) : (s.updTile t f).pins = s.pins := rfl
@[simp] theorem State.updTile_clk (s : State) (t : Nat) (f : Tile → Tile) : (s.updTile t f).clk = s.clk := rfl
@[simp] theorem State.updTile_obj (s : State) (t : Nat) (f : Tile → Tile) : (s.updTile t f).obj = s.obj := rfl
@[simp] theorem State.updTile_loops (s : State) (t : Nat) (f : Tile → Tile) : (s.updTile t f).loops = s.loops := rfl
@[simp] theorem State.updTile_phases (s : State) (t : Nat) (f : Tile → Tile) : (s.updTile t f).phases = s.phases := rfl
@[simp] theorem State.updTile_rails (s : State) (t : Nat) (f : Tile → Tile) : (s.updTile t f).rails = s.rails := rfl
@[simp] theorem State.updTile_seq (s : State) (t : Nat) (f : Tile → Tile) : (s.updTile t f).seq = s.seq := rfl
@[simp] theorem State.updTile_tiles (s : State) (t : Nat) (f : Tile → Tile) : (s.updTile t f).tiles = s.tiles.upd {} t f := rfl
@[simp] theorem State.updTile_comps (s : State) (t : Nat) (f : Tile → Tile) : (s.updTile t f).comps = s.comps := rfl
@[simp] theorem State.updTile_windows (s : State) (t : Nat) (f : Tile → Tile) : (s.updTile t f).windows = s.windows := rfl
@[simp] theorem State.updTile_ev (s : State) (t : Nat) (f : Tile → Tile) : (s.updTile t f).ev = s.ev := rfl
@[simp] theorem State.updTile_net (s : State) (t : Nat) (f : Tile → Tile) : (s.updTile t f).net = s.net := rfl
@[simp] theorem State.updTile_srdo (s : State) (t : Nat) (f : Tile → Tile) : (s.updTile t f).srdo = s.srdo := rfl
@[simp] theorem State.updTile_sec (s : State) (t : Nat) (f : Tile → Tile) : (s.updTile t f).sec = s.sec := rfl
@[simp] theorem State.updTile_lanes (s : State) (t : Nat) (f : Tile → Tile) : (s.updTile t f).lanes = s.lanes := rfl
@[simp] theorem State.updTile_link (s : State) (t : Nat) (f : Tile → Tile) : (s.updTile t f).link = s.link := rfl
@[simp] theorem State.updTile_cel (s : State) (t : Nat) (f : Tile → Tile) : (s.updTile t f).cel = s.cel := rfl
@[simp] theorem State.updTile_hists (s : State) (t : Nat) (f : Tile → Tile) : (s.updTile t f).hists = s.hists := rfl
@[simp] theorem State.updTile_histFrame (s : State) (t : Nat) (f : Tile → Tile) : (s.updTile t f).histFrame = s.histFrame := rfl
@[simp] theorem State.updTile_caps (s : State) (t : Nat) (f : Tile → Tile) : (s.updTile t f).caps = s.caps := rfl
@[simp] theorem State.updTile_cal (s : State) (t : Nat) (f : Tile → Tile) : (s.updTile t f).cal = s.cal := rfl
@[simp] theorem State.updTile_diag (s : State) (t : Nat) (f : Tile → Tile) : (s.updTile t f).diag = s.diag := rfl
@[simp] theorem State.updTile_pending (s : State) (t : Nat) (f : Tile → Tile) : (s.updTile t f).pending = s.pending := rfl

@[simp] theorem State.updComp_part (s : State) (t c : Nat) (f : Comp → Comp) : (s.updComp t c f).part = s.part := rfl
@[simp] theorem State.updComp_md (s : State) (t c : Nat) (f : Comp → Comp) : (s.updComp t c f).md = s.md := rfl
@[simp] theorem State.updComp_pins (s : State) (t c : Nat) (f : Comp → Comp) : (s.updComp t c f).pins = s.pins := rfl
@[simp] theorem State.updComp_clk (s : State) (t c : Nat) (f : Comp → Comp) : (s.updComp t c f).clk = s.clk := rfl
@[simp] theorem State.updComp_obj (s : State) (t c : Nat) (f : Comp → Comp) : (s.updComp t c f).obj = s.obj := rfl
@[simp] theorem State.updComp_loops (s : State) (t c : Nat) (f : Comp → Comp) : (s.updComp t c f).loops = s.loops := rfl
@[simp] theorem State.updComp_phases (s : State) (t c : Nat) (f : Comp → Comp) : (s.updComp t c f).phases = s.phases := rfl
@[simp] theorem State.updComp_rails (s : State) (t c : Nat) (f : Comp → Comp) : (s.updComp t c f).rails = s.rails := rfl
@[simp] theorem State.updComp_seq (s : State) (t c : Nat) (f : Comp → Comp) : (s.updComp t c f).seq = s.seq := rfl
@[simp] theorem State.updComp_tiles (s : State) (t c : Nat) (f : Comp → Comp) : (s.updComp t c f).tiles = s.tiles := rfl
@[simp] theorem State.updComp_comps (s : State) (t c : Nat) (f : Comp → Comp) : (s.updComp t c f).comps = s.comps.upd {} (64 * t + c) f := rfl
@[simp] theorem State.updComp_windows (s : State) (t c : Nat) (f : Comp → Comp) : (s.updComp t c f).windows = s.windows := rfl
@[simp] theorem State.updComp_ev (s : State) (t c : Nat) (f : Comp → Comp) : (s.updComp t c f).ev = s.ev := rfl
@[simp] theorem State.updComp_net (s : State) (t c : Nat) (f : Comp → Comp) : (s.updComp t c f).net = s.net := rfl
@[simp] theorem State.updComp_srdo (s : State) (t c : Nat) (f : Comp → Comp) : (s.updComp t c f).srdo = s.srdo := rfl
@[simp] theorem State.updComp_sec (s : State) (t c : Nat) (f : Comp → Comp) : (s.updComp t c f).sec = s.sec := rfl
@[simp] theorem State.updComp_lanes (s : State) (t c : Nat) (f : Comp → Comp) : (s.updComp t c f).lanes = s.lanes := rfl
@[simp] theorem State.updComp_link (s : State) (t c : Nat) (f : Comp → Comp) : (s.updComp t c f).link = s.link := rfl
@[simp] theorem State.updComp_cel (s : State) (t c : Nat) (f : Comp → Comp) : (s.updComp t c f).cel = s.cel := rfl
@[simp] theorem State.updComp_hists (s : State) (t c : Nat) (f : Comp → Comp) : (s.updComp t c f).hists = s.hists := rfl
@[simp] theorem State.updComp_histFrame (s : State) (t c : Nat) (f : Comp → Comp) : (s.updComp t c f).histFrame = s.histFrame := rfl
@[simp] theorem State.updComp_caps (s : State) (t c : Nat) (f : Comp → Comp) : (s.updComp t c f).caps = s.caps := rfl
@[simp] theorem State.updComp_cal (s : State) (t c : Nat) (f : Comp → Comp) : (s.updComp t c f).cal = s.cal := rfl
@[simp] theorem State.updComp_diag (s : State) (t c : Nat) (f : Comp → Comp) : (s.updComp t c f).diag = s.diag := rfl
@[simp] theorem State.updComp_pending (s : State) (t c : Nat) (f : Comp → Comp) : (s.updComp t c f).pending = s.pending := rfl

@[simp] theorem State.updLane_part (s : State) (t : Nat) (f : Lane → Lane) : (s.updLane t f).part = s.part := rfl
@[simp] theorem State.updLane_md (s : State) (t : Nat) (f : Lane → Lane) : (s.updLane t f).md = s.md := rfl
@[simp] theorem State.updLane_pins (s : State) (t : Nat) (f : Lane → Lane) : (s.updLane t f).pins = s.pins := rfl
@[simp] theorem State.updLane_clk (s : State) (t : Nat) (f : Lane → Lane) : (s.updLane t f).clk = s.clk := rfl
@[simp] theorem State.updLane_obj (s : State) (t : Nat) (f : Lane → Lane) : (s.updLane t f).obj = s.obj := rfl
@[simp] theorem State.updLane_loops (s : State) (t : Nat) (f : Lane → Lane) : (s.updLane t f).loops = s.loops := rfl
@[simp] theorem State.updLane_phases (s : State) (t : Nat) (f : Lane → Lane) : (s.updLane t f).phases = s.phases := rfl
@[simp] theorem State.updLane_rails (s : State) (t : Nat) (f : Lane → Lane) : (s.updLane t f).rails = s.rails := rfl
@[simp] theorem State.updLane_seq (s : State) (t : Nat) (f : Lane → Lane) : (s.updLane t f).seq = s.seq := rfl
@[simp] theorem State.updLane_tiles (s : State) (t : Nat) (f : Lane → Lane) : (s.updLane t f).tiles = s.tiles := rfl
@[simp] theorem State.updLane_comps (s : State) (t : Nat) (f : Lane → Lane) : (s.updLane t f).comps = s.comps := rfl
@[simp] theorem State.updLane_windows (s : State) (t : Nat) (f : Lane → Lane) : (s.updLane t f).windows = s.windows := rfl
@[simp] theorem State.updLane_ev (s : State) (t : Nat) (f : Lane → Lane) : (s.updLane t f).ev = s.ev := rfl
@[simp] theorem State.updLane_net (s : State) (t : Nat) (f : Lane → Lane) : (s.updLane t f).net = s.net := rfl
@[simp] theorem State.updLane_srdo (s : State) (t : Nat) (f : Lane → Lane) : (s.updLane t f).srdo = s.srdo := rfl
@[simp] theorem State.updLane_sec (s : State) (t : Nat) (f : Lane → Lane) : (s.updLane t f).sec = s.sec := rfl
@[simp] theorem State.updLane_lanes (s : State) (t : Nat) (f : Lane → Lane) : (s.updLane t f).lanes = s.lanes.upd {} t f := rfl
@[simp] theorem State.updLane_link (s : State) (t : Nat) (f : Lane → Lane) : (s.updLane t f).link = s.link := rfl
@[simp] theorem State.updLane_cel (s : State) (t : Nat) (f : Lane → Lane) : (s.updLane t f).cel = s.cel := rfl
@[simp] theorem State.updLane_hists (s : State) (t : Nat) (f : Lane → Lane) : (s.updLane t f).hists = s.hists := rfl
@[simp] theorem State.updLane_histFrame (s : State) (t : Nat) (f : Lane → Lane) : (s.updLane t f).histFrame = s.histFrame := rfl
@[simp] theorem State.updLane_caps (s : State) (t : Nat) (f : Lane → Lane) : (s.updLane t f).caps = s.caps := rfl
@[simp] theorem State.updLane_cal (s : State) (t : Nat) (f : Lane → Lane) : (s.updLane t f).cal = s.cal := rfl
@[simp] theorem State.updLane_diag (s : State) (t : Nat) (f : Lane → Lane) : (s.updLane t f).diag = s.diag := rfl
@[simp] theorem State.updLane_pending (s : State) (t : Nat) (f : Lane → Lane) : (s.updLane t f).pending = s.pending := rfl

@[simp] theorem State.updCellar_part (s : State) (t : Nat) (f : Cellar → Cellar) : (s.updCellar t f).part = s.part := rfl
@[simp] theorem State.updCellar_md (s : State) (t : Nat) (f : Cellar → Cellar) : (s.updCellar t f).md = s.md := rfl
@[simp] theorem State.updCellar_pins (s : State) (t : Nat) (f : Cellar → Cellar) : (s.updCellar t f).pins = s.pins := rfl
@[simp] theorem State.updCellar_clk (s : State) (t : Nat) (f : Cellar → Cellar) : (s.updCellar t f).clk = s.clk := rfl
@[simp] theorem State.updCellar_obj (s : State) (t : Nat) (f : Cellar → Cellar) : (s.updCellar t f).obj = s.obj := rfl
@[simp] theorem State.updCellar_loops (s : State) (t : Nat) (f : Cellar → Cellar) : (s.updCellar t f).loops = s.loops := rfl
@[simp] theorem State.updCellar_phases (s : State) (t : Nat) (f : Cellar → Cellar) : (s.updCellar t f).phases = s.phases := rfl
@[simp] theorem State.updCellar_rails (s : State) (t : Nat) (f : Cellar → Cellar) : (s.updCellar t f).rails = s.rails := rfl
@[simp] theorem State.updCellar_seq (s : State) (t : Nat) (f : Cellar → Cellar) : (s.updCellar t f).seq = s.seq := rfl
@[simp] theorem State.updCellar_tiles (s : State) (t : Nat) (f : Cellar → Cellar) : (s.updCellar t f).tiles = s.tiles := rfl
@[simp] theorem State.updCellar_comps (s : State) (t : Nat) (f : Cellar → Cellar) : (s.updCellar t f).comps = s.comps := rfl
@[simp] theorem State.updCellar_windows (s : State) (t : Nat) (f : Cellar → Cellar) : (s.updCellar t f).windows = s.windows := rfl
@[simp] theorem State.updCellar_ev (s : State) (t : Nat) (f : Cellar → Cellar) : (s.updCellar t f).ev = s.ev := rfl
@[simp] theorem State.updCellar_net (s : State) (t : Nat) (f : Cellar → Cellar) : (s.updCellar t f).net = s.net := rfl
@[simp] theorem State.updCellar_srdo (s : State) (t : Nat) (f : Cellar → Cellar) : (s.updCellar t f).srdo = s.srdo := rfl
@[simp] theorem State.updCellar_sec (s : State) (t : Nat) (f : Cellar → Cellar) : (s.updCellar t f).sec = s.sec := rfl
@[simp] theorem State.updCellar_lanes (s : State) (t : Nat) (f : Cellar → Cellar) : (s.updCellar t f).lanes = s.lanes := rfl
@[simp] theorem State.updCellar_link (s : State) (t : Nat) (f : Cellar → Cellar) : (s.updCellar t f).link = s.link := rfl
@[simp] theorem State.updCellar_cel (s : State) (t : Nat) (f : Cellar → Cellar) : (s.updCellar t f).cel = { s.cel with cellars := s.cel.cellars.upd {} t f } := rfl
@[simp] theorem State.updCellar_hists (s : State) (t : Nat) (f : Cellar → Cellar) : (s.updCellar t f).hists = s.hists := rfl
@[simp] theorem State.updCellar_histFrame (s : State) (t : Nat) (f : Cellar → Cellar) : (s.updCellar t f).histFrame = s.histFrame := rfl
@[simp] theorem State.updCellar_caps (s : State) (t : Nat) (f : Cellar → Cellar) : (s.updCellar t f).caps = s.caps := rfl
@[simp] theorem State.updCellar_cal (s : State) (t : Nat) (f : Cellar → Cellar) : (s.updCellar t f).cal = s.cal := rfl
@[simp] theorem State.updCellar_diag (s : State) (t : Nat) (f : Cellar → Cellar) : (s.updCellar t f).diag = s.diag := rfl
@[simp] theorem State.updCellar_pending (s : State) (t : Nat) (f : Cellar → Cellar) : (s.updCellar t f).pending = s.pending := rfl

@[simp] theorem State.reach_part (s : State) (d : Nat) : (s.reach d).part = s.part := rfl
@[simp] theorem State.reach_md (s : State) (d : Nat) : (s.reach d).md = s.md := rfl
@[simp] theorem State.reach_pins (s : State) (d : Nat) : (s.reach d).pins = s.pins := rfl
@[simp] theorem State.reach_clk (s : State) (d : Nat) : (s.reach d).clk = { s.clk with time := Nat.max s.clk.time d } := rfl
@[simp] theorem State.reach_obj (s : State) (d : Nat) : (s.reach d).obj = s.obj := rfl
@[simp] theorem State.reach_loops (s : State) (d : Nat) : (s.reach d).loops = s.loops := rfl
@[simp] theorem State.reach_phases (s : State) (d : Nat) : (s.reach d).phases = s.phases := rfl
@[simp] theorem State.reach_rails (s : State) (d : Nat) : (s.reach d).rails = s.rails := rfl
@[simp] theorem State.reach_seq (s : State) (d : Nat) : (s.reach d).seq = s.seq := rfl
@[simp] theorem State.reach_tiles (s : State) (d : Nat) : (s.reach d).tiles = s.tiles := rfl
@[simp] theorem State.reach_comps (s : State) (d : Nat) : (s.reach d).comps = s.comps := rfl
@[simp] theorem State.reach_windows (s : State) (d : Nat) : (s.reach d).windows = s.windows := rfl
@[simp] theorem State.reach_ev (s : State) (d : Nat) : (s.reach d).ev = s.ev := rfl
@[simp] theorem State.reach_net (s : State) (d : Nat) : (s.reach d).net = s.net := rfl
@[simp] theorem State.reach_srdo (s : State) (d : Nat) : (s.reach d).srdo = s.srdo := rfl
@[simp] theorem State.reach_sec (s : State) (d : Nat) : (s.reach d).sec = s.sec := rfl
@[simp] theorem State.reach_lanes (s : State) (d : Nat) : (s.reach d).lanes = s.lanes := rfl
@[simp] theorem State.reach_link (s : State) (d : Nat) : (s.reach d).link = s.link := rfl
@[simp] theorem State.reach_cel (s : State) (d : Nat) : (s.reach d).cel = s.cel := rfl
@[simp] theorem State.reach_hists (s : State) (d : Nat) : (s.reach d).hists = s.hists := rfl
@[simp] theorem State.reach_histFrame (s : State) (d : Nat) : (s.reach d).histFrame = s.histFrame := rfl
@[simp] theorem State.reach_caps (s : State) (d : Nat) : (s.reach d).caps = s.caps := rfl
@[simp] theorem State.reach_cal (s : State) (d : Nat) : (s.reach d).cal = s.cal := rfl
@[simp] theorem State.reach_diag (s : State) (d : Nat) : (s.reach d).diag = s.diag := rfl
@[simp] theorem State.reach_pending (s : State) (d : Nat) : (s.reach d).pending = s.pending := rfl

@[simp] theorem State.put_part (s : State) (idx sub v : Nat) : (s.put idx sub v).part = s.part := rfl
@[simp] theorem State.put_md (s : State) (idx sub v : Nat) : (s.put idx sub v).md = s.md := rfl
@[simp] theorem State.put_pins (s : State) (idx sub v : Nat) : (s.put idx sub v).pins = s.pins := rfl
@[simp] theorem State.put_clk (s : State) (idx sub v : Nat) : (s.put idx sub v).clk = s.clk := rfl
@[simp] theorem State.put_obj (s : State) (idx sub v : Nat) : (s.put idx sub v).obj = s.obj.put (okey idx sub) v := rfl
@[simp] theorem State.put_loops (s : State) (idx sub v : Nat) : (s.put idx sub v).loops = s.loops := rfl
@[simp] theorem State.put_phases (s : State) (idx sub v : Nat) : (s.put idx sub v).phases = s.phases := rfl
@[simp] theorem State.put_rails (s : State) (idx sub v : Nat) : (s.put idx sub v).rails = s.rails := rfl
@[simp] theorem State.put_seq (s : State) (idx sub v : Nat) : (s.put idx sub v).seq = s.seq := rfl
@[simp] theorem State.put_tiles (s : State) (idx sub v : Nat) : (s.put idx sub v).tiles = s.tiles := rfl
@[simp] theorem State.put_comps (s : State) (idx sub v : Nat) : (s.put idx sub v).comps = s.comps := rfl
@[simp] theorem State.put_windows (s : State) (idx sub v : Nat) : (s.put idx sub v).windows = s.windows := rfl
@[simp] theorem State.put_ev (s : State) (idx sub v : Nat) : (s.put idx sub v).ev = s.ev := rfl
@[simp] theorem State.put_net (s : State) (idx sub v : Nat) : (s.put idx sub v).net = s.net := rfl
@[simp] theorem State.put_srdo (s : State) (idx sub v : Nat) : (s.put idx sub v).srdo = s.srdo := rfl
@[simp] theorem State.put_sec (s : State) (idx sub v : Nat) : (s.put idx sub v).sec = s.sec := rfl
@[simp] theorem State.put_lanes (s : State) (idx sub v : Nat) : (s.put idx sub v).lanes = s.lanes := rfl
@[simp] theorem State.put_link (s : State) (idx sub v : Nat) : (s.put idx sub v).link = s.link := rfl
@[simp] theorem State.put_cel (s : State) (idx sub v : Nat) : (s.put idx sub v).cel = s.cel := rfl
@[simp] theorem State.put_hists (s : State) (idx sub v : Nat) : (s.put idx sub v).hists = s.hists := rfl
@[simp] theorem State.put_histFrame (s : State) (idx sub v : Nat) : (s.put idx sub v).histFrame = s.histFrame := rfl
@[simp] theorem State.put_caps (s : State) (idx sub v : Nat) : (s.put idx sub v).caps = s.caps := rfl
@[simp] theorem State.put_cal (s : State) (idx sub v : Nat) : (s.put idx sub v).cal = s.cal := rfl
@[simp] theorem State.put_diag (s : State) (idx sub v : Nat) : (s.put idx sub v).diag = s.diag := rfl
@[simp] theorem State.put_pending (s : State) (idx sub v : Nat) : (s.put idx sub v).pending = s.pending := rfl

/-! ### Reads after updates -/

@[simp] theorem State.loop_updLoop (s : State) (l : Nat) (f : Loop → Loop) : (s.updLoop l f).loop l = f (s.loop l) :=
  Tab.get_upd_same ..
theorem State.loop_updLoop_other (s : State) {l m : Nat} (f : Loop → Loop) (h : m ≠ l) : (s.updLoop l f).loop m = s.loop m :=
  Tab.get_upd_other _ _ _ h
@[simp] theorem State.phase_updPhase (s : State) (p : Nat) (f : Phase → Phase) : (s.updPhase p f).phase p = f (s.phase p) :=
  Tab.get_upd_same ..
theorem State.phase_updPhase_other (s : State) {p q : Nat} (f : Phase → Phase) (h : q ≠ p) :
    (s.updPhase p f).phase q = s.phase q := Tab.get_upd_other _ _ _ h
@[simp] theorem State.rail_updRail (s : State) (n : Nat) (f : Rail → Rail) : (s.updRail n f).rail n = f (s.rail n) :=
  Tab.get_upd_same ..
theorem State.rail_updRail_other (s : State) {n m : Nat} (f : Rail → Rail) (h : m ≠ n) : (s.updRail n f).rail m = s.rail m :=
  Tab.get_upd_other _ _ _ h
@[simp] theorem State.tile_updTile (s : State) (t : Nat) (f : Tile → Tile) : (s.updTile t f).tile t = f (s.tile t) :=
  Tab.get_upd_same ..
theorem State.tile_updTile_other (s : State) {t u : Nat} (f : Tile → Tile) (h : u ≠ t) : (s.updTile t f).tile u = s.tile u :=
  Tab.get_upd_other _ _ _ h
@[simp] theorem State.comp_updComp (s : State) (t c : Nat) (f : Comp → Comp) : (s.updComp t c f).comp t c = f (s.comp t c) :=
  Tab.get_upd_same ..
@[simp] theorem State.lane_updLane (s : State) (t : Nat) (f : Lane → Lane) : (s.updLane t f).lane t = f (s.lane t) :=
  Tab.get_upd_same ..
theorem State.lane_updLane_other (s : State) {t u : Nat} (f : Lane → Lane) (h : u ≠ t) : (s.updLane t f).lane u = s.lane u :=
  Tab.get_upd_other _ _ _ h
@[simp] theorem State.cellar_updCellar (s : State) (t : Nat) (f : Cellar → Cellar) :
    (s.updCellar t f).cellar t = f (s.cellar t) := Tab.get_upd_same ..
theorem State.cellar_updCellar_other (s : State) {t u : Nat} (f : Cellar → Cellar) (h : u ≠ t) :
    (s.updCellar t f).cellar u = s.cellar u := Tab.get_upd_other _ _ _ h
/-- A read of an object after a write to it. -/
@[simp] theorem State.ob_put (s : State) (idx sub v : Nat) : (s.put idx sub v).ob idx sub = v := by
  simp only [State.ob, State.put, ObjGrp.val, ObjGrp.put, Tab.get_set_same, Option.getD_some]
/-- A write leaves every other object alone. -/
theorem State.ob_put_other (s : State) {idx sub i j : Nat} (v : Nat) (h : okey i j ≠ okey idx sub) :
    (s.put idx sub v).ob i j = s.ob i j := by
  simp only [State.ob, State.put, ObjGrp.val, ObjGrp.put, Tab.get_set_other _ _ _ h, State.T]

end Sys2Proof.Machine
end

