-- ==== Sys2Proof/Laws/Numbers.lean ====
section
/-! SUPPORT. Lemmas on numbers, lists and tables: rounding, the CRC of the lane, the order of a queue, results. -/

namespace Sys2Proof.Machine

/-- The rounded quotient is a nearest integer. -/
theorem roundAway_bounds (n : Int) (d : Nat) (hd : 0 < d) :
    2 * n ≤ (2 * roundAway n d + 1) * d ∧ (2 * roundAway n d - 1) * d ≤ 2 * n := by
  have h2 : (0:Int) < 2 * d := by omega
  unfold roundAway
  split
  · have h := Int.mul_ediv_add_emod (2 * n + d) (2 * d)
    have a := Int.emod_nonneg (2 * n + d) (show (2 * (d:Int)) ≠ 0 by omega)
    have b := Int.emod_lt_of_pos (2 * n + d) h2
    constructor <;> nlinarith
  · have h := Int.mul_ediv_add_emod (-(2 * n) + d) (2 * d)
    have a := Int.emod_nonneg (-(2 * n) + d) (show (2 * (d:Int)) ≠ 0 by omega)
    have b := Int.emod_lt_of_pos (-(2 * n) + d) h2
    constructor <;> nlinarith

/-- The reset factors change no code (R316, R317). -/
theorem correct_id (c : Nat) (h : c ≤ 4095) : correctCode 0x8000 0 c = c := by
  have h1 : roundAway ((16 * (c : Int) - 0) * (0x8000 : Nat)) 524288 = c := by
    unfold roundAway
    rw [if_pos (by omega)]
    omega
  unfold correctCode
  rw [h1]
  unfold clampI
  omega

/-- One step of the CRC stays within a byte. -/
theorem crc8Bit_lt (c : Nat) (b : Bool) : crc8Bit c b < 256 := by
  unfold crc8Bit; split <;> exact Nat.mod_lt _ (by decide)

/-- The CRC is a byte (R259). -/
theorem crc8_lt (v n : Nat) : crc8 v n < 256 := by
  unfold crc8
  generalize (List.range n).reverse = L
  have : ∀ (L : List Nat) (c : Nat), c < 256 → L.foldl (fun c i => crc8Bit c (bit v i)) c < 256 := by
    intro L
    induction L with
    | nil => intro c h; exact h
    | cons x L ih => intro c h; exact ih _ (crc8Bit_lt _ _)
  exact this L 0 (by decide)

/-- The CRC bit by bit, most significant first (R259). -/
theorem crc8_succ (v n : Nat) : crc8 v (n + 1) = crc8Bit (crc8 (v / 2) n) (v % 2 == 1) := by
  unfold crc8
  have h : (List.range (n + 1)).reverse = ((List.range n).reverse.map (· + 1)) ++ [0] := by
    rw [List.range_succ_eq_map, List.reverse_cons, List.map_reverse]
  rw [h, List.foldl_append, List.foldl_map]
  have g : ∀ i, bit v (i + 1) = bit (v / 2) i := by
    intro i
    unfold bit
    rw [Nat.pow_succ, Nat.mul_comm, Nat.div_div_eq_div_mul]
  simp only [g]
  simp [bit]

/-- The next SEQ is newer (R414). -/
theorem newer_succ (q : Nat) (h : q < 65536) : newer ((q + 1) % 65536) q = true := by
  unfold newer; simp only [Bool.and_eq_true, decide_eq_true_eq]; omega

/-- The one before is not (R414). -/
theorem newer_pred (q : Nat) : newer q ((q + 1) % 65536) = false := by
  unfold newer; simp only [Bool.and_eq_false_iff, decide_eq_false_iff_not]; omega

/-- Where a reaction stands in an ordered queue (R389). -/
theorem insert_eq (r : Reaction) (q : List Reaction) (h : (q.map (·.sev)).Pairwise (· ≥ ·)) :
    insertReaction r q = q.filter (fun x => decide (r.sev ≤ x.sev)) ++ [r] ++ q.filter (fun x => decide (x.sev < r.sev)) := by
  induction q with
  | nil => rfl
  | cons a q ih =>
    simp only [List.map_cons, List.pairwise_cons] at h
    unfold insertReaction
    split
    · rename_i hl
      have h1 : (a :: q).filter (fun x => decide (r.sev ≤ x.sev)) = [] := by
        rw [List.filter_eq_nil_iff]
        intro x hx
        rcases List.mem_cons.mp hx with rfl | hx
        · simp; omega
        · have := h.1 x.sev (List.mem_map_of_mem hx); simp; omega
      have h2 : (a :: q).filter (fun x => decide (x.sev < r.sev)) = a :: q := by
        rw [List.filter_eq_self]
        intro x hx
        rcases List.mem_cons.mp hx with rfl | hx
        · simp; omega
        · have := h.1 x.sev (List.mem_map_of_mem hx); simp; omega
      rw [h1, h2]; rfl
    · rename_i hl
      rw [ih h.2, List.filter_cons_of_pos (by simp; omega), List.filter_cons_of_neg (by simp; omega)]
      rfl

theorem insert_len (r : Reaction) (q : List Reaction) : (insertReaction r q).length = q.length + 1 := by
  induction q with
  | nil => rfl
  | cons a q ih => unfold insertReaction; split <;> simp_all

theorem insert_perm (r : Reaction) (q : List Reaction) : (insertReaction r q).Perm (r :: q) := by
  induction q with
  | nil => exact List.Perm.refl _
  | cons a q ih =>
    unfold insertReaction; split
    · exact List.Perm.refl _
    · exact (List.Perm.cons a ih).trans (List.Perm.swap ..)

theorem insert_mem (r x : Reaction) (q : List Reaction) (h : x ∈ insertReaction r q) : x = r ∨ x ∈ q := by
  simpa using (insert_perm r q).mem_iff.mp h

/-- The queue stays ordered (R389). -/
theorem insert_sorted (r : Reaction) (q : List Reaction) (h : (q.map (·.sev)).Pairwise (· ≥ ·)) :
    ((insertReaction r q).map (·.sev)).Pairwise (· ≥ ·) := by
  induction q with
  | nil => simp [insertReaction]
  | cons a q ih =>
    have h0 := h
    simp only [List.map_cons, List.pairwise_cons] at h
    unfold insertReaction
    split
    · rename_i hl
      simp only [List.map_cons, List.pairwise_cons]
      refine ⟨?_, h⟩
      intro b hb
      rcases List.mem_cons.mp hb with rfl | hb
      · omega
      · have := h.1 b hb; omega
    · rename_i hl
      simp only [List.map_cons, List.pairwise_cons]
      refine ⟨?_, ih h.2⟩
      intro b hb
      obtain ⟨x, hx, rfl⟩ := List.mem_map.mp hb
      rcases insert_mem r x q hx with rfl | hx
      · omega
      · exact h.1 _ (List.mem_map_of_mem hx)

/-- A result has 12 + s bits (R306). -/
theorem result_lt (k sh S : Nat) (h : sh ≤ k) (hs : S ≤ 4095 * 2 ^ k) : entryResultOf k sh S < 2 ^ (12 + sh) := by
  unfold entryResultOf
  have e : 2 ^ (12 + sh) = 4096 * 2 ^ sh := by rw [pow_add]; norm_num
  have p : 0 < 2 ^ sh := Nat.pos_of_ne_zero (by positivity)
  split
  · rename_i hk
    obtain ⟨d, rfl⟩ : ∃ d, k = sh + d + 1 := ⟨k - sh - 1, by omega⟩
    rw [show sh + d + 1 - sh - 1 = d by omega, show sh + d + 1 - sh = d + 1 by omega, e]
    rw [Nat.div_lt_iff_lt_mul (by positivity)]
    have e2 : 2 ^ (sh + d + 1) = 2 ^ sh * 2 ^ d * 2 := by rw [pow_add, pow_add]; ring
    have e3 : 2 ^ (d + 1) = 2 ^ d * 2 := by ring
    rw [e2] at hs; rw [e3]
    have q : 0 < 2 ^ d := by positivity
    have r : 2 ^ d ≤ 2 ^ sh * 2 ^ d := Nat.le_mul_of_pos_left _ p
    nlinarith
  · have : k = sh := by omega
    subst this
    omega

/-- What every step of a fold keeps. -/
theorem foldl_inv {α β : Type} (g : State → β) (f : State → α → State) (h : ∀ s a, g (f s a) = g s) (l : List α) (s : State) : g (l.foldl f s) = g s := by
  induction l generalizing s with
  | nil => rfl
  | cons a l ih => rw [List.foldl_cons, ih, h]

theorem upd_congr {α : Type} [DecidableEq α] (d : α) (tb : Tab α) (i : Nat) (f g : α → α) (h : f (tb.get d i) = g (tb.get d i)) : tb.upd d i f = tb.upd d i g := by
  simp only [Tab.upd, h]

theorem updLoop_congr (s : State) (l : Nat) (f g : Loop → Loop) (h : f (s.loop l) = g (s.loop l)) : s.updLoop l f = s.updLoop l g := by
  simp only [State.updLoop, Tab.upd]
  simp only [State.loop] at h
  rw [h]

theorem updCellar_congr (s : State) (t : Nat) (f g : Cellar → Cellar) (h : f (s.cellar t) = g (s.cellar t)) : s.updCellar t f = s.updCellar t g := by
  simp only [State.updCellar]
  rw [upd_congr _ _ _ f g h]

end Sys2Proof.Machine
end

