-- ==== Sys2Proof/Laws/Lane.lean ====
section
/-! SUPPORT. Lemmas on the lane: what an accepted command does. -/

namespace Sys2Proof.Machine

/-- The fields that the part reads from a request frame (R257). -/
theorem request_fields (k op v seq : Nat) (hk : k < 4) (ho : op < 64) (hv : v < 65536) (hq : seq < 16) :
    field (requestFrame k op v seq) 36 4 = 13 ∧ crc8 (field (requestFrame k op v seq) 8 28) 28 = requestFrame k op v seq % 256 ∧
    field (requestFrame k op v seq) 34 2 = k ∧ field (requestFrame k op v seq) 28 6 = op ∧ field (requestFrame k op v seq) 12 16 = v ∧
    field (requestFrame k op v seq) 8 4 = seq := by
  have hb : requestFrame k op v seq = 13 * 2 ^ 36 + (k * 2 ^ 26 + op * 2 ^ 20 + v * 16 + seq) * 256 + crc8 (k * 2 ^ 26 + op * 2 ^ 20 + v * 16 + seq) 28 := by
    simp only [requestFrame, Nat.mod_eq_of_lt hk, Nat.mod_eq_of_lt ho, Nat.mod_eq_of_lt hv, Nat.mod_eq_of_lt hq]
  have hc := crc8_lt (k * 2 ^ 26 + op * 2 ^ 20 + v * 16 + seq) 28
  rw [hb]
  generalize hd : crc8 (k * 2 ^ 26 + op * 2 ^ 20 + v * 16 + seq) 28 = c at *
  have e : field (13 * 2 ^ 36 + (k * 2 ^ 26 + op * 2 ^ 20 + v * 16 + seq) * 256 + c) 8 28 = k * 2 ^ 26 + op * 2 ^ 20 + v * 16 + seq := by
    unfold field; omega
  refine ⟨?_, ?_, ?_, ?_, ?_, ?_⟩
  · unfold field; omega
  · rw [e, hd]; omega
  all_goals (unfold field; omega)

/-- A command that the part accepts, up to its execution (R262). -/
theorem lane_cmd {s : State} {t k seq l op v : Nat} (h : s.LaneReady t k seq l op v) :
   s.laneCommand t k op seq v = ((((s.polled t).laneExec t k op v).1.updLane t (fun ln => { ln with seqValid := true, lastSeq := seq, stored := ((s.polled t).laneExec t k op v).2 })).laneLast t k op v ((s.polled t).laneExec t k op v).2).updLane t
    (fun ln => { ln with response := some ((s.polled t).laneExec t k op v).2, fails := 0 }) := by
  obtain ⟨f1, f2, f3, f4, f5, f6⟩ := request_fields k op v seq h.slot (by have := h.listed; omega) h.payload h.seqRange
  have ho : op ≠ 0x3F := by have := h.listed; omega
  have hf : ¬ (((s.polled t).lane t).seqValid = true ∧ ((s.polled t).lane t).lastSeq = seq) := by
    have := h.fresh
    simp only [State.polled, State.lane_updLane]
    rcases this with h1 | h1
    · intro ⟨h2, _⟩
      have : (s.lane t).seqValid = true := h2
      simp_all
    · intro ⟨_, h2⟩
      exact h1 h2
  unfold State.laneCommand State.transact
  rw [if_pos (by simp [h.tile, h.on, h.idle])]
  dsimp only
  rw [show (((s.reach ((s.lane t).transEnd + 820)).updLane t (fun ln => { ln with
        poll := requestFrame 0 0x3F ((s.reach ((s.lane t).transEnd + 820)).pollPayload t) ln.polls, polls := wrapAdd 32 ln.polls 1
        transactions := wrapAdd 32 ln.transactions 1, transEnd := (s.reach ((s.lane t).transEnd + 820)).now + 360, alertLow := false })) = s.polled t) from rfl]
  have : (s.polled t).laneAnswer t (some (requestFrame k op v seq)) false = 
    ⟨(((s.polled t).laneExec t k op v).1.updLane t (fun ln => { ln with seqValid := true, lastSeq := seq, stored := ((s.polled t).laneExec t k op v).2 })).laneLast t k op v ((s.polled t).laneExec t k op v).2,
          some ((s.polled t).laneExec t k op v).2, false, true⟩ := by
    simp only [State.laneAnswer, f1, f2, f3, f4, f5, f6]
    simp only [ne_eq, not_true, if_false, ho, hf]
  rw [this]
  simp

/-- Its execution (R262). -/
theorem lane_exec {s : State} {t k seq l op v : Nat} (h : s.LaneReady t k seq l op v) :
   (s.polled t).laneExec t k op v = (if setOp op then ((s.polled t).laneSet t k l op v).countSet l else (s.polled t).laneSet t k l op v, responseFrame 0 k (((s.polled t).laneSet t k l op v).laneAck l op v)) := by
  have ha : (s.polled t).anchoredAt t k = some l := h.anchored
  have ho : ¬ (op = 0 ∨ 0xB < op) := by have := h.listed; omega
  have hr : (s.polled t).laneRange l op v = true := h.range
  have hw : ¬ ((ownerOp op && (s.polled t).lo l 0 8 != 1) = true) := by
    have := h.owner
    intro hh
    simp at hh
    exact hh.2 (this hh.1)
  simp only [State.laneExec, ha, ho, hr, if_false, hw]
  simp

/-- The start of a transaction (R253). -/
theorem poll_start {s : State} {t : Nat} (a : Option Nat) (h1 : s.hasTile t = true) (h2 : s.laneOn t = true) (h3 : (s.lane t).backoff = false) :
   s.transact t a false = (let r := (s.polled t).laneAnswer t a false
    let n := if r.failed then (r.st.lane t).fails + 1 else if r.clears then 0 else (r.st.lane t).fails
    let s2 := r.st.updLane t (fun ln => { ln with response := r.rsp, fails := n })
    if r.failed && decide (s2.ob (0x5000 + t) 2 + 1 ≤ n) then s2.laneExhausted t n else s2) := by
  unfold State.transact
  rw [if_pos (by simp [h1, h2, h3])]
  rfl

theorem polled_ob (s : State) (t i j : Nat) : (s.polled t).ob i j = s.ob i j := rfl

theorem polled_fails (s : State) (t : Nat) : ((s.polled t).lane t).fails = (s.lane t).fails := by simp [State.polled, State.lane_updLane]; rfl

theorem ob_updLane (s : State) (t i j : Nat) (f) : (s.updLane t f).ob i j = s.ob i j := rfl

theorem updLane_updLane (s : State) (t : Nat) (f g) : (s.updLane t f).updLane t g = s.updLane t (fun x => g (f x)) := by
  have e (tb : Tab Lane) (v : Lane) : Tab.erase t (Tab.insert t v (Tab.erase t tb)) = Tab.erase t tb := by
    induction tb with
    | nil => simp [Tab.erase, Tab.insert]
    | cons x tb ih =>
      by_cases hx : x.1 = t
      · simpa [Tab.erase, hx] using ih
      · by_cases hl : t < x.1
        · simp [Tab.erase, hx, Tab.insert, hl]
        · simp [Tab.erase, hx, Tab.insert, hl] at ih ⊢
          exact ih
  have e2 (tb : Tab Lane) : Tab.erase t (Tab.erase t tb) = Tab.erase t tb := by simp [Tab.erase]
  have e3 (tb : Tab Lane) (v w : Lane) : Tab.set {} (Tab.set {} tb t v) t w = Tab.set {} tb t w := by
    unfold Tab.set
    by_cases hv : v = {} <;> simp [hv, e, e2]
  simp only [State.updLane, Tab.upd, Tab.get_set_same, e3]

/-- What the record of an accepted command leaves unchanged. -/
theorem lane_frame (s : State) (t k seq l v op rsp : Nat) (ha : s.anchoredAt t k = some l) :
   ∃ x, x = (s.polled t).laneDone t k op v seq rsp ∧ x.obj = s.obj ∧ x.md = s.md ∧ x.pins = s.pins ∧ x.phases = s.phases ∧ x.rails = s.rails ∧
      x.seq = s.seq ∧ x.tiles = s.tiles ∧ x.comps = s.comps ∧ x.ev = s.ev ∧ x.net = s.net ∧ x.srdo = s.srdo ∧ x.sec = s.sec ∧
      x.link = s.link ∧ x.cel = s.cel ∧ x.hists = s.hists ∧ x.caps = s.caps ∧ x.cal = s.cal ∧ x.diag = s.diag ∧
      x.pending = s.pending ∧ x.part = s.part ∧ (∀ u, u ≠ t → x.lane u = s.lane u) ∧ (∀ m, m ≠ l → x.loop m = s.loop m) ∧
      (x.loop l) = { s.loop l with ln := (x.loop l).ln } ∧ (x.loop l).ln.latch = (s.loop l).ln.latch ∧
      (x.loop l).ln.acceptedSets = (s.loop l).ln.acceptedSets ∧ s.now ≤ x.now := by
  refine ⟨_, rfl, ?_⟩
  have hl : ∀ y : State, y.anchoredAt t k = some l → y.laneLast t k op v rsp = y.updLoop l (fun lp =>
        { lp with ln := { lp.ln with lastOpcode := op, lastPayload := v, lastStatus := field rsp 26 2 } }) := by
    intro y hy; simp [State.laneLast, hy]
  have ha2 : (((s.polled t).updLane t (fun ln => { ln with seqValid := true, lastSeq := seq, stored := rsp }))).anchoredAt t k = some l := ha
  simp only [State.laneDone, hl _ ha2]
  refine ⟨rfl, rfl, rfl, rfl, rfl, rfl, rfl, rfl, rfl, rfl, rfl, rfl, rfl, rfl, rfl, rfl, rfl, rfl, rfl, rfl, ?_, ?_, ?_, ?_, ?_, ?_⟩
  · intro u hu
    have e : ∀ (y : State) (f : Lane → Lane), (y.updLane t f).lane u = y.lane u := fun y f => State.lane_updLane_other y f hu
    rw [e]
    show ((((s.polled t).updLane t _).updLoop l _).lane u) = _
    have e2 : ∀ (y : State) (f : Loop → Loop), (y.updLoop l f).lane u = y.lane u := fun y f => rfl
    rw [e2, e]
    unfold State.polled
    dsimp only
    rw [e]; rfl
  · intro m hm
    have e3 : ∀ (y : State) (f : Lane → Lane), (y.updLane t f).loop m = y.loop m := fun y f => rfl
    rw [e3, State.loop_updLoop_other _ _ hm]; rfl
  all_goals
    have e3 : ∀ (y : State) (f : Lane → Lane), (y.updLane t f).loop l = y.loop l := fun y f => rfl
    try rw [e3, State.loop_updLoop]
    try rfl
  · show s.clk.time ≤ Nat.max s.clk.time _
    exact Nat.le_max_left ..

/-- The GET opcodes change nothing before their answer (R266). -/
theorem lane_exec' {s : State} {t k seq l op v : Nat} (h : s.LaneReady t k seq l op v) (ho : 5 ≤ op ∧ op ≤ 9) :
    s.laneCommand t k op seq v = (s.polled t).laneDone t k op v seq (responseFrame 0 k ((s.polled t).laneAck l op v)) := by
  obtain ⟨a, b⟩ := ho
  rw [lane_cmd h, lane_exec h, State.laneDone]
  have : op = 5 ∨ op = 6 ∨ op = 7 ∨ op = 8 ∨ op = 9 := by omega
  rcases this with rfl | rfl | rfl | rfl | rfl <;> simp [setOp, State.laneSet]

end Sys2Proof.Machine
end

