-- ==== Sys2Proof/Laws/Pages.lean ====
section
/-! SUPPORT. The layout of a page (R412) against the tests of a copy (R413). -/

namespace Sys2Proof.Machine

theorem crc32Step_lt {c : Nat} (h : c < 2 ^ 32) : crc32Step c < 2 ^ 32 := by
  unfold crc32Step
  split
  · exact Nat.xor_lt_two_pow (by omega) (by decide)
  · omega

theorem crc32Steps_lt {α : Type} (l : List α) {c : Nat} (h : c < 2 ^ 32) :
    l.foldl (fun c _ => crc32Step c) c < 2 ^ 32 := by
  induction l generalizing c with
  | nil => exact h
  | cons _ l ih => exact ih (crc32Step_lt h)

theorem crc32Bytes_lt (bs : List Nat) (hb : ∀ b ∈ bs, b < 2 ^ 32) {c : Nat} (h : c < 2 ^ 32) :
    bs.foldl crc32Byte c < 2 ^ 32 := by
  induction bs generalizing c with
  | nil => exact h
  | cons b bs ih =>
    simp only [List.mem_cons, forall_eq_or_imp] at hb
    exact ih hb.2 (crc32Steps_lt _ (Nat.xor_lt_two_pow h hb.1))

/-- A CRC-32C has 32 bits. -/
theorem crc32c_lt (bs : List Nat) (hb : ∀ b ∈ bs, b < 2 ^ 32) : crc32c bs < 2 ^ 32 :=
  Nat.xor_lt_two_pow (crc32Bytes_lt bs hb (by decide)) (by decide)

/-- The bytes of a number spell it again. -/
theorem ofBytesLE_bytesLE (n v : Nat) : ofBytesLE (bytesLE n v) = v % 256 ^ n := by
  induction n generalizing v with
  | zero => simp [bytesLE, ofBytesLE, Nat.mod_one]
  | succ n ih =>
    have e : bytesLE (n + 1) v = v % 256 :: bytesLE n (v / 256) := by
      simp only [bytesLE, List.range_succ_eq_map, List.map_cons, List.map_map, pow_zero, Nat.div_one, List.cons.injEq, true_and]
      exact List.map_congr_left (fun i _ => by simp [Nat.pow_succ', Nat.div_div_eq_div_mul])
    have k := ih (v / 256)
    rw [e]
    simp only [ofBytesLE, List.foldr_cons] at k ⊢
    rw [k, Nat.pow_succ', Nat.mod_mul]

theorem bytesLE_lt {n v b : Nat} (h : b ∈ bytesLE n v) : b < 256 := by
  simp only [bytesLE, List.mem_map] at h
  obtain ⟨i, -, rfl⟩ := h
  exact Nat.mod_lt _ (by decide)

/-- A page that has been written to its end passes every test of a valid copy of its own pair (R412, R413). -/
theorem whole_passes (place i sq : Nat) (d : Option (List Nat)) (hi : i ≤ 25) (hd : ∀ bs, d = some bs → ∀ b ∈ bs, b < 256) :
    copyPasses i ((Page.whole sq d).bytes place i) 0 = true := by
  obtain ⟨dat, hdat, hl, hlt⟩ : ∃ dat, (match d with
      | some bs => (bs ++ List.replicate 56 0).take 56
      | none => (List.range 56).map (fun n => freeCell (64 * place + 4 + n))) = dat ∧ dat.length = 56 ∧
      ∀ b ∈ dat, b < 256 := by
    refine ⟨_, rfl, ?_, ?_⟩
    · cases d <;> simp
    · cases d with
      | none =>
        intro b hb
        simp only [List.mem_map] at hb
        obtain ⟨n, -, rfl⟩ := hb
        exact Nat.mod_lt _ (by decide)
      | some bs =>
        intro b hb
        rcases List.mem_append.mp (List.mem_of_mem_take hb) with h | h
        · exact hd bs rfl b h
        · rw [List.eq_of_mem_replicate h]; decide
  obtain ⟨tag, htag⟩ : ∃ tag, tag = i % 1024 + freeCell (64 * place + 3) / 4 * 1024 := ⟨_, rfl⟩
  have ht : tag % 1024 = i := by omega
  have hpage : (Page.whole sq d).bytes place i =
      (bytesLE 2 sq ++ bytesLE 2 tag ++ dat) ++ bytesLE 4 (crc32c (bytesLE 2 sq ++ bytesLE 2 tag ++ dat)) := by
    rw [← hdat, htag]; rfl
  have hb : (bytesLE 2 sq ++ bytesLE 2 tag ++ dat).length = 60 := by simp [hl]
  have hc := crc32c_lt (bytesLE 2 sq ++ bytesLE 2 tag ++ dat) (fun b h => by
    simp only [List.mem_append] at h
    rcases h with (h | h) | h
    · exact Nat.lt_trans (bytesLE_lt h) (by decide)
    · exact Nat.lt_trans (bytesLE_lt h) (by decide)
    · exact Nat.lt_trans (hlt b h) (by decide))
  have htg : (((Page.whole sq d).bytes place i).drop 2).take 2 = bytesLE 2 tag := by
    rw [hpage]
    simp [List.append_assoc]
  rw [copyPasses, htg, ofBytesLE_bytesLE, hpage, List.take_left' hb, List.drop_left' hb, ofBytesLE_bytesLE, Nat.mod_eq_of_lt (b := 256 ^ 4) hc]
  have hff : tag % 256 ≠ 255 := by omega
  simp [ht, List.any_append, bytesLE, List.range_succ, hff]

end Sys2Proof.Machine
end

