-- ==== Sys2Proof/Laws/Requests.lean ====
section
/-! SUPPORT. Lemmas on dictionary requests: what an admitted write and an admitted read do, and what a refused one leaves. -/

namespace Sys2Proof.Machine

/-- Whether a write must wait does not depend on its verify read. -/
theorem mustWait_verify (s : State) (ch : Chan) (idx sub len v w : Nat) :
    s.mustWait (.write ch idx sub len v w) = s.mustWait (.write ch idx sub len v 0) := rfl

/-- A write that passes every check is carried out and answered. -/
theorem admits_request {s s1 : State} {ch : Chan} {idx sub len v : Nat} {f : Fam} {i : Nat} {r : Row} {w : Nat}
    (h : s.Admits s1 ch idx sub len v f i r) :
    s.request ch (.write ch idx sub len v w) =
      (s1.carryOut ch f i idx sub v r w).1.answer ch (s1.carryOut ch f i idx sub v r w).2 := by
  have h1 := h.served; have h2 := h.free; have h8 := h.entry; have h3 := h.unheld; have h4 := h.index; have h5 := h.subindex
  have h6 := h.onPart; have h7 := h.gate
  simp only [State.request, h1, h2, h8, mustWait_verify, h3, State.handle, State.doWrite, h4, State.writeFound, h5]
  have a : ¬ (f = .cellarTally ∧ 8 * (s.takeTag ch).1.T < sub) := by
    rintro ⟨ha, hb⟩
    have := h6 ha
    have e : (s.takeTag ch).1.T = s.T := rfl
    omega
  have b : ¬ (r.acc = .ro ∨ r.acc = .const) := by
    have := h.notRo; have := h.notConst; tauto
  have c : ¬ (r.cls = .x ∧ s1.stoppedOk f i sub v = false) := by
    rintro ⟨hc, hd⟩; have := h.stopped hc; simp_all
  have d : ¬ (len ≠ r.bytes ∨ s1.rangeOk f i idx sub v r = false) := by
    have := h.length; have := h.range; simp_all
  have e : s1.lowersPolicy f sub v = false := h.policy
  have g : s1.refused7 f i idx sub v r = false := h.rules
  have k : pathRefused f sub = false := h.path
  simp only [a, b, k, if_false, State.writeGated, h7, e, State.writeChecked, c, d, g]
  simp

/-- The same for a write that needs no verification. -/
theorem admits_write {s s1 : State} {ch : Chan} {idx sub len v : Nat} {f : Fam} {i : Nat} {r : Row}
    (h : s.Admits s1 ch idx sub len v f i r) :
    s.write ch idx sub len v = (s1.carryOut ch f i idx sub v r 0).1.answer ch (s1.carryOut ch f i idx sub v r 0).2 :=
  admits_request h

/-- The commit class of an admitted write. -/
theorem admits_cls {s s1 : State} {ch : Chan} {idx sub len v : Nat} {f : Fam} {i : Nat} {r : Row} {k : Cls}
   (h : s.Admits s1 ch idx sub len v f i r) (hk : (f.row sub).map (·.cls) = some k) : r.cls = k := by
  rw [h.subindex] at hk; simpa using hk

/-- A read that passes every check answers with its value. -/
theorem reads_request {s s1 : State} {ch : Chan} {idx sub len : Nat} {f : Fam} {i : Nat} {r : Row}
    (h : s.Reads s1 ch idx sub len f i r) :
    s.doRead ch idx sub (if ch = .spi then len else 0) =
      ((s1.readValue ch f i idx sub).1, .ok (s1.readValue ch f i idx sub).2) := by
  have b : ¬ (f = .cellarTally ∧ 8 * s.T < sub) := by
    rintro ⟨ha, hb⟩
    have := h.onPart ha
    omega
  have c : ¬ (r.acc = .wo) := h.readable
  simp [State.doRead, h.index, State.readFound, h.subindex, b, c, h.gate, h.length, h.ready]

/-- A read that passes its protection check leaves the network alone. -/
theorem passRead_net (s : State) (p : Prot) (ch : Chan) (idx sub : Nat) (s1 : State)
    (h : s.passRead p ch idx sub = (s1, none)) : s1.net = s.net := by
  unfold State.passRead at h
  split at h
  · split at h
    · cases h; rfl
    · split at h
      · simp [State.secRefuse] at h
      · split at h
        · simp [State.secRefuse] at h
        · cases h; rfl
  · cases h; rfl

/-- What a read clears touches no transfer. -/
theorem readValue_transfers (s : State) (ch : Chan) (f : Fam) (i idx sub : Nat) :
    (s.readValue ch f i idx sub).1.net.transfers = s.net.transfers := by
  unfold State.readValue
  split
  · simp only [State.readWindow]
    split <;> rfl
  · simp only [State.clearRead]
    split <;> (try split) <;> rfl

/-- No initiate request waits, so the answer to a read is whole. -/
theorem answerRead_whole (s : State) (ch : Chan) (r : Resp) (h : ∀ x, s.transferOf ch = some x → x.waiting = false) :
    s.answerRead ch r = s.answer ch r := by
  unfold State.answerRead
  split
  · rename_i x hx; simp [h x hx]
  · rfl

/-- An admitted read is answered whole. -/
theorem reads_answer {s s1 : State} {ch : Chan} {idx sub len : Nat} {f : Fam} {i : Nat} {r : Row} (x : Resp)
    (h : s.Reads s1 ch idx sub len f i r) :
    (s1.readValue ch f i idx sub).1.answerRead ch x = (s1.readValue ch f i idx sub).1.answer ch x := by
  apply answerRead_whole
  have e : (s1.readValue ch f i idx sub).1.transferOf ch = s.transferOf ch := by
    simp [State.transferOf, readValue_transfers, passRead_net _ _ _ _ _ _ h.gate]
  rw [e]; exact h.whole

/-- The same through a CAN channel. -/
theorem reads_can {s s1 : State} {ch : Chan} {idx sub len : Nat} {f : Fam} {i : Nat} {r : Row}
    (h : s.Reads s1 ch idx sub len f i r) (hc : ch ≠ .spi) :
    s.request ch (.read ch idx sub len) =
      (s1.readValue ch f i idx sub).1.answer ch (.ok (s1.readValue ch f i idx sub).2) := by
  have e := reads_request h
  rw [if_neg hc] at e
  simp [State.request, h.served, h.free, h.entry, h.unheld, State.handle, hc, e, reads_answer _ h]

/-- An alarm leaves SEC_LAST_REJECT (R482). -/
theorem alarm_rej (s : State) (k : Nat) : (s.alarm k).sec.rejReason = s.sec.rejReason ∧ (s.alarm k).sec.rejObject = s.sec.rejObject ∧ (s.alarm k).sec.rejChannel = s.sec.rejChannel := by
  have hr : ∀ (s : State) (t src code sev inst : Nat) (d : List Nat), (s.report t src code sev inst d).sec = s.sec := by
    intro s t src code sev inst d; unfold State.report; split <;> rfl
  unfold State.alarm
  split
  · exact ⟨rfl, rfl, rfl⟩
  · simp only [State.alarmActs]
    split
    · rw [hr]; exact ⟨rfl, rfl, rfl⟩
    · split
      · simp only [State.lock]; rw [hr]; exact ⟨rfl, rfl, rfl⟩
      · simp only [State.lock, State.erase, State.keepKeys, State.cellWrite]
        exact ⟨rfl, rfl, rfl⟩

/-- So does an authentication failure. -/
theorem authFail_rej (s : State) (k : Nat) : (s.authFail k).sec.rejReason = s.sec.rejReason ∧ (s.authFail k).sec.rejObject = s.sec.rejObject ∧ (s.authFail k).sec.rejChannel = s.sec.rejChannel := by
  have hr : ∀ (s : State) (t src code sev inst : Nat) (d : List Nat), (s.report t src code sev inst d).sec = s.sec := by
    intro s t src code sev inst d; unfold State.report; split <;> rfl
  simp only [State.authFail]
  split
  · obtain ⟨a, b, c⟩ := alarm_rej (({ s with sec := { s.sec with failures := satAdd 8 s.sec.failures 1 } } : State).report 0 srcSec 0x0D01 2 k ([s.sec.rejReason] ++ bytesLE 4 s.sec.rejObject ++ [s.sec.rejChannel])) 0
    rw [hr] at a b c
    exact ⟨a, b, c⟩
  · rw [hr]; exact ⟨rfl, rfl, rfl⟩

/-- The loop after its latch is cleared. -/
theorem loopCleared_at (s : State) (l : Nat) (h : (s.loop l).state = 6 ∨ (s.loop l).state = 7) : (s.loopCleared l).loop l =
    { s.loop l with state := 0, pr := { (s.loop l).pr with safeSev := 0, cause := 0, resetOnly := false, lowSides := false, lowTotal := 0, ovSeen := false } } := by
  unfold State.loopCleared
  dsimp only
  rw [if_pos h]
  simp [State.finish, State.updTarget, State.loop, State.updLoop]

/-- The others. -/
theorem loopCleared_other (s : State) (l m : Nat) (h : m ≠ l) : (s.loopCleared l).loop m = s.loop m := by
  unfold State.loopCleared
  dsimp only
  split
  · simp [State.finish, State.updTarget, State.loop, State.updLoop, Tab.get_upd_other, h]
  · rfl

/-- A read of a peak (R341). -/
theorem peak_req {s s1 : State} {ch : Chan} {sub l : Nat} {r : Row}
    (h : s.Reads s1 ch (loopIdx l 0x14) sub 0 .loopPeaks l r) (hl : s.hasLoop l = true) :
    exec (.peakRead ch l sub) s =
      .next ((s1.clearRead .loopPeaks l sub).answer ch (.ok (s1.readBytes ch (loopIdx l 0x14) sub .loopPeaks l))) := by
  have h2 : isDomain s.T (loopIdx l 0x14) sub = false := by simp [isDomain, h.index]
  have hx : ¬ (loopIdx l 0x14 = 0x4482 ∧ sub = 1) := by simp [loopIdx]; intro; omega
  have e0 := reads_request h
  have e : (if ch = Chan.spi then s.spiDoRead (loopIdx l 0x14) sub 0 else s.doRead ch (loopIdx l 0x14) sub 0) =
      ((s1.readValue ch .loopPeaks l (loopIdx l 0x14) sub).1, .ok (s1.readBytes ch (loopIdx l 0x14) sub .loopPeaks l)) := by
    by_cases hc : ch = .spi
    · subst hc
      simp only [if_true] at e0
      simp only [if_true, State.spiDoRead, h2, hx, if_false, e0]
      simp [State.readValue]
    · simp only [if_neg hc] at e0
      simp only [if_neg hc, e0]
      simp [State.readValue]
  simp only [exec, execPeakRead, hl, if_true, State.request, h.served, h.free, h.entry, h.unheld, State.handle, e,
    reads_answer _ h]
  simp [State.readValue]

/-- What a reset leaves (R78, R100). -/
theorem afterReset_resets (s : State) (c : Nat) (b : Bool) : s.ResetTo (s.afterReset c b) c := by
  have e : (s.endStore 3600).sec = s.sec ∧ (s.endStore 3600).pins = s.pins ∧ (s.endStore 3600).part = s.part ∧ (s.endStore 3600).pending = s.pending := by
    unfold State.endStore
    split
    · exact ⟨rfl, rfl, rfl, rfl⟩
    · exact ⟨rfl, rfl, rfl, rfl⟩
  obtain ⟨e1, e2, e3, e4⟩ := e
  constructor <;> simp [State.afterReset, SecGrp.field, SecGrp.provision, e1, e2, e3, e4]
  split <;> rfl

end Sys2Proof.Machine
end

