-- ==== Sys2Proof/Laws/Sensing.lean ====
section
/-! SUPPORT. Lemmas on sensing, calibration and rails. -/

namespace Sys2Proof.Machine

/-- A corrected code has 12 bits (R317). -/
theorem corrected_le (s : State) (t c code : Nat) : s.corrected t c code ≤ 4095 := by
  unfold State.corrected correctCode clampI
  dsimp only
  omega

/-- The largest sum of an entry (R306). -/
theorem sum_le (s : State) (t c : Nat) (l : List Nat) : (l.map (s.corrected t c)).sum ≤ 4095 * l.length := by
  induction l with
  | nil => simp
  | cons a l ih => have := corrected_le s t c a; simp only [List.map_cons, List.sum_cons, List.length_cons]; omega

/-- The uses of a result leave the tiles alone. -/
theorem useResult_tile (s : State) (t v e ch u : Nat) : (s.useResult t v e ch).tile u = s.tile u := by
  simp only [State.useResult]
  repeat' split
  all_goals rfl

/-- The tile after a result: its RAW, VOLTS and LATEST, and the entry that follows (R306, R307). -/
theorem telem_tile (s : State) (t v : Nat) (codes : List Nat) (d : DoneEntry) (ds : List DoneEntry) (at_ : Nat)
    (ht : s.hasTile t = true) (hv : v < 2) (hr : (s.tablesNow t).resultTime t v = some at_)
    (hd : ((((((s.tablesNow t).reach at_).tablesNow t).tile t).seq v).done = d :: ds))
    (hl : codes.length = 2 ^ field d.word 8 4) :
    (s.telemResult t v codes).tile t =
      ((((s.tablesNow t).reach at_).tablesNow t).tile t).write v d (State.sumOf (((s.tablesNow t).reach at_).tablesNow t) t v codes) := by
  unfold State.telemResult
  rw [if_pos (by simp [ht, hv])]
  simp only [hr, hd, hl, if_true]
  rw [useResult_tile, State.tile_updTile]

theorem report_cal (s : State) (t src code sev inst : Nat) (d : List Nat) : (s.report t src code sev inst d).cal = s.cal := by
  unfold State.report; split <;> rfl

theorem foldl_cal {α : Type} (f : State → α → State) (hf : ∀ s a, (f s a).cal = s.cal) (l : List α) (s : State) : (l.foldl f s).cal = s.cal := by
  induction l generalizing s with
  | nil => rfl
  | cons a l ih => rw [List.foldl_cons, ih, hf]

theorem calTile_cal (rs : List CalResult) (s : State) (t : Nat) : (State.calTile rs s t).cal = s.cal := by
  simp only [State.calTile]
  split
  · rw [State.keepCal, foldl_cal]
    · rfl
    · intro s a; rfl
  · rw [report_cal]; rfl

/-- The outcomes of a live rail are acted on at once (R370). -/
theorem rail_due {s : State} {n : Nat} (h : s.RailLive n) (i : Instr) : s.railDue n i = s.railOutcome i := by
  simp [State.railDue, h.rail, h.sequenced, h.active, h.tile]

end Sys2Proof.Machine
end

