-- ==== Sys2Proof/Laws/TimeUnits.lean ====
section
/-! SUPPORT. The operations of the units leave device time where it is, or let it pass to a later instant. -/

namespace Sys2Proof.Machine

@[simp] theorem now_mk (a b c d e f g h i j k l m n o p q r t u v w x y z) :
    (State.mk a b c d e f g h i j k l m n o p q r t u v w x y z).now = d.time := rfl

@[simp] theorem now_fold (s : State) : s.clk.time = s.now := rfl

theorem now_ite (c : Prop) [Decidable c] (a b : State) :
    (if c then a else b).now = if c then a.now else b.now := by split <;> rfl

theorem foldl_now {α : Type} (f : State → α → State) (h : ∀ s a, (f s a).now = s.now) (l : List α) (s : State) :
    (l.foldl f s).now = s.now := by
  induction l generalizing s with
  | nil => rfl
  | cons a l ih => rw [List.foldl_cons, ih, h]

theorem State.Still.of_now {s t : State} (h : t.now = s.now) : s.Still t := ⟨h⟩

theorem State.Still.refl (s : State) : s.Still s := ⟨rfl⟩

theorem State.Still.trans {s t u : State} (h : s.Still t) (k : t.Still u) : s.Still u := ⟨k.same.trans h.same⟩

theorem State.Still.left {s t u : State} (h : s.Still t) (k : u.now = t.now) : s.Still u := h.trans ⟨k⟩

theorem State.Still.right {s t u : State} (k : t.now = s.now) (h : t.Still u) :
    s.Still u := (State.Still.of_now k).trans h

theorem foldl_still {α : Type} (f : State → α → State) (h : ∀ (s : State) (a : α), s.Still (f s a)) (l : List α) (s : State) :
    s.Still (l.foldl f s) := by
  induction l generalizing s with
  | nil => exact .refl s
  | cons a l ih => exact (h s a).trans (ih _)

theorem later_ite {d₀ : Nat} (c : Prop) [Decidable c] (a b : State) (ha : d₀ ≤ a.now) (hb : d₀ ≤ b.now) :
    d₀ ≤ (if c then a else b).now := by split <;> assumption

theorem later_foldl {α : Type} {d₀ : Nat} (f : State → α → State) (h : ∀ s a, d₀ ≤ s.now → d₀ ≤ (f s a).now) (l : List α)
    (s : State) (hs : d₀ ≤ s.now) : d₀ ≤ (l.foldl f s).now := by
  induction l generalizing s with
  | nil => exact hs
  | cons a l ih => exact ih _ (h s a hs)

@[simp] theorem State.updLoop_now (s : State) (l : Nat) (f : Loop → Loop) : (State.updLoop s l f).now = s.now := by
  simp [State.updLoop]

@[simp] theorem State.updPhase_now (s : State) (p : Nat) (f : Phase → Phase) : (State.updPhase s p f).now = s.now := by
  simp [State.updPhase]

@[simp] theorem State.updRail_now (s : State) (n : Nat) (f : Rail → Rail) : (State.updRail s n f).now = s.now := by
  simp [State.updRail]

@[simp] theorem State.updTile_now (s : State) (t : Nat) (f : Tile → Tile) : (State.updTile s t f).now = s.now := by
  simp [State.updTile]

@[simp] theorem State.updComp_now (s : State) (t c : Nat) (f : Comp → Comp) : (State.updComp s t c f).now = s.now := by
  simp [State.updComp]

@[simp] theorem State.updLane_now (s : State) (t : Nat) (f : Lane → Lane) : (State.updLane s t f).now = s.now := by
  simp [State.updLane]

@[simp] theorem State.updCellar_now (s : State) (t : Nat) (f : Cellar → Cellar) :
    (State.updCellar s t f).now = s.now := by
  simp [State.updCellar]

@[simp] theorem State.reach_later {d₀ : Nat} (s : State) (d : Nat) (h₀ : d₀ ≤ s.now) : d₀ ≤ (s.reach d).now :=
  Nat.le_trans h₀ (Nat.le_max_left ..)

@[simp] theorem State.put_now (s : State) (idx sub v : Nat) : (State.put s idx sub v).now = s.now := by
  simp [State.put]

@[simp] theorem State.report_now (s : State) (t src code sev inst : Nat) (data : List Nat) :
    (State.report s t src code sev inst data).now = s.now := by
  simp [State.report, now_ite]

@[simp] theorem State.loopReport_now (s : State) (src : Nat → Nat) (l code sev : Nat) (data : List Nat) :
    (State.loopReport s src l code sev data).now = s.now := by
  simp [State.loopReport]

@[simp] theorem State.railReport_now (s : State) (n code sev : Nat) (data : List Nat) :
    (State.railReport s n code sev data).now = s.now := by
  simp [State.railReport]

@[simp] theorem State.latch_now (s : State) (l b : Nat) : (State.latch s l b).now = s.now := by
  simp [State.latch, now_ite]

@[simp] theorem State.cellPage_now (s : State) (t pair : Nat) (data : Option (List Nat)) (obj : Nat) :
    (State.cellPage s t pair data obj).now = s.now := by
  unfold State.cellPage
  repeat' split
  all_goals simp [now_ite, foldl_now]

@[simp] theorem State.cellWrite_now (s : State) (t pair : Nat) (data : List (Nat × Nat)) (obj : Nat) :
    (State.cellWrite s t pair data obj).now = s.now := by
  simp [State.cellWrite]

@[simp] theorem State.whenKept_now (s : State) (t pair : Nat) (ch : Chan) :
    (State.whenKept s t pair ch).now = s.now := by
  unfold State.whenKept
  repeat' split
  all_goals simp [now_ite, foldl_now]

@[simp] theorem State.tally_now (s : State) (ts : List Nat) (i : Nat) : (State.tally s ts i).now = s.now := by
  simp [State.tally]

@[simp] theorem State.keepPair_now (s : State) (key : Nat) : (State.keepPair s key).now = s.now := by
  unfold State.keepPair
  repeat' split
  all_goals simp

@[simp] theorem State.keepTrims_now (s : State) (t : Nat) : (State.keepTrims s t).now = s.now := by
  simp [State.keepTrims]

@[simp] theorem State.passEntries_now (n : Nat) (s : State) (t at_ : Nat) :
    (State.passEntries n s t at_).now = s.now := by
  induction n generalizing s with
  | zero => rfl
  | succ n ih => simp [State.passEntries, now_ite, ih]

@[simp] theorem State.tablesAt_now (s : State) (t at_ : Nat) : (State.tablesAt s t at_).now = s.now := by
  simp [State.tablesAt]

@[simp] theorem State.triggerOne_now (s : State) (t kind at_ : Nat) (here : Nat → Bool) (v : Nat) :
    (State.triggerOne s t kind at_ here v).now = s.now := by
  simp [State.triggerOne, now_ite]

@[simp] theorem State.triggerAt_now (s : State) (t kind at_ : Nat) (here : Nat → Bool) :
    (State.triggerAt s t kind at_ here).now = s.now := by
  simp [State.triggerAt]

@[simp] theorem State.triggerTap_now (s : State) (t i at_ : Nat) : (State.triggerTap s t i at_).now = s.now := by
  simp [State.triggerTap]

@[simp] theorem State.swapTables_now (s old : State) (t : Nat) : (s.swapTables old t).now = s.now := by
  simp [State.swapTables]

@[simp] theorem State.restartTables_now (s : State) (t : Nat) : (State.restartTables s t).now = s.now := by
  simp [State.restartTables]

@[simp] theorem State.tap_now (s : State) (p ev at_ : Nat) : (State.tap s p ev at_).now = s.now := by
  simp [State.tap, now_ite, foldl_now]

@[simp] theorem State.flushTile_now (s : State) (t : Nat) : (State.flushTile s t).now = s.now := by
  simp [State.flushTile, now_ite, foldl_now]

@[simp] theorem State.flushTaps_now (s : State) (p : Nat) : (State.flushTaps s p).now = s.now := by
  simp [State.flushTaps]

@[simp] theorem State.noteEdgesAt_now (s : State) (ps : List Nat) (at_ : Nat) (now : Nat → Bool) :
    (State.noteEdgesAt s ps at_ now).now = s.now := by
  simp [State.noteEdgesAt]

@[simp] theorem State.noteEdges_now (s : State) (ps : List Nat) (now : Nat → Bool) :
    (State.noteEdges s ps now).now = s.now := by
  simp [State.noteEdges]

@[simp] theorem State.phasesOffAt_now (s : State) (ps : List Nat) (at_ : Nat) :
    (State.phasesOffAt s ps at_).now = s.now := by
  unfold State.phasesOffAt
  repeat' split
  all_goals simp [now_ite, foldl_now]

@[simp] theorem State.phasesOff_now (s : State) (ps : List Nat) : (State.phasesOff s ps).now = s.now := by
  simp [State.phasesOff, now_ite, foldl_now]

@[simp] theorem State.startPhases_now (s : State) (l n : Nat) : (State.startPhases s l n).now = s.now := by
  simp [State.startPhases]

@[simp] theorem State.restoreTrims_now (s : State) (l : Nat) : (State.restoreTrims s l).now = s.now := by
  simp [State.restoreTrims]

@[simp] theorem State.abortLearn_now (s : State) (l : Nat) : (State.abortLearn s l).now = s.now := by
  simp [State.abortLearn, now_ite]

@[simp] theorem State.levelRecord_now (s : State) (l : Nat) (old new : Int) (n : Nat) :
    (State.levelRecord s l old new n).now = s.now := by
  simp [State.levelRecord, now_ite]

@[simp] theorem State.endBurst_now (s : State) (l cause : Nat) : (State.endBurst s l cause).now = s.now := by
  simp [State.endBurst, now_ite]

@[simp] theorem State.recordEnded_now (s : State) (l rank : Nat) : (State.recordEnded s l rank).now = s.now := by
  simp [State.recordEnded, foldl_now]

@[simp] theorem State.plausStop_now (s : State) (l : Nat) : (State.plausStop s l).now = s.now := by
  simp [State.plausStop, now_ite]

@[simp] theorem State.loopOffAt_now (s : State) (l st at_ : Nat) :
    (State.loopOffAt s l st at_).now = s.now := by
  unfold State.loopOffAt
  repeat' split
  all_goals simp [now_ite, foldl_now]

@[simp] theorem State.loopOff_now (s : State) (l st : Nat) : (State.loopOff s l st).now = s.now := by
  simp [State.loopOff]

@[simp] theorem State.dictOwns_now (s : State) (t : Nat) : (State.dictOwns s t).now = s.now := by
  simp [State.dictOwns, now_ite, foldl_now]

@[simp] theorem State.ownersLook_now (s : State) :
    (State.ownersLook s).now = s.now := by
  unfold State.ownersLook
  repeat' split
  all_goals simp [now_ite, foldl_now]

@[simp] theorem State.softStart_now (s : State) (l : Nat) : (State.softStart s l).now = s.now := by
  simp [State.softStart]

@[simp] theorem State.softStop_now (s : State) (l : Nat) : (State.softStop s l).now = s.now := by
  simp [State.softStop, now_ite]

@[simp] theorem State.updTarget_now (s : State) (n : Nat) (f : Target → Target) :
    (State.updTarget s n f).now = s.now := by
  simp [State.updTarget]

@[simp] theorem State.begin_now (s : State) (n sev code : Nat) : (State.begin s n sev code).now = s.now := by
  simp [State.begin]

@[simp] theorem State.finish_now (s : State) (n : Nat) : (State.finish s n).now = s.now := by
  simp [State.finish]

@[simp] theorem State.endHiccup_now (s : State) (n : Nat) :
    (State.endHiccup s n).now = s.now := by
  unfold State.endHiccup
  repeat' split
  all_goals simp [now_ite, foldl_now]

@[simp] theorem State.queueReaction_now (s : State) (n sev code : Nat) :
    (State.queueReaction s n sev code).now = s.now := by
  simp [State.queueReaction]

@[simp] theorem State.dropped_now (s : State) (n code : Nat) : (State.dropped s n code).now = s.now := by
  unfold State.dropped
  repeat' split
  all_goals simp

@[simp] theorem State.flush_now (s : State) (n : Nat) : (State.flush s n).now = s.now := by
  simp [State.flush, foldl_now]

@[simp] theorem State.noteLine_now (s : State) : (State.noteLine s).now = s.now := by
  simp [State.noteLine]

@[simp] theorem State.failed_now (s : State) (rail st cause : Nat) : (State.failed s rail st cause).now = s.now := by
  simp [State.failed, now_ite]

@[simp] theorem State.railOn_now (s : State) (n : Nat) : (State.railOn s n).now = s.now := by
  unfold State.railOn
  repeat' split
  all_goals simp [now_ite]

@[simp] theorem State.railOff_now (s : State) (n st : Nat) : (State.railOff s n st).now = s.now := by
  unfold State.railOff
  repeat' split
  all_goals simp

@[simp] theorem State.keptOff_now (s : State) (n cause : Nat) :
    (State.keptOff s n cause).now = s.now := by
  unfold State.keptOff
  repeat' split
  all_goals simp [now_ite, foldl_now]

@[simp] theorem State.keepOff_now (s : State) (n cause : Nat) :
    (State.keepOff s n cause).now = s.now := by
  simp [State.keepOff, now_ite, foldl_now]

@[simp] theorem State.keepDependants_now (s : State) (n : Nat) : (State.keepDependants s n).now = s.now := by
  simp [State.keepDependants, foldl_now]

@[simp] theorem State.railEnds_now (s : State) (n : Nat) :
    (State.railEnds s n).now = s.now := by
  unfold State.railEnds
  repeat' split
  all_goals simp [now_ite, foldl_now]

@[simp] theorem State.failRail_now (s : State) (n cause code : Nat) (data : List Nat) :
    (State.failRail s n cause code data).now = s.now := by
  unfold State.failRail
  repeat' split
  all_goals simp

@[simp] theorem State.loopDown_now (s : State) (n : Nat) : (State.loopDown s n).now = s.now := by
  unfold State.loopDown
  repeat' split
  all_goals simp

@[simp] theorem State.enterMode_now (s : State) (m : Mode) (cause sub : Nat) :
    (State.enterMode s m cause sub).now = s.now := by
  simp [State.enterMode, now_ite, foldl_now]

@[simp] theorem State.startManual_now (s : State) : (State.startManual s).now = s.now := by
  simp [State.startManual]

@[simp] theorem State.stopManual_now (s : State) : (State.stopManual s).now = s.now := by
  simp [State.stopManual]

@[simp] theorem State.manualLook_now (s : State) : (State.manualLook s).now = s.now := by
  simp [State.manualLook]

@[simp] theorem State.seqStart_now (s : State) : (State.seqStart s).now = s.now := by
  simp [State.seqStart]

@[simp] theorem State.enterRun_now (s : State) (cause : Nat) : (State.enterRun s cause).now = s.now := by
  simp [State.enterRun]

@[simp] theorem State.seqRest_now (s : State) : (State.seqRest s).now = s.now := by
  simp [State.seqRest, now_ite, foldl_now]

@[simp] theorem State.leaveRun_now (s : State) (cause sub : Nat) : (State.leaveRun s cause sub).now = s.now := by
  simp [State.leaveRun]

@[simp] theorem State.atStateZero_now (s : State) : (State.atStateZero s).now = s.now := by
  unfold State.atStateZero
  repeat' split
  all_goals simp

@[simp] theorem State.offStart_now (s : State) : (State.offStart s).now = s.now := by
  simp [State.offStart]

@[simp] theorem State.waitAt_now (s : State) : (State.waitAt s).now = s.now := by
  simp [State.waitAt, now_ite]

@[simp] theorem State.stepTiles_now (s : State) :
    (State.stepTiles s).now = s.now := by
  unfold State.stepTiles
  repeat' split
  all_goals simp [now_ite, foldl_now]

@[simp] theorem State.seqStep_now (s : State) :
    (State.seqStep s).now = s.now := by
  unfold State.seqStep
  repeat' split
  all_goals simp [now_ite, foldl_now]

@[simp] theorem State.localSteps_now (s : State) (k : Nat) : (s.localSteps k).now = s.now := by
  induction k generalizing s with
  | zero => rfl
  | succ k ih => simp [State.localSteps, now_ite, ih]

@[simp] theorem State.progress_now (s : State) : (State.progress s).now = s.now := by
  simp [State.progress, now_ite]

@[simp] theorem State.turnDown_now (s : State) : (State.turnDown s).now = s.now := by
  simp [State.turnDown]

@[simp] theorem State.requestDown_now (s : State) (c : DownCause) : (State.requestDown s c).now = s.now := by
  simp [State.requestDown, now_ite]

@[simp] theorem State.requestStopSeq_now (s : State) : (State.requestStopSeq s).now = s.now := by
  simp [State.requestStopSeq]

@[simp] theorem State.retryRailOff_now (s : State) (n : Nat) : (State.retryRailOff s n).now = s.now := by
  simp [State.retryRailOff]

@[simp] theorem State.retryOff_now (s : State) (n : Nat) : (State.retryOff s n).now = s.now := by
  simp [State.retryOff, now_ite]

@[simp] theorem State.retry_now (s : State) (n : Nat) : (State.retry s n).now = s.now := by
  simp [State.retry, now_ite]

@[simp] theorem State.groupStep_now (s : State) (g : Nat) : (State.groupStep s g).now = s.now := by
  simp [State.groupStep, now_ite]

@[simp] theorem State.groupShutdown_now (s : State) (n : Nat) : (State.groupShutdown s n).now = s.now := by
  simp [State.groupShutdown, now_ite, foldl_now]

@[simp] theorem State.sysReset_now (s : State) (n : Nat) : (State.sysReset s n).now = s.now := by
  simp [State.sysReset, now_ite]

@[simp] theorem State.railReaction_now (s : State) (n : Nat) : (State.railReaction s n).now = s.now := by
  unfold State.railReaction
  repeat' split
  all_goals simp

@[simp] theorem State.railFault_now (s : State) (n cause : Nat) (direct : Bool) :
    (State.railFault s n cause direct).now = s.now := by
  unfold State.railFault
  repeat' split
  all_goals simp [now_ite, foldl_now]

@[simp] theorem State.railSafe_now (s : State) (l : Nat) : (State.railSafe s l).now = s.now := by
  simp [State.railSafe, now_ite]

@[simp] theorem State.toSafe_now (s : State) (l sev code : Nat) : (State.toSafe s l sev code).now = s.now := by
  simp [State.toSafe, now_ite]

@[simp] theorem State.moreLow_now (s : State) (l code : Nat) : (State.moreLow s l code).now = s.now := by
  simp [State.moreLow, now_ite]

@[simp] theorem State.enterSafe_now (s : State) (l sev code : Nat) : (State.enterSafe s l sev code).now = s.now := by
  simp [State.enterSafe, now_ite]

@[simp] theorem State.enterSafeAll_now (s : State) (ls : List Nat) (sev code : Nat) :
    (State.enterSafeAll s ls sev code).now = s.now := by
  simp [State.enterSafeAll, foldl_now]

@[simp] theorem State.enterHold_now (s : State) (tile code inst : Nat) :
    (State.enterHold s tile code inst).now = s.now := by
  simp [State.enterHold, now_ite]

@[simp] theorem State.dangerous_now (s : State) (ls : List Nat) (tile code inst : Nat) (always : Bool) :
    (State.dangerous s ls tile code inst always).now = s.now := by
  simp [State.dangerous, now_ite]

@[simp] theorem State.markResetOnly_now (s : State) : (State.markResetOnly s).now = s.now := by
  simp [State.markResetOnly]

@[simp] theorem State.failTile_now (s : State) (t cause : Nat) : (State.failTile s t cause).now = s.now := by
  simp [State.failTile]

@[simp] theorem State.loopFault_now (s : State) (n : Nat) : (State.loopFault s n).now = s.now := by
  simp [State.loopFault, now_ite]

@[simp] theorem State.latchOff_now (s : State) (l : Nat) : (State.latchOff s l).now = s.now := by
  simp [State.latchOff, now_ite]

@[simp] theorem State.hiccupOff_now (s : State) (l p : Nat) (queued : Bool) :
    (State.hiccupOff s l p queued).now = s.now := by
  simp [State.hiccupOff, now_ite, foldl_now]

@[simp] theorem State.hiccup_now (s : State) (l p : Nat) (queued : Bool) :
    (State.hiccup s l p queued).now = s.now := by
  simp [State.hiccup, now_ite]

@[simp] theorem State.otShutdown_now (s : State) (l : Nat) : (State.otShutdown s l).now = s.now := by
  simp [State.otShutdown, now_ite]

@[simp] theorem State.startReaction_now (s : State) (n : Nat) (r : Reaction) :
    (State.startReaction s n r).now = s.now := by
  unfold State.startReaction
  repeat' split
  all_goals simp

@[simp] theorem State.takeQueued_now (s : State) (n : Nat) (qs : List Reaction) :
    (s.takeQueued n qs).now = s.now := by
  induction qs generalizing s with
  | nil => simp [State.takeQueued]
  | cons r qs ih => simp [State.takeQueued, now_ite, ih]

@[simp] theorem State.histValue_now (s : State) (ts : List Nat) (src inst : Nat) (v : Int) :
    (State.histValue s ts src inst v).now = s.now := by
  simp [State.histValue]

@[simp] theorem State.histFrameEnd_now (s : State) : (State.histFrameEnd s).now = s.now := by
  simp [State.histFrameEnd]

@[simp] theorem State.acceptRecords_now (s : State) (l v src : Nat) (sup : Bool) :
    (State.acceptRecords s l v src sup).now = s.now := by
  simp [State.acceptRecords, now_ite]

@[simp] theorem State.acceptTarget_now (s : State) (l v src : Nat) : (State.acceptTarget s l v src).now = s.now := by
  simp [State.acceptTarget, now_ite]

@[simp] theorem State.reached_now (s : State) (l : Nat) : (State.reached s l).now = s.now := by
  simp [State.reached]

@[simp] theorem State.overtake_now (s : State) (l by_ : Nat) : (State.overtake s l by_).now = s.now := by
  simp [State.overtake, now_ite]

@[simp] theorem State.setLevels_now (s : State) (l : Nat) :
    (State.setLevels s l).now = s.now := by
  unfold State.setLevels
  repeat' split
  all_goals simp [now_ite, foldl_now]

@[simp] theorem State.actTile_later {d₀ : Nat} (s : State) (kind : Nat) (ps : List Nat) (at_ : Nat) (h₀ : d₀ ≤ s.now) :
    d₀ ≤ (State.actTile s kind ps at_).now := by
  simp [State.actTile, h₀]

@[simp] theorem State.actOn_later {d₀ : Nat} (s : State) (l kind : Nat) (h₀ : d₀ ≤ s.now) :
    d₀ ≤ (State.actOn s l kind).now := by
  simp (maxDischargeDepth := 40) (contextual := true) [State.actOn, h₀, later_ite, later_foldl]

@[simp] theorem State.beginAction_later {d₀ : Nat} (s : State) (l kind trig : Nat) (ut : Int) (h₀ : d₀ ≤ s.now) :
    d₀ ≤ (State.beginAction s l kind trig ut).now := by
  simp [State.beginAction, h₀]

@[simp] theorem State.canopyTrigger_later {d₀ : Nat} (s : State) (l trig : Nat) (ut : Int) (h₀ : d₀ ≤ s.now) :
    d₀ ≤ (State.canopyTrigger s l trig ut).now := by
  simp (maxDischargeDepth := 40) [State.canopyTrigger, h₀, later_ite]

@[simp] theorem State.releaseTile_later {d₀ : Nat} (s : State) (ps : List Nat) (at_ : Nat) (h₀ : d₀ ≤ s.now) :
    d₀ ≤ (State.releaseTile s ps at_).now := by
  simp [State.releaseTile, h₀]

@[simp] theorem State.releaseAction_later {d₀ : Nat} (s : State) (l : Nat) (h₀ : d₀ ≤ s.now) :
    d₀ ≤ (State.releaseAction s l).now := by
  simp (maxDischargeDepth := 40) (contextual := true) [State.releaseAction, h₀, later_ite, later_foldl]

@[simp] theorem State.senseLoop_now (s : State) (l : Nat) (c : Conv) : (State.senseLoop s l c).now = s.now := by
  simp [State.senseLoop, now_ite]

@[simp] theorem State.dischargeEnd_now (s : State) (l : Nat) : (State.dischargeEnd s l).now = s.now := by
  simp [State.dischargeEnd, now_ite]

@[simp] theorem State.advanceRef_now (s : State) (l : Nat) : (State.advanceRef s l).now = s.now := by
  unfold State.advanceRef
  repeat' split
  all_goals simp [now_ite]

@[simp] theorem State.enterRegulating_now (s : State) (l : Nat) : (State.enterRegulating s l).now = s.now := by
  simp only [State.enterRegulating]
  repeat' split
  all_goals simp

@[simp] theorem State.softStopEnd_now (s : State) (l : Nat) : (State.softStopEnd s l).now = s.now := by
  simp [State.softStopEnd]

@[simp] theorem State.holdEnds_now (s : State) (l : Nat) : (State.holdEnds s l).now = s.now := by
  simp [State.holdEnds, now_ite]

@[simp] theorem State.refArrived_now (s : State) (l : Nat) : (State.refArrived s l).now = s.now := by
  simp [State.refArrived, now_ite]

@[simp] theorem State.wakeLoop_now (s : State) (l : Nat) : (State.wakeLoop s l).now = s.now := by
  simp [State.wakeLoop, now_ite]

@[simp] theorem State.sampleWake_now (s : State) (l : Nat) : (State.sampleWake s l).now = s.now := by
  simp [State.sampleWake, now_ite]

@[simp] theorem State.noteError_now (s : State) (l : Nat) :
    (State.noteError s l).now = s.now := by
  unfold State.noteError
  repeat' split
  all_goals simp [now_ite, foldl_now]

@[simp] theorem State.sampleActions_later {d₀ : Nat} (s : State) (l : Nat) (h₀ : d₀ ≤ s.now) :
    d₀ ≤ (State.sampleActions s l).now := by
  unfold State.sampleActions
  try dsimp only
  repeat' split
  all_goals first
    | exact h₀
    | (simp (maxDischargeDepth := 40) (contextual := true) [h₀, later_ite, fst_ite, later_foldl]; done)

@[simp] theorem State.computeLoop_now (s : State) (l n : Nat) : (State.computeLoop s l n).now = s.now := by
  simp [State.computeLoop, now_ite]

@[simp] theorem State.uvLook_now (s : State) (l : Nat) : (State.uvLook s l).now = s.now := by
  simp [State.uvLook, now_ite]

@[simp] theorem State.recoverySample_now (s : State) (l : Nat) : (State.recoverySample s l).now = s.now := by
  simp [State.recoverySample, now_ite, foldl_now]

@[simp] theorem State.sampleValues_now (s : State) (l : Nat) (computed : Bool) :
    (State.sampleValues s l computed).now = s.now := by
  simp [State.sampleValues, now_ite]

@[simp] theorem State.hashAct_now (s : State) (l : Nat) : (State.hashAct s l).now = s.now := by
  simp [State.hashAct]

@[simp] theorem State.sampleLoop_later {d₀ : Nat} (s : State) (cs : List Conv) (n l : Nat) (h₀ : d₀ ≤ s.now) :
    d₀ ≤ (State.sampleLoop s cs n l).now := by
  simp [State.sampleLoop, h₀]

@[simp] theorem State.cutPhase_now (s : State) (p : Nat) (oc : Bool) : (State.cutPhase s p oc).now = s.now := by
  simp [State.cutPhase]

@[simp] theorem State.tripOffSet_now (s : State) (ps : List Nat) (b : Nat) : (State.tripOffSet s ps b).now = s.now := by
  simp [State.tripOffSet, now_ite, foldl_now]

@[simp] theorem State.tripOffClear_now (s : State) (ps : List Nat) (b : Nat) :
    (State.tripOffClear s ps b).now = s.now := by
  simp [State.tripOffClear]

@[simp] theorem State.applyCount_now (s : State) (l n : Nat) (th : Option Nat) (b : Nat) :
    (State.applyCount s l n th b).now = s.now := by
  simp [State.applyCount]

@[simp] theorem State.applyDue_now (s : State) (l : Nat) : (State.applyDue s l).now = s.now := by
  simp only [State.applyDue]
  repeat' split
  all_goals simp

@[simp] theorem State.setLevel_now (s : State) (l : Nat) (lam : Int) (th : Option Nat) (shed : Bool) :
    (State.setLevel s l lam th shed).now = s.now := by
  simp [State.setLevel]

@[simp] theorem State.levelLook_now (s : State) (l : Nat) : (State.levelLook s l).now = s.now := by
  simp [State.levelLook, now_ite]

@[simp] theorem State.countMark_now (s : State) (l : Nat) (th : Option Nat) : (State.countMark s l th).now = s.now := by
  unfold State.countMark
  repeat' split
  all_goals simp

@[simp] theorem State.respreadNow_now (s : State) (l : Nat) : (State.respreadNow s l).now = s.now := by
  simp [State.respreadNow, now_ite]

@[simp] theorem State.decideCount_now (s : State) (l n : Nat) (th : Option Nat) :
    (State.decideCount s l n th).now = s.now := by
  simp [State.decideCount]

@[simp] theorem State.populate_now (s : State) (l : Nat) : (State.populate s l).now = s.now := by
  simp [State.populate, now_ite]

@[simp] theorem State.shareLoop_now (s : State) (l : Nat) : (State.shareLoop s l).now = s.now := by
  simp only [State.shareLoop]
  repeat' (first | split | (simp; done) | (refine foldl_now _ (fun s a => ?_) _ _) | (refine (foldl_now _ (fun s a => ?_) _ _).trans ?_))

@[simp] theorem State.startLearn_now (s : State) (l : Nat) : (State.startLearn s l).now = s.now := by
  simp [State.startLearn]

@[simp] theorem State.learnFrame_now (s : State) (l : Nat) : (State.learnFrame s l).now = s.now := by
  simp [State.learnFrame, now_ite]

@[simp] theorem State.learnIteration_now (s : State) (l : Nat) : (State.learnIteration s l).now = s.now := by
  simp [State.learnIteration, now_ite, foldl_now]

@[simp] theorem State.burstFrame_now (s : State) (l : Nat) : (State.burstFrame s l).now = s.now := by
  simp [State.burstFrame]

@[simp] theorem State.beginBurst_now (s : State) (l : Nat) :
    (State.beginBurst s l).now = s.now := by
  simp [State.beginBurst]

@[simp] theorem State.burstForbidden_now (s : State) (l : Nat) : (State.burstForbidden s l).now = s.now := by
  simp [State.burstForbidden, now_ite]

@[simp] theorem State.consume_now (s : State) (l : Nat) : (State.consume s l).now = s.now := by
  simp [State.consume]

@[simp] theorem State.firePreview_now (s : State) (l : Nat) (p : Preview) : (State.firePreview s l p).now = s.now := by
  simp [State.firePreview]

@[simp] theorem State.captureEdge_now (s : State) (t c : Nat) (active : Bool) :
    (State.captureEdge s t c active).now = s.now := by
  simp [State.captureEdge, now_ite, foldl_now]

@[simp] theorem State.routeEdge_now (s : State) (t c : Nat) (active : Bool) :
    (State.routeEdge s t c active).now = s.now := by
  simp [State.routeEdge, now_ite]

@[simp] theorem State.wakeRises_now (s : State) (t : Nat) (was : Bool) :
    (State.wakeRises s t was).now = s.now := by
  unfold State.wakeRises
  repeat' split
  all_goals simp [now_ite, foldl_now]

@[simp] theorem State.railLook_now (s : State) (n : Nat) : (State.railLook s n).now = s.now := by
  simp [State.railLook, now_ite]

@[simp] theorem State.overvoltage_now (s : State) (t k : Nat) : (State.overvoltage s t k).now = s.now := by
  unfold State.overvoltage
  repeat' split
  all_goals simp

@[simp] theorem State.plausLook_now (s : State) (t j : Nat) : (State.plausLook s t j).now = s.now := by
  unfold State.plausLook
  repeat' split
  all_goals simp

@[simp] theorem State.compLook_now (s : State) (t c : Nat) : (State.compLook s t c).now = s.now := by
  unfold State.compLook
  repeat' split
  all_goals simp

@[simp] theorem State.activate_now (s : State) (t c : Nat) : (State.activate s t c).now = s.now := by
  simp [State.activate, now_ite]

@[simp] theorem State.abortLearnOf_now (s : State) (p : Nat) : (State.abortLearnOf s p).now = s.now := by
  unfold State.abortLearnOf
  repeat' split
  all_goals simp

@[simp] theorem State.ocTruncate_later {d₀ : Nat} (s : State) (p : Nat) (h₀ : d₀ ≤ s.now) :
    d₀ ≤ (State.ocTruncate s p).now := by
  unfold State.ocTruncate
  try dsimp only
  repeat' split
  all_goals first
    | exact h₀
    | (simp (maxDischargeDepth := 40) (contextual := true) [h₀, later_ite, fst_ite, later_foldl]; done)

@[simp] theorem State.compActs_later {d₀ : Nat} (s : State) (t c : Nat) (h₀ : d₀ ≤ s.now) :
    d₀ ≤ (State.compActs s t c).now := by
  unfold State.compActs
  try dsimp only
  repeat' split
  all_goals first
    | exact h₀
    | (simp (maxDischargeDepth := 40) (contextual := true) [h₀, later_ite, fst_ite, later_foldl]; done)

@[simp] theorem State.firstEval_later {d₀ : Nat} (s : State) (t c : Nat) (h₀ : d₀ ≤ s.now) :
    d₀ ≤ (State.firstEval s t c).now := by
  simp (maxDischargeDepth := 40) [State.firstEval, h₀, later_ite]

@[simp] theorem State.settle_now (s : State) (t c mode : Nat) : (State.settle s t c mode).now = s.now := by
  simp [State.settle]

@[simp] theorem State.unmanage_now (s : State) (t c : Nat) : (State.unmanage s t c).now = s.now := by
  simp [State.unmanage, now_ite]

@[simp] theorem State.plausFree_now (s : State) (t c : Nat) :
    (State.plausFree s t c).now = s.now := by
  unfold State.plausFree
  split
  · simp
  · rfl

@[simp] theorem State.holdLook_later {d₀ : Nat} (s : State) (h₀ : d₀ ≤ s.now) : d₀ ≤ (State.holdLook s).now := by
  simp (maxDischargeDepth := 40) (contextual := true) [State.holdLook, h₀, later_ite, later_foldl]

@[simp] theorem State.release_now (s : State) (t c : Nat) : (State.release s t c).now = s.now := by
  simp [State.release]

@[simp] theorem State.manage_later {d₀ : Nat} (s : State) (t c m v : Nat) (h₀ : d₀ ≤ s.now) :
    d₀ ≤ (State.manage s t c m v).now := by
  simp (maxDischargeDepth := 40) [State.manage, h₀, later_ite]

@[simp] theorem State.manageLoop_later {d₀ : Nat} (s : State) (l : Nat) (h₀ : d₀ ≤ s.now) :
    d₀ ≤ (State.manageLoop s l).now := by
  simp (maxDischargeDepth := 40) [State.manageLoop, h₀, later_ite]

@[simp] theorem State.returnLoop_later {d₀ : Nat} (s : State) (l : Nat) (h₀ : d₀ ≤ s.now) :
    d₀ ≤ (State.returnLoop s l).now := by
  simp (maxDischargeDepth := 40) [State.returnLoop, h₀, later_ite]

@[simp] theorem State.plausFrame_later {d₀ : Nat} (s : State) (l : Nat) (h₀ : d₀ ≤ s.now) :
    d₀ ≤ (State.plausFrame s l).now := by
  simp (maxDischargeDepth := 40) [State.plausFrame, h₀, later_ite]

@[simp] theorem State.captureSample_now (s : State) (t : Nat) : (State.captureSample s t).now = s.now := by
  simp only [State.captureSample]
  repeat' split
  all_goals simp

@[simp] theorem State.arm_now (s : State) (t slot : Nat) : (State.arm s t slot).now = s.now := by
  simp [State.arm]

@[simp] theorem State.captureTrigger_now (s : State) (t code inst time : Nat) :
    (State.captureTrigger s t code inst time).now = s.now := by
  simp [State.captureTrigger, now_ite]

@[simp] theorem State.captureDone_now (s : State) (t : Nat) (p : Nat) : (State.captureDone s t p).now = s.now := by
  simp [State.captureDone]

@[simp] theorem State.putOn_now (s : State) (key v tiles : Nat) : (State.putOn s key v tiles).now = s.now := by
  simp [State.putOn]

@[simp] theorem State.restartTap_now (s : State) (key : Nat) : (State.restartTap s key).now = s.now := by
  unfold State.restartTap
  repeat' split
  all_goals simp

@[simp] theorem State.activate1_now (s : State) (e : Late) : (State.activate1 s e).now = s.now := by
  simp [State.activate1]

@[simp] theorem State.endFlight_now (s : State) (frame res : Nat) : (State.endFlight s frame res).now = s.now := by
  simp [State.endFlight]

@[simp] theorem State.phasesSwapped_now (s : State) (done : List Nat) : (State.phasesSwapped s done).now = s.now := by
  unfold State.phasesSwapped
  try dsimp only
  repeat' split
  all_goals first
    | rfl
    | (simp [now_ite, fst_ite, foldl_now]; done)

@[simp] theorem State.swapValues_now (s : State) (fl : Flight) (missed : Nat) :
    (State.swapValues s fl missed).now = s.now := by
  simp [State.swapValues, now_ite, foldl_now]

@[simp] theorem State.limitTarget_now (s : State) (l : Nat) : (State.limitTarget s l).now = s.now := by
  simp [State.limitTarget, now_ite]

@[simp] theorem State.respread_now (s : State) (l : Nat) : (State.respread s l).now = s.now := by
  simp [State.respread, now_ite]

@[simp] theorem State.tablesSwapped_now (s s0 : State) (t : Nat) : (s.tablesSwapped s0 t).now = s.now := by
  simp [State.tablesSwapped, now_ite]

@[simp] theorem State.afterSwap_now (s0 : State) (s : State) (e : Nat × Nat) :
    (State.afterSwap s0 s e).now = s.now := by
  unfold State.afterSwap
  repeat' split
  all_goals simp [now_ite, foldl_now]

@[simp] theorem State.swapStopped_now (s : State) (es : List (Nat × Nat)) : (State.swapStopped s es).now = s.now := by
  simp [State.swapStopped]

@[simp] theorem State.commitRecord_now (s : State) (tiles res : Nat) :
    (State.commitRecord s tiles res).now = s.now := by
  simp [State.commitRecord]

@[simp] theorem State.commitApply_now (s : State) (fl : Flight) : (State.commitApply s fl).now = s.now := by
  simp [State.commitApply, now_ite, foldl_now]

@[simp] theorem State.commitFrame_now (s : State) : (State.commitFrame s).now = s.now := by
  unfold State.commitFrame
  repeat' split
  all_goals simp

@[simp] theorem State.ringWrite_now (s : State) (x : Rec) (r : Nat) : (State.ringWrite s x r).now = s.now := by
  unfold State.ringWrite
  split
  · dsimp only
    split
    · rw [State.report_now, now_mk, now_fold, foldl_now _ (fun s a => State.histValue_now _ _ _ _ _), now_mk]
      rfl
    · rw [foldl_now _ (fun s a => State.histValue_now _ _ _ _ _), now_mk]
      rfl
  · rfl

@[simp] theorem State.ringAdvance_now (s : State) (r n : Nat) : (State.ringAdvance s r n).now = s.now := by
  simp [State.ringAdvance]

@[simp] theorem State.setPosition_now (s : State) (n : Nat) : (State.setPosition s n).now = s.now := by
  simp [State.setPosition]

@[simp] theorem State.setView_now (s : State) (v : Nat) : (State.setView s v).now = s.now := by
  simp [State.setView]

@[simp] theorem State.readWindow_now (s : State) : (State.readWindow s).1.now = s.now := by
  simp [State.readWindow, now_ite]

@[simp] theorem State.writeRec_now (s : State) (t src : Nat) (e : Entry) : (State.writeRec s t src e).now = s.now := by
  simp [State.writeRec, now_ite, foldl_now]

@[simp] theorem State.writeAtTime_later {d₀ : Nat} (s : State) (t src : Nat) (e : Entry) (h₀ : d₀ ≤ s.now) :
    d₀ ≤ (State.writeAtTime s t src e).now := by
  simp [State.writeAtTime, h₀]

@[simp] theorem State.writeNext_later {d₀ : Nat} (s : State) (t : Nat) (h₀ : d₀ ≤ s.now) : d₀ ≤ (s.writeNext t).now := by
  unfold State.writeNext
  split
  · exact h₀
  · dsimp only
    split
    · exact State.writeAtTime_later _ _ _ _ (State.writeAtTime_later _ _ _ _ h₀)
    · exact State.writeAtTime_later _ _ _ _ h₀

@[simp] theorem State.drain_later {d₀ : Nat} (s : State) (t k : Nat) (h₀ : d₀ ≤ s.now) : d₀ ≤ (s.drain t k).now := by
  induction k generalizing s with
  | zero => exact h₀
  | succ k ih =>
    unfold State.drain
    split
    · exact h₀
    · exact ih _ (State.writeNext_later _ _ h₀)

@[simp] theorem State.emcyOut_now (s : State) (c : CanChan) (code reg : Nat) (r : Option Rec) :
    (State.emcyOut s c code reg r).now = s.now := by
  unfold State.emcyOut
  repeat' split
  all_goals simp [now_ite]

@[simp] theorem State.emcyAll_now (s : State) (code reg : Nat) (r : Option Rec) :
    (State.emcyAll s code reg r).now = s.now := by
  simp [State.emcyAll]

@[simp] theorem State.forwarded_now (s : State) (r : Rec) : (State.forwarded s r).now = s.now := by
  simp [State.forwarded, now_ite]

@[simp] theorem State.alertLook_now (s : State) : (State.alertLook s).now = s.now := by
  simp [State.alertLook, now_ite]

@[simp] theorem State.telemFrame_now (s : State) (l : Nat) : (State.telemFrame s l).now = s.now := by
  unfold State.telemFrame
  dsimp only
  split
  · split <;> simp
  · split <;> simp

@[simp] theorem State.checkerTile_now (s : State) (l t fails max_ : Nat) :
    (State.checkerTile s l t fails max_).now = s.now := by
  simp [State.checkerTile, now_ite]

@[simp] theorem State.checkerFrame_now (s : State) (l : Nat) : (State.checkerFrame s l).now = s.now := by
  simp [State.checkerFrame, foldl_now]

@[simp] theorem State.takeSlots_now (s : State) (l : Nat) : (State.takeSlots s l).now = s.now := by
  simp [State.takeSlots]

@[simp] theorem State.latchHashes_now (s : State) : (State.latchHashes s).now = s.now := by
  simp [State.latchHashes]

@[simp] theorem State.otReact_now (s : State) (l : Nat) : (State.otReact s l).now = s.now := by
  simp [State.otReact, now_ite]

@[simp] theorem State.otFrame_now (s : State) (l : Nat) : (State.otFrame s l).now = s.now := by
  simp [State.otFrame, now_ite]

@[simp] theorem State.staleFrame_now (s : State) (l : Nat) : (State.staleFrame s l).now = s.now := by
  simp [State.staleFrame]

@[simp] theorem State.lostFrame_now (s : State) (l : Nat) : (State.lostFrame s l).now = s.now := by
  simp [State.lostFrame, now_ite]

@[simp] theorem State.mismatchFrame_now (s : State) (l : Nat) : (State.mismatchFrame s l).now = s.now := by
  simp [State.mismatchFrame]

@[simp] theorem State.levelsFrame_later {d₀ : Nat} (s : State) (l : Nat) (h₀ : d₀ ≤ s.now) :
    d₀ ≤ (State.levelsFrame s l).now := by
  simp (maxDischargeDepth := 40) [State.levelsFrame, h₀, later_ite]

@[simp] theorem State.settleTick_now (s : State) (n : Nat) : (State.settleTick s n).now = s.now := by
  unfold State.settleTick
  try dsimp only
  repeat' split
  all_goals first
    | rfl
    | (simp [now_ite, fst_ite, foldl_now]; done)

@[simp] theorem State.seqTick_now (s : State) : (State.seqTick s).now = s.now := by
  simp [State.seqTick, foldl_now]

@[simp] theorem State.reloadPhases_now (s : State) : (State.reloadPhases s).now = s.now := by
  simp [State.reloadPhases]

@[simp] theorem State.hourFrame_now (s : State) : (State.hourFrame s).now = s.now := by
  simp [State.hourFrame, now_ite]

@[simp] theorem State.faultFrame_now (s : State) : (State.faultFrame s).now = s.now := by
  simp [State.faultFrame, now_ite]

@[simp] theorem State.loopFrameEnd_now (s : State) (l : Nat) : (State.loopFrameEnd s l).now = s.now := by
  simp [State.loopFrameEnd]

@[simp] theorem State.loopFrameStart_later {d₀ : Nat} (s : State) (l : Nat) (h₀ : d₀ ≤ s.now) :
    d₀ ≤ (State.loopFrameStart s l).now := by
  simp [State.loopFrameStart, h₀]

@[simp] theorem State.idleLoops_now (s : State) (ls : List Nat) : (State.idleLoops s ls).now = s.now := by
  simp [State.idleLoops, now_ite, foldl_now]

theorem State.nextFrame_later (s : State) : s.now ≤ s.nextFrame := by
  unfold State.nextFrame
  split
  · exact Nat.le_refl _
  · simp only [ticksPerFrame]
    omega

@[simp] theorem State.frameWork_later {d₀ : Nat} (s : State) (h₀ : d₀ ≤ s.now) : d₀ ≤ s.frameWork.now := by
  have h₁ : d₀ ≤ s.nextFrame := Nat.le_trans h₀ s.nextFrame_later
  unfold State.frameWork
  simp (maxDischargeDepth := 40) (contextual := true) [h₁, later_foldl]

end Sys2Proof.Machine
end

