-- ==== Sys2Proof/Laws/TimeDictionary.lean ====
section
/-! SUPPORT. Modes, security and the dictionary leave device time where it is. -/

namespace Sys2Proof.Machine

@[simp] theorem State.withShadow_now (s : State) : (State.withShadow s).now = s.now := by
  simp [State.withShadow]

@[simp] theorem State.supposing_now (s : State) (cls : Cls) (idx sub v : Nat) :
    (State.supposing s cls idx sub v).now = s.now := by
  simp [State.supposing, now_ite]

@[simp] theorem State.resetRing_now (s : State) (r : Nat) : (State.resetRing s r).now = s.now := by
  unfold State.resetRing
  rw [now_mk, now_fold]

@[simp] theorem State.srdoInvalid_now (s : State) : (State.srdoInvalid s).now = s.now := by
  simp [State.srdoInvalid]

@[simp] theorem State.laneStops_now (s : State) (t : Nat) : (State.laneStops s t).now = s.now := by
  simp [State.laneStops]

@[simp] theorem State.updTpdo_now (s : State) (n : Nat) (f : Tpdo → Tpdo) : (State.updTpdo s n f).now = s.now := by
  simp [State.updTpdo]

@[simp] theorem State.dropStream_now (s : State) (n : Nat) :
    (State.dropStream s n).now = s.now := by
  unfold State.dropStream
  repeat' split
  all_goals simp [now_ite, foldl_now]

@[simp] theorem State.dropStreams_now (s : State) (r : Nat) :
    (State.dropStreams s r).now = s.now := by
  unfold State.dropStreams
  repeat' split
  all_goals simp [now_ite, foldl_now]

@[simp] theorem State.afterX_later {d₀ : Nat} (s : State) (f : Fam) (i sub : Nat) (h₀ : d₀ ≤ s.now) :
    d₀ ≤ (State.afterX s f i sub).now := by
  unfold State.afterX
  repeat' split
  all_goals simp (contextual := true) [h₀, later_foldl]

@[simp] theorem State.startStore_now (s : State) (cause : Nat) : (State.startStore s cause).now = s.now := by
  simp [State.startStore, now_ite]

@[simp] theorem State.endStore_later {d₀ : Nat} (s : State) (vholdMv : Nat) (h₀ : d₀ ≤ s.now) :
    d₀ ≤ (State.endStore s vholdMv).now := by
  unfold State.endStore
  repeat' split
  all_goals simp [h₀]

@[simp] theorem State.cellStart_now (s : State) (t : Nat) : (State.cellStart s t).now = s.now := by
  simp only [State.cellStart]
  repeat' split
  all_goals simp

@[simp] theorem State.snapshotSet_later {d₀ : Nat} (s : State) (h₀ : d₀ ≤ s.now) : d₀ ≤ (State.snapshotSet s).now := by
  unfold State.snapshotSet
  try dsimp only
  repeat' split
  all_goals first
    | exact h₀
    | (simp (maxDischargeDepth := 40) (contextual := true) [h₀, later_ite, fst_ite, later_foldl]; done)

@[simp] theorem State.completeSave_later {d₀ : Nat} (s : State) (h₀ : d₀ ≤ s.now) :
    d₀ ≤ (State.completeSave s).now := by
  unfold State.completeSave
  try dsimp only
  repeat' split
  all_goals first
    | exact h₀
    | (simp (maxDischargeDepth := 40) (contextual := true) [h₀, later_ite, fst_ite, later_foldl]; done)

@[simp] theorem State.loadTrims_now (s : State) : (State.loadTrims s).now = s.now := by
  simp [State.loadTrims]

@[simp] theorem State.loadValues_now (s : State) (n : Nat) :
    (State.loadValues s n).now = s.now := by
  unfold State.loadValues
  repeat' split
  all_goals simp [now_ite, foldl_now]

@[simp] theorem State.noSetRecord_now (s : State) (n : Nat) :
    (State.noSetRecord s n).now = s.now := by
  unfold State.noSetRecord
  repeat' split
  all_goals simp [now_ite, foldl_now]

@[simp] theorem State.loadSet_now (s : State) (n : Nat) : (State.loadSet s n).now = s.now := by
  simp [State.loadSet, now_ite]

@[simp] theorem State.afterLoad_later {d₀ : Nat} (s0 s : State) (k : Nat) (h₀ : d₀ ≤ s.now) :
    d₀ ≤ (State.afterLoad s0 s k).now := by
  unfold State.afterLoad
  repeat' split
  all_goals first
    | exact h₀
    | simp [h₀]

@[simp] theorem State.restoreSet_later {d₀ : Nat} (s : State) (n : Nat) (h₀ : d₀ ≤ s.now) :
    d₀ ≤ (State.restoreSet s n).now := by
  simp (maxDischargeDepth := 40) (contextual := true) [State.restoreSet, h₀, later_ite, later_foldl]

@[simp] theorem State.pairDefault_now (s : State) (t i : Nat) : (State.pairDefault s t i).now = s.now := by
  simp [State.pairDefault, now_ite]

@[simp] theorem State.scrubPair_now (s : State) (t i : Nat) : (State.scrubPair s t i).now = s.now := by
  simp only [State.scrubPair]
  repeat' split
  all_goals simp

@[simp] theorem State.scrubTile_now (s : State) (t : Nat) :
    (State.scrubTile s t).now = s.now := by
  unfold State.scrubTile
  repeat' split
  all_goals simp [now_ite, foldl_now]

@[simp] theorem State.reqAnswer_now (s : State) (res detail : Nat) : (State.reqAnswer s res detail).now = s.now := by
  simp [State.reqAnswer]

@[simp] theorem State.reqRefused_now (s : State) (res detail : Nat) :
    (State.reqRefused s res detail).1.now = s.now := by
  simp [State.reqRefused]

@[simp] theorem State.reqAccepted_now (s : State) (req : Nat) : (State.reqAccepted s req).now = s.now := by
  simp [State.reqAccepted]

@[simp] theorem State.beginOpenWire_now (s : State) (set : Nat) : (State.beginOpenWire s set).now = s.now := by
  simp [State.beginOpenWire, foldl_now]

@[simp] theorem State.beginStart_now (s : State) (why : RunTrigger) : (State.beginStart s why).now = s.now := by
  simp [State.beginStart]

@[simp] theorem State.triggerRecord_now (s : State) (sev what : Nat) :
    (State.triggerRecord s sev what).now = s.now := by
  simp [State.triggerRecord]

@[simp] theorem State.reportOpen_now (s : State) (set : Nat) (given : List OpenReading) :
    (State.reportOpen s set given).now = s.now := by
  simp [State.reportOpen, now_ite, foldl_now]

@[simp] theorem State.unmask_later {d₀ : Nat} (s : State) (active : List Nat) (h₀ : d₀ ≤ s.now) :
    d₀ ≤ (State.unmask s active).now := by
  simp (maxDischargeDepth := 40) (contextual := true) [State.unmask, h₀, later_ite, later_foldl]

@[simp] theorem State.endOpenWire_later {d₀ : Nat} (s : State) (given : List OpenReading) (active : List Nat) (h₀ : d₀ ≤ s.now) :
    d₀ ≤ (State.endOpenWire s given active).now := by
  simp (maxDischargeDepth := 40) (contextual := true) [State.endOpenWire, h₀, later_ite, later_foldl]

@[simp] theorem State.endStart_now (s : State) : (State.endStart s).now = s.now := by
  unfold State.endStart
  repeat' split
  all_goals simp [now_ite]

@[simp] theorem State.toConfigure_now (s : State) : (State.toConfigure s).1.now = s.now := by
  simp [State.toConfigure, now_ite, fst_ite]

@[simp] theorem State.toStandby_now (s : State) : (State.toStandby s).1.now = s.now := by
  unfold State.toStandby
  repeat' split
  all_goals simp

@[simp] theorem State.cancelRestart_now (s : State) : (State.cancelRestart s).now = s.now := by
  simp [State.cancelRestart]

@[simp] theorem State.stopRequest_now (s : State) : (State.stopRequest s).1.now = s.now := by
  simp [State.stopRequest, now_ite, fst_ite]

@[simp] theorem State.runRequest_now (s : State) : (State.runRequest s).1.now = s.now := by
  simp [State.runRequest, now_ite, fst_ite]

@[simp] theorem State.modeRequest_now (s : State) (v : Nat) : (State.modeRequest s v).1.now = s.now := by
  simp [State.modeRequest, now_ite, fst_ite]

@[simp] theorem State.loopCleared_now (s : State) (l : Nat) : (State.loopCleared s l).now = s.now := by
  simp [State.loopCleared, now_ite]

@[simp] theorem State.clearHold_now (s : State) : (State.clearHold s).1.now = s.now := by
  simp [State.clearHold, now_ite, fst_ite, foldl_now]

@[simp] theorem State.enterService_now (s : State) : (State.enterService s).1.now = s.now := by
  simp [State.enterService, now_ite, fst_ite]

@[simp] theorem State.vinLost_now (s : State) (how : Nat) : (State.vinLost s how).now = s.now := by
  simp [State.vinLost, now_ite]

@[simp] theorem State.secReject_now (s : State) (reason : Nat) (ch : Chan) (idx sub : Nat) :
    (State.secReject s reason ch idx sub).now = s.now := by
  simp [State.secReject]

@[simp] theorem State.secRefuse_now (s : State) (reason : Nat) (ch : Chan) (idx sub : Nat) :
    (State.secRefuse s reason ch idx sub).1.now = s.now := by
  simp [State.secRefuse]

@[simp] theorem State.lock_now (s : State) : (State.lock s).now = s.now := by
  simp [State.lock]

@[simp] theorem State.keepKeys_now (s : State) : (State.keepKeys s).now = s.now := by
  simp [State.keepKeys]

@[simp] theorem State.erase_now (s : State) : (State.erase s).now = s.now := by
  simp [State.erase]

@[simp] theorem State.alarmActs_now (s : State) (src : Nat) : (State.alarmActs s src).now = s.now := by
  simp [State.alarmActs, now_ite]

@[simp] theorem State.alarm_now (s : State) (src : Nat) : (State.alarm s src).now = s.now := by
  simp [State.alarm, now_ite]

@[simp] theorem State.authFail_now (s : State) (slot : Nat) : (State.authFail s slot).now = s.now := by
  simp [State.authFail, now_ite]

@[simp] theorem State.takeTag_now (s : State) (ch : Chan) : (State.takeTag s ch).1.now = s.now := by
  unfold State.takeTag
  repeat' split
  all_goals simp

@[simp] theorem State.passS_now (s : State) (ch : Chan) (idx sub len v : Nat) (tag : Option Nat) :
    (State.passS s ch idx sub len v tag).1.now = s.now := by
  unfold State.passS
  repeat' split
  all_goals simp [SecGrp.counted]

@[simp] theorem State.passWrite_now (s : State) (p : Prot) (ch : Chan) (idx sub len v : Nat) (tag : Option Nat) :
    (State.passWrite s p ch idx sub len v tag).1.now = s.now := by
  unfold State.passWrite
  repeat' split
  all_goals simp

@[simp] theorem State.passRead_now (s : State) (p : Prot) (ch : Chan) (idx sub : Nat) :
    (State.passRead s p ch idx sub).1.now = s.now := by
  unfold State.passRead
  repeat' split
  all_goals simp

@[simp] theorem State.endSession_now (s : State) : (State.endSession s).now = s.now := by
  simp [State.endSession]

@[simp] theorem State.sessionOpen_now (s : State) (ch : Chan) (slot : Nat) :
    (State.sessionOpen s ch slot).1.now = s.now := by
  simp [State.sessionOpen, now_ite, fst_ite]

@[simp] theorem State.sessionProve_now (s : State) (ch : Chan) (v : Nat) :
    (State.sessionProve s ch v).1.now = s.now := by
  unfold State.sessionProve
  repeat' split
  all_goals simp [now_ite, fst_ite]

@[simp] theorem State.sessionTag_now (s : State) (ch : Chan) (v : Nat) : (State.sessionTag s ch v).1.now = s.now := by
  simp [State.sessionTag]

@[simp] theorem State.setKey_now (s : State) (slot v : Nat) : (State.setKey s slot v).now = s.now := by
  simp [State.setKey]

@[simp] theorem State.rekeySlot_now (s : State) (ch : Chan) (v : Nat) : (State.rekeySlot s ch v).1.now = s.now := by
  simp only [State.rekeySlot]
  repeat' split
  all_goals simp

@[simp] theorem State.fuseVerified_now (s : State) (b copies : Nat) :
    (State.fuseVerified s b copies).1.now = s.now := by
  unfold State.fuseVerified
  repeat' split
  all_goals simp [now_ite, foldl_now]

@[simp] theorem State.blowFuse_now (s : State) (ch : Chan) (v verify : Nat) :
    (State.blowFuse s ch v verify).1.now = s.now := by
  unfold State.blowFuse
  repeat' split
  all_goals simp

@[simp] theorem State.expireNonce_later {d₀ : Nat} (s : State) (h₀ : d₀ ≤ s.now) : d₀ ≤ (State.expireNonce s).now := by
  unfold State.expireNonce
  repeat' split
  all_goals simp [h₀]

@[simp] theorem State.expireSession_later {d₀ : Nat} (s : State) (h₀ : d₀ ≤ s.now) :
    d₀ ≤ (State.expireSession s).now := by
  simp (maxDischargeDepth := 40) [State.expireSession, h₀, later_ite]

@[simp] theorem State.refuse_now (s : State) : (State.refuse s).1.now = s.now := by
  simp [State.refuse]

@[simp] theorem State.commitRequest_now (s : State) (tag : Nat) : (State.commitRequest s tag).1.now = s.now := by
  unfold State.commitRequest
  repeat' split
  all_goals simp

@[simp] theorem State.discardAll_now (s : State) : (State.discardAll s).now = s.now := by
  simp [State.discardAll]

@[simp] theorem State.calStart_now (s : State) : (State.calStart s).1.now = s.now := by
  simp [State.calStart, now_ite, fst_ite]

@[simp] theorem State.proofStart_now (s : State) : (State.proofStart s).1.now = s.now := by
  simp [State.proofStart, now_ite, fst_ite]

@[simp] theorem State.clearSafe_now (s : State) (l : Nat) : (State.clearSafe s l).1.now = s.now := by
  simp [State.clearSafe, now_ite, fst_ite]

@[simp] theorem State.clearLatch_now (s : State) (l : Nat) : (State.clearLatch s l).1.now = s.now := by
  simp [State.clearLatch, now_ite, fst_ite]

@[simp] theorem State.clearFirstFail_now (s : State) : (State.clearFirstFail s).now = s.now := by
  simp [State.clearFirstFail]

@[simp] theorem State.clearRecorders_later {d₀ : Nat} (s : State) (h₀ : d₀ ≤ s.now) :
    d₀ ≤ (State.clearRecorders s).now := by
  simp [State.clearRecorders, h₀]

@[simp] theorem State.ackFaults_now (s : State) : (State.ackFaults s).now = s.now := by
  simp [State.ackFaults]

@[simp] theorem State.clearFirst_now (s : State) : (State.clearFirst s).now = s.now := by
  simp [State.clearFirst]

@[simp] theorem State.newTarget_now (s : State) (l v : Nat) (src : TargetSource) :
    (State.newTarget s l v src).now = s.now := by
  unfold State.newTarget
  repeat' split
  all_goals simp

@[simp] theorem State.learnStart_now (s : State) (l : Nat) : (State.learnStart s l).1.now = s.now := by
  simp [State.learnStart, now_ite, fst_ite]

@[simp] theorem State.manualWrite_now (s : State) (p v : Nat) : (State.manualWrite s p v).now = s.now := by
  simp [State.manualWrite, now_ite]

@[simp] theorem State.clearAlerts_now (s : State) (l mask : Nat) : (State.clearAlerts s l mask).now = s.now := by
  simp [State.clearAlerts]

@[simp] theorem State.captureArm_now (s : State) (t : Nat) : (State.captureArm s t).1.now = s.now := by
  simp [State.captureArm, now_ite, fst_ite]

@[simp] theorem State.captureDisarm_now (s : State) (t : Nat) : (State.captureDisarm s t).now = s.now := by
  simp [State.captureDisarm, now_ite]

@[simp] theorem State.saveRequest_now (s : State) (n : Nat) : (State.saveRequest s n).1.now = s.now := by
  simp [State.saveRequest, now_ite, fst_ite]

@[simp] theorem State.restoreRequest_later {d₀ : Nat} (s : State) (n : Nat) (h₀ : d₀ ≤ s.now) :
    d₀ ≤ (State.restoreRequest s n).1.now := by
  simp (maxDischargeDepth := 40) [State.restoreRequest, h₀, later_ite, fst_ite]

@[simp] theorem State.setActive_now (s : State) (n : Nat) : (State.setActive s n).now = s.now := by
  simp [State.setActive]

theorem State.liveDevice_later {d₀ : Nat} (s : State) (ch : Chan) (f : Fam) (sub v b : Nat) (o : Outcome1)
    (h : s.liveDevice ch f sub v b = some o) (h₀ : d₀ ≤ s.now) : d₀ ≤ o.1.now := by
  unfold State.liveDevice at h
  split at h
  all_goals (try (split at h)) <;> (try (split at h))
  all_goals first
    | (cases h; done)
    | (obtain rfl := Option.some.inj h.symm
       simp [h₀]; done)

theorem State.liveBlock_later {d₀ : Nat} (s : State) (f : Fam) (i sub v : Nat) (o : Outcome1)
    (h : s.liveBlock f i sub v = some o) (h₀ : d₀ ≤ s.now) : d₀ ≤ o.1.now := by
  unfold State.liveBlock at h
  split at h
  all_goals (try (split at h)) <;> (try (split at h))
  all_goals first
    | (cases h; done)
    | (obtain rfl := Option.some.inj h.symm
       simp [h₀]; done)

@[simp] theorem State.live_later {d₀ : Nat} (s : State) (ch : Chan) (f : Fam) (i idx sub v b : Nat)
    (h₀ : d₀ ≤ s.now) : d₀ ≤ (s.live ch f i idx sub v b).1.now := by
  unfold State.live
  split
  · exact State.liveDevice_later _ _ _ _ _ _ _ (by assumption) h₀
  · split
    · exact State.liveBlock_later _ _ _ _ _ _ (by assumption) h₀
    · exact h₀

@[simp] theorem State.clearRead_now (s : State) (f : Fam) (i sub : Nat) : (State.clearRead s f i sub).now = s.now := by
  unfold State.clearRead
  repeat' split
  all_goals simp

@[simp] theorem State.putX_later {d₀ : Nat} (s : State) (f : Fam) (i idx sub v : Nat) (h₀ : d₀ ≤ s.now) :
    d₀ ≤ (State.putX s f i idx sub v).now := by
  unfold State.putX
  repeat' split
  all_goals simp [h₀]

@[simp] theorem State.carryOut_later {d₀ : Nat} (s : State) (ch : Chan) (f : Fam) (i idx sub v : Nat) (r : Row) (b : Nat)
    (h₀ : d₀ ≤ s.now) : d₀ ≤ (s.carryOut ch f i idx sub v r b).1.now := by
  unfold State.carryOut
  split
  · exact h₀
  · split
    · exact h₀
    · split <;> simp [h₀]
  · split
    · simp [h₀]
    · have h := State.live_later s ch f i idx sub v b h₀
      split <;> (rename_i e; rw [e] at h; exact h)

@[simp] theorem State.enableDetail_now (s : State) (f : Fam) (i idx sub v : Nat) :
    (State.enableDetail s f i idx sub v).now = s.now := by
  unfold State.enableDetail
  repeat' split
  all_goals simp

@[simp] theorem State.writeChecked_later {d₀ : Nat} (s : State) (ch : Chan) (f : Fam) (i idx sub len v : Nat) (r : Row)
    (b : Nat) (h₀ : d₀ ≤ s.now) : d₀ ≤ (s.writeChecked ch f i idx sub len v r b).1.now := by
  unfold State.writeChecked
  repeat' split
  all_goals simp [h₀]

@[simp] theorem State.writeGated_later {d₀ : Nat} (s : State) (ch : Chan) (f : Fam) (i idx sub len v : Nat) (r : Row)
    (tag : Option Nat) (b : Nat) (h₀ : d₀ ≤ s.now) : d₀ ≤ (s.writeGated ch f i idx sub len v r tag b).1.now := by
  have h := State.passWrite_now s r.prot ch idx sub len v tag
  unfold State.writeGated
  split <;> (rename_i e; rw [e] at h)
  · exact Nat.le_trans h₀ (Nat.le_of_eq h.symm)
  · have h₁ := Nat.le_trans h₀ (Nat.le_of_eq h.symm)
    split <;> simp [h₁]

@[simp] theorem State.writeFound_later {d₀ : Nat} (s : State) (ch : Chan) (f : Fam) (i idx sub len v : Nat)
    (tag : Option Nat) (b : Nat) (h₀ : d₀ ≤ s.now) : d₀ ≤ (s.writeFound ch f i idx sub len v tag b).1.now := by
  unfold State.writeFound
  repeat' split
  all_goals simp [h₀]

@[simp] theorem State.doWrite_later {d₀ : Nat} (s : State) (ch : Chan) (idx sub len v b : Nat) (h₀ : d₀ ≤ s.now) :
    d₀ ≤ (s.doWrite ch idx sub len v b).1.now := by
  unfold State.doWrite
  dsimp only
  split <;> simp [h₀]

@[simp] theorem State.readValue_now (s : State) (ch : Chan) (f : Fam) (i idx sub : Nat) :
    (State.readValue s ch f i idx sub).1.now = s.now := by
  simp [State.readValue, now_ite, fst_ite]

@[simp] theorem State.readFound_now (s : State) (ch : Chan) (f : Fam) (i idx sub len : Nat) :
    (State.readFound s ch f i idx sub len).1.now = s.now := by
  unfold State.readFound
  split
  · simp [now_ite, fst_ite]
  · split
    · rfl
    · split
      · rfl
      · have h := State.passRead_now s (by assumption : Row).prot ch idx sub
        split <;> rename_i e <;> rw [e] at h
        · exact h
        · simpa [now_ite, fst_ite] using h

@[simp] theorem State.doRead_now (s : State) (ch : Chan) (idx sub len : Nat) :
    (State.doRead s ch idx sub len).1.now = s.now := by
  unfold State.doRead
  repeat' split
  all_goals simp

@[simp] theorem State.domainChunk_now (s : State) (idx sub len : Nat) (bs : List Nat) :
    (State.domainChunk s idx sub len bs).1.now = s.now := by
  simp [State.domainChunk]

@[simp] theorem State.spiDoRead_now (s : State) (idx sub len : Nat) :
    (State.spiDoRead s idx sub len).1.now = s.now := by
  have h (s : State) := State.doRead_now s .spi idx sub len
  unfold State.spiDoRead
  split
  · have h := h s
    split
    · rename_i e
      rw [e] at h
      exact (State.domainChunk_now ..).trans h
    · exact h
  · split
    · exact (h _).trans (by simp)
    · exact h s

@[simp] theorem State.reply_now (s : State) (ch : Chan) (r : Resp) : (State.reply s ch r).now = s.now := by
  unfold State.reply
  repeat' split
  all_goals simp

@[simp] theorem State.latency_now (s : State) (ch : Chan) : (State.latency s ch).now = s.now := by
  simp [State.latency]

@[simp] theorem State.answer_now (s : State) (ch : Chan) (r : Resp) : (State.answer s ch r).now = s.now := by
  unfold State.answer
  repeat' split
  all_goals simp

@[simp] theorem State.unanswered_now (s : State) (idx : Nat) : (State.unanswered s idx).now = s.now := by
  unfold State.unanswered
  repeat' split
  all_goals simp

@[simp] theorem State.openTransfer_now (s : State) (ch : Chan) (x : OpenTransfer) :
    (State.openTransfer s ch x).now = s.now := by
  unfold State.openTransfer
  repeat' split
  all_goals simp [now_ite, foldl_now]

@[simp] theorem State.answerInitiate_now (s : State) (ch : Chan) (x : OpenTransfer) (r : Resp) :
    (State.answerInitiate s ch x r).now = s.now := by
  unfold State.answerInitiate
  repeat' split
  all_goals simp [now_ite, foldl_now]

@[simp] theorem State.answerRead_now (s : State) (ch : Chan) (r : Resp) :
    (State.answerRead s ch r).now = s.now := by
  unfold State.answerRead
  repeat' split
  all_goals simp [now_ite, foldl_now]

@[simp] theorem State.rpdoEntry_later {d₀ : Nat} (s : State) (ch : Chan) (e v : Nat) (h₀ : d₀ ≤ s.now) :
    d₀ ≤ (s.rpdoEntry ch e v).now := by
  have h := State.doWrite_later s ch (e / 65536) (e / 256 % 256) (e % 256 / 8) v 0 h₀
  unfold State.rpdoEntry
  dsimp only
  split
  · exact h₀
  · split <;> (rename_i e; rw [e] at h)
    · exact h
    · simpa using h
    · exact h

@[simp] theorem State.rpdoEntries_later {d₀ : Nat} (s : State) (ch : Chan) (es bs : List Nat) (h₀ : d₀ ≤ s.now) :
    d₀ ≤ (s.rpdoEntries ch es bs).now := by
  induction es generalizing s bs with
  | nil => exact h₀
  | cons e es ih => exact ih _ _ (State.rpdoEntry_later _ _ _ _ h₀)

@[simp] theorem State.applyRpdo_later {d₀ : Nat} (s : State) (n : Nat) (data : List Nat) (h₀ : d₀ ≤ s.now) :
    d₀ ≤ (State.applyRpdo s n data).now := by
  simp [State.applyRpdo, h₀]

@[simp] theorem State.handle_later {d₀ : Nat} (s : State) (h : HeldReq) (h₀ : d₀ ≤ s.now) :
    d₀ ≤ (State.handle s h).now := by
  unfold State.handle
  repeat' split
  all_goals simp [h₀]

@[simp] theorem State.hold_now (s : State) (h : HeldReq) : (State.hold s h).now = s.now := by
  unfold State.hold
  repeat' split
  all_goals simp

@[simp] theorem State.silence_now (s : State) (mine : Chan → Bool) :
    (State.silence s mine).now = s.now := by
  unfold State.silence
  repeat' split
  all_goals simp [now_ite, foldl_now]

@[simp] theorem State.transferError_now (s : State) (ch : Chan) : (State.transferError s ch).now = s.now := by
  simp [State.transferError, now_ite]

@[simp] theorem State.protocolError_now (s : State) (ch : Chan) :
    (State.protocolError s ch).now = s.now := by
  simp [State.protocolError]

@[simp] theorem State.readSegment_now (s : State) (ch : Chan) (x : OpenTransfer) (toggle : Bool) :
    (State.readSegment s ch x toggle).now = s.now := by
  unfold State.readSegment
  repeat' split
  all_goals simp [now_ite, foldl_now]

@[simp] theorem State.request_later {d₀ : Nat} (s : State) (ch : Chan) (h : HeldReq) (h₀ : d₀ ≤ s.now) :
    d₀ ≤ (State.request s ch h).now := by
  unfold State.request
  repeat' split
  all_goals simp [h₀]

@[simp] theorem State.write_later {d₀ : Nat} (s : State) (ch : Chan) (idx sub len v : Nat) (h₀ : d₀ ≤ s.now) :
    d₀ ≤ (State.write s ch idx sub len v).now := by
  simp [State.write, h₀]

@[simp] theorem State.serveHeld_later {d₀ : Nat} (s : State) (h₀ : d₀ ≤ s.now) : d₀ ≤ s.serveHeld.now := by
  unfold State.serveHeld
  repeat' split
  · exact h₀
  · exact h₀
  · exact State.handle_later _ _ h₀

@[simp] theorem State.applyLaneCfg_later {d₀ : Nat} (s : State) (t : Nat) (h₀ : d₀ ≤ s.now) :
    d₀ ≤ (State.applyLaneCfg s t).now := by
  unfold State.applyLaneCfg
  dsimp only
  split
  · exact h₀
  · refine later_foldl _ (fun s a h => ?_) _ _ (by simp [h₀])
    split <;> simp [h]

@[simp] theorem State.writeSegment_later {d₀ : Nat} (s : State) (ch : Chan) (x : OpenTransfer) (len v : Nat)
    (toggle last : Bool) (h₀ : d₀ ≤ s.now) : d₀ ≤ (s.writeSegment ch x len v toggle last).now := by
  unfold State.writeSegment
  repeat' split
  all_goals simp [h₀]

/-- A frame of a segmented access takes the time that its operation takes. -/
theorem State.transferFrame_later {d₀ : Nat} (s : State) (ch : Chan) (f : State → State) (h : d₀ ≤ (f s).now)
    (h₀ : d₀ ≤ s.now) : d₀ ≤ (s.transferFrame ch f).now := by
  unfold State.transferFrame
  repeat' split
  · exact h₀
  · simp [h₀]
  · exact h

@[simp] theorem State.writePart_later {d₀ : Nat} (s : State) (ch : Chan) (idx sub len v : Nat) (part : Transfer)
    (h₀ : d₀ ≤ s.now) : d₀ ≤ (s.writePart ch idx sub len v part).now := by
  unfold State.writePart
  split
  · simp [h₀]
  · exact State.transferFrame_later _ _ _ (by simp [h₀]) h₀
  · refine State.transferFrame_later _ _ _ ?_ h₀
    split <;> simp [h₀]
  · exact State.transferFrame_later _ _ _ (by simp [h₀]) h₀

@[simp] theorem State.readPart_later {d₀ : Nat} (s : State) (ch : Chan) (idx sub len : Nat) (part : Transfer)
    (h₀ : d₀ ≤ s.now) : d₀ ≤ (s.readPart ch idx sub len part).now := by
  unfold State.readPart
  split
  · simp [h₀]
  · refine State.transferFrame_later _ _ _ ?_ h₀
    dsimp only
    split <;> simp [h₀]
  · refine State.transferFrame_later _ _ _ ?_ h₀
    split <;> simp [h₀]
  · exact State.transferFrame_later _ _ _ (by simp [h₀]) h₀

theorem State.onFrame_later {d₀ : Nat} (s : State) (c : CanChan) (format : CanFormat) (f : State → State)
    (h : d₀ ≤ (f s).now) (h₀ : d₀ ≤ s.now) : d₀ ≤ (s.onFrame c format f).now := by
  unfold State.onFrame
  split
  · exact h₀
  · exact h

@[simp] theorem State.endTransfers_now (s : State) (c : CanChan) : (State.endTransfers s c).now = s.now := by
  simp [State.endTransfers, now_ite]

@[simp] theorem State.resetComm_now (s : State) (c : CanChan) : (State.resetComm s c).now = s.now := by
  simp [State.resetComm]

@[simp] theorem State.tpdoEntry_now (s : State) (n e : Nat) : (s.tpdoEntry n e).1.now = s.now := by
  have h := State.doRead_now s (canChan (s.tpdoChan n)) (e / 65536) (e / 256 % 256) 0
  unfold State.tpdoEntry
  dsimp only
  split
  · rfl
  · split
    · rename_i k
      simpa only [k] using h
    · rename_i s1 x hx k
      rw [k] at h
      exact h

@[simp] theorem State.tpdoValues_now (s : State) (n : Nat) : (s.tpdoValues n).1.now = s.now := by
  have h (l : List Nat) : ∀ a : State × List Nat,
      (l.foldl (fun a e => ((a.1.tpdoEntry n e).1, a.2 ++ (a.1.tpdoEntry n e).2)) a).1.now = a.1.now := by
    induction l with
    | nil => intro a; rfl
    | cons e l ih => intro a; rw [List.foldl_cons, ih]; exact State.tpdoEntry_now ..
  exact h _ _

@[simp] theorem State.sendTpdo_now (s : State) (n : Nat) (bs : List Nat) (k : Nat) :
    (State.sendTpdo s n bs k).now = s.now := by
  simp [State.sendTpdo]

@[simp] theorem State.latchTpdo_now (s : State) (n : Nat) : (State.latchTpdo s n).now = s.now := by
  simp [State.latchTpdo, now_ite]

@[simp] theorem State.sendNow_later {d₀ : Nat} (s : State) (n : Nat) (h₀ : d₀ ≤ s.now) :
    d₀ ≤ (State.sendNow s n).now := by
  simp [State.sendNow, h₀]

@[simp] theorem State.transmitTpdo_later {d₀ : Nat} (s : State) (n : Nat) (h₀ : d₀ ≤ s.now) :
    d₀ ≤ (State.transmitTpdo s n).now := by
  unfold State.transmitTpdo
  try dsimp only
  repeat' split
  all_goals first
    | exact h₀
    | (simp (maxDischargeDepth := 40) (contextual := true) [h₀, later_ite, fst_ite, later_foldl]; done)

@[simp] theorem State.ackTpdo_now (s : State) (n : Nat) : (State.ackTpdo s n).now = s.now := by
  unfold State.ackTpdo
  repeat' split
  all_goals simp [now_ite]

@[simp] theorem State.syncTpdo_now (s : State) (counter n : Nat) : (State.syncTpdo s counter n).now = s.now := by
  simp [State.syncTpdo, now_ite]

@[simp] theorem State.sync_now (s : State) (c : CanChan) (counter : Nat) : (State.sync s c counter).now = s.now := by
  simp [State.sync, now_ite, foldl_now]

@[simp] theorem State.netFrame_later {d₀ : Nat} (s : State) (h₀ : d₀ ≤ s.now) : d₀ ≤ s.netFrame.now := by
  have h : d₀ ≤ (s.net.rpdoDue.foldl (fun (s : State) e => s.applyRpdo e.1 e.2)
      { s with net := { s.net with rpdoDue := [] } }).now :=
    later_foldl _ (fun s a h => State.applyRpdo_later s a.1 a.2 h) _ _ h₀
  exact Nat.le_trans h (Nat.le_of_eq (foldl_now _ State.latchTpdo_now _ _).symm)

@[simp] theorem State.receiveRpdo_later {d₀ : Nat} (s : State) (n : Nat) (data : List Nat) (h₀ : d₀ ≤ s.now) :
    d₀ ≤ (State.receiveRpdo s n data).now := by
  unfold State.receiveRpdo
  try dsimp only
  repeat' split
  all_goals first
    | exact h₀
    | (simp (maxDischargeDepth := 40) (contextual := true) [h₀, later_ite, fst_ite, later_foldl]; done)

@[simp] theorem State.spiBad_now (s : State) : (State.spiBad s).now = s.now := by
  simp [State.spiBad]

@[simp] theorem State.spiDiscard_now (s : State) : (State.spiDiscard s).now = s.now := by
  simp [State.spiDiscard]

@[simp] theorem State.spiRead_later {d₀ : Nat} (s : State) (idx sub len : Nat) (crcOk : Bool) (h₀ : d₀ ≤ s.now) :
    d₀ ≤ (State.spiRead s idx sub len crcOk).now := by
  simp (maxDischargeDepth := 40) [State.spiRead, h₀, later_ite]

@[simp] theorem State.spiWrite_later {d₀ : Nat} (s : State) (idx sub len v : Nat) (crcOk : Bool) (h₀ : d₀ ≤ s.now) :
    d₀ ≤ (State.spiWrite s idx sub len v crcOk).now := by
  simp (maxDischargeDepth := 40) [State.spiWrite, h₀, later_ite]

@[simp] theorem State.ringRead_now (s : State) (r len : Nat) (crcOk : Bool) :
    (State.ringRead s r len crcOk).now = s.now := by
  simp [State.ringRead, now_ite]

@[simp] theorem State.srdoLost_now (s : State) (i : Nat) :
    (State.srdoLost s i).now = s.now := by
  simp [State.srdoLost, now_ite]

@[simp] theorem State.srdoLoss_now (s : State) (i : Nat) :
    (State.srdoLoss s i).now = s.now := by
  simp [State.srdoLoss, now_ite]

@[simp] theorem State.srdoTake_now (s : State) (i normal : Nat) : (State.srdoTake s i normal).now = s.now := by
  simp [State.srdoTake, now_ite]

@[simp] theorem State.srdoIn_now (s : State) (i normal inverted apartMs : Nat) :
    (State.srdoIn s i normal inverted apartMs).now = s.now := by
  unfold State.srdoIn
  repeat' split
  all_goals simp [now_ite]

@[simp] theorem State.srdoOut_later {d₀ : Nat} (s : State) (i : Nat) (h₀ : d₀ ≤ s.now) :
    d₀ ≤ (State.srdoOut s i).now := by
  unfold State.srdoOut
  split
  · simp [h₀]
  · exact h₀

@[simp] theorem State.refFault_now (s : State) (t kind : Nat) : (State.refFault s t kind).now = s.now := by
  simp [State.refFault, now_ite]

@[simp] theorem State.frequencyCheck_now (s : State) (t count : Nat) :
    (State.frequencyCheck s t count).now = s.now := by
  simp [State.frequencyCheck, now_ite]

@[simp] theorem State.slowStops_now (s : State) (t : Nat) : (State.slowStops s t).now = s.now := by
  simp [State.slowStops, now_ite]

@[simp] theorem State.watchdog_now (s : State) (t : Nat) : (State.watchdog s t).now = s.now := by
  simp [State.watchdog, now_ite]

theorem time_ite (c : Prop) [Decidable c] (a b : ClkGrp × Option Nat) :
    (if c then a else b).1.time = if c then a.1.time else b.1.time := by split <;> rfl

theorem time_mk (a0 a1 a2 a3 a4 a5 a6 a7 a8 a9 a10 a11 a12 a13 a14 a15 a16 a17 a18 a19 a20 : _) (v : Option Nat) :
    ((ClkGrp.mk a0 a1 a2 a3 a4 a5 a6 a7 a8 a9 a10 a11 a12 a13 a14 a15 a16 a17 a18 a19 a20, v) : ClkGrp × Option Nat).1.time = a0 := rfl

theorem ClkGrp.syncEdge_time (c : ClkGrp) (t : Nat) : (c.syncEdge t).1.time = c.time := by
  rw [ClkGrp.syncEdge]
  cases c.syncLastEdge with
  | none => rw [time_mk]
  | some p =>
    cases c.syncGrid with
    | none => rw [time_ite, time_mk, ite_self]
    | some q =>
      rw [time_ite, time_ite, time_ite, time_ite]
      split
      · rfl
      · split
        · exact time_mk ..
        · split
          · exact time_mk ..
          · split
            · exact time_mk ..
            · exact time_mk ..

@[simp] theorem State.syncIn_now (s : State) : s.syncIn.now = s.now := by
  unfold State.syncIn
  dsimp only
  split
  · rfl
  · split <;> simp [ClkGrp.syncEdge_time]

@[simp] theorem State.timeRx_now (s : State) (c : CanChan) (v : Nat) : (State.timeRx s c v).now = s.now := by
  simp [State.timeRx, now_ite]

@[simp] theorem State.frameBoundary_later {d₀ : Nat} (s : State) (h₀ : d₀ ≤ s.now) :
    d₀ ≤ (State.frameBoundary s).now := by
  simp (maxDischargeDepth := 40) [State.frameBoundary, h₀, later_ite]

@[simp] theorem State.keepCal_now (s : State) (t : Nat) : (State.keepCal s t).now = s.now := by
  simp [State.keepCal, foldl_now]

@[simp] theorem State.calTile_now (rs : List CalResult) (s : State) (t : Nat) : (State.calTile rs s t).now = s.now := by
  simp [State.calTile, now_ite]

@[simp] theorem State.calFinish_now (s : State) (rs : List CalResult) : (State.calFinish s rs).now = s.now := by
  simp [State.calFinish, foldl_now]

@[simp] theorem State.keepHeader_now (s : State) (t result : Nat) :
    (State.keepHeader s t result).now = s.now := by
  unfold State.keepHeader
  repeat' split
  all_goals simp [now_ite, foldl_now]

@[simp] theorem State.recoverAll_now (s : State) (i : PowerUpIn) : (State.recoverAll s i).now = s.now := by
  simp [State.recoverAll, now_ite, foldl_now]

@[simp] theorem State.recoverRecords_now (s : State) (f : Nat × Option (Nat × Nat) × List Nat) :
    (State.recoverRecords s f).now = s.now := by
  unfold State.recoverRecords
  repeat' split
  all_goals simp [now_ite, foldl_now]

@[simp] theorem State.loadPair_now (s : State) (t i : Nat) : (State.loadPair s t i).now = s.now := by
  simp [State.loadPair]

@[simp] theorem State.lostPairs_now (s : State) (t : Nat) : (State.lostPairs s t).now = s.now := by
  simp [State.lostPairs, foldl_now]

@[simp] theorem State.netFromCfg_now (s : State) : (State.netFromCfg s).now = s.now := by
  simp [State.netFromCfg]

@[simp] theorem State.loadAll_now (s : State) : (State.loadAll s).now = s.now := by
  simp [State.loadAll]

@[simp] theorem State.resetRecord_now (s : State) (t : Nat) : (State.resetRecord s t).now = s.now := by
  simp only [State.resetRecord, State.now]

@[simp] theorem State.tileUp_now (i : PowerUpIn) (s : State) (t : Nat) : (State.tileUp i s t).now = s.now := by
  simp [State.tileUp, now_ite]

@[simp] theorem State.porAlarms_now (s : State) :
    (State.porAlarms s).now = s.now := by
  unfold State.porAlarms
  repeat' split
  all_goals simp [now_ite, foldl_now]

@[simp] theorem State.firstLook_later {d₀ : Nat} (s : State) (active : List Nat) (h₀ : d₀ ≤ s.now) :
    d₀ ≤ (State.firstLook s active).now := by
  simp (maxDischargeDepth := 40) (contextual := true) [State.firstLook, h₀, later_ite, later_foldl]

@[simp] theorem State.autoMode_now (s : State) : (State.autoMode s).now = s.now := by
  unfold State.autoMode
  repeat' split
  all_goals simp [now_ite]

end Sys2Proof.Machine
end

