-- ==== Sys2Proof/Laws/TimeCommands.lean ====
section
/-! SUPPORT. The operations of the commands leave device time where it is or move it forward. -/

namespace Sys2Proof.Machine

@[simp] theorem State.stepped_now (s : State) : (State.stepped s).now = s.now := by
  simp [State.stepped, now_ite]

@[simp] theorem State.marked_now (s : State) (others : Nat) :
    (State.marked s others).now = s.now := by
  simp [State.marked]

@[simp] theorem State.advance_later {d₀ : Nat} (s : State) (others : Nat) (h₀ : d₀ ≤ s.now) :
    d₀ ≤ (State.advance s others).now := by
  unfold State.advance
  repeat' split
  all_goals simp [h₀]

@[simp] theorem State.reverse_later {d₀ : Nat} (s : State) (others : Nat) (h₀ : d₀ ≤ s.now) :
    d₀ ≤ (State.reverse s others).now := by
  simp (maxDischargeDepth := 40) [State.reverse, h₀, later_ite]

@[simp] theorem State.goLocal_now (s : State) : (State.goLocal s).now = s.now := by
  simp [State.goLocal, now_ite]

@[simp] theorem State.downWithOthers_now (s : State) :
    (State.downWithOthers s).now = s.now := by
  unfold State.downWithOthers
  repeat' split
  all_goals simp [now_ite, foldl_now]

@[simp] theorem State.lineTimeout_later {d₀ : Nat} (s : State) (t others : Nat) (h₀ : d₀ ≤ s.now) :
    d₀ ≤ (State.lineTimeout s t others).now := by
  unfold State.lineTimeout
  try dsimp only
  repeat' split
  all_goals first
    | exact h₀
    | (simp [h₀]; done)
    | (simp; exact State.reach_later _ _ h₀)

@[simp] theorem State.stateSeen_now (s : State) (t st dir : Nat) : (State.stateSeen s t st dir).now = s.now := by
  simp [State.stateSeen, now_ite]

@[simp] theorem State.turnOn_later {d₀ : Nat} (s : State) (n : Nat) (h₀ : d₀ ≤ s.now) :
    d₀ ≤ (State.turnOn s n).now := by
  unfold State.turnOn
  try dsimp only
  repeat' split
  all_goals first
    | exact h₀
    | (simp (maxDischargeDepth := 40) (contextual := true) [h₀, later_ite, fst_ite, later_foldl]; done)

@[simp] theorem State.parentNotice_now (s : State) (t n : Nat) : (State.parentNotice s t n).now = s.now := by
  simp [State.parentNotice, now_ite]

@[simp] theorem State.retryEnds_now (s : State) (n : Nat) : (State.retryEnds s n).now = s.now := by
  simp [State.retryEnds, now_ite]

@[simp] theorem State.retriesEnd_now (s : State) : (State.retriesEnd s).now = s.now := by
  simp [State.retriesEnd, foldl_now]

@[simp] theorem State.retryNext_now (s : State) (n : Nat) : (State.retryNext s n).now = s.now := by
  simp [State.retryNext]

@[simp] theorem State.settleDone_later {d₀ : Nat} (s : State) (n : Nat) (h₀ : d₀ ≤ s.now) :
    d₀ ≤ (State.settleDone s n).now := by
  unfold State.settleDone
  try dsimp only
  repeat' split
  all_goals simp [h₀]

@[simp] theorem State.declareGood_later {d₀ : Nat} (s : State) (n : Nat) (h₀ : d₀ ≤ s.now) :
    d₀ ≤ (State.declareGood s n).now := by
  simp (maxDischargeDepth := 40) [State.declareGood, h₀, later_ite]

@[simp] theorem State.clearRetries_later {d₀ : Nat} (s : State) (n : Nat) (h₀ : d₀ ≤ s.now) :
    d₀ ≤ (State.clearRetries s n).now := by
  simp (maxDischargeDepth := 40) [State.clearRetries, h₀, later_ite]

@[simp] theorem State.pgChanged_now (s : State) (n : Nat) (high : Bool) (held : Nat) :
    (State.pgChanged s n high held).now = s.now := by
  simp [State.pgChanged, now_ite]

@[simp] theorem State.dropSeen_now (s : State) (n : Nat) : (State.dropSeen s n).now = s.now := by
  simp [State.dropSeen]

@[simp] theorem State.dropFault_now (s : State) (n : Nat) : (State.dropFault s n).now = s.now := by
  simp [State.dropFault, now_ite]

@[simp] theorem State.badTime_later {d₀ : Nat} (s : State) (n : Nat) (h₀ : d₀ ≤ s.now) :
    d₀ ≤ (State.badTime s n).now := by
  unfold State.badTime
  try dsimp only
  repeat' split
  all_goals first
    | exact h₀
    | (simp (maxDischargeDepth := 40) (contextual := true) [h₀, later_ite, fst_ite, later_foldl]; done)

@[simp] theorem State.deadline_later {d₀ : Nat} (s : State) (n : Nat) (h₀ : d₀ ≤ s.now) :
    d₀ ≤ (State.deadline s n).now := by
  simp (maxDischargeDepth := 40) [State.deadline, h₀, later_ite]

@[simp] theorem State.groupMoves_now (s : State) (g was : Nat) : (State.groupMoves s g was).now = s.now := by
  simp [State.groupMoves, now_ite]

@[simp] theorem State.dischargeDone_now (s : State) (n : Nat) : (State.dischargeDone s n).now = s.now := by
  simp only [State.dischargeDone]
  repeat' split
  all_goals simp

@[simp] theorem State.dischargedNow_now (s : State) (n : Nat) : (State.dischargedNow s n).now = s.now := by
  simp [State.dischargedNow, now_ite]

@[simp] theorem State.dischargeAtOnce_now (s : State) (n : Nat) : (State.dischargeAtOnce s n).now = s.now := by
  unfold State.dischargeAtOnce
  repeat' split
  all_goals simp

@[simp] theorem State.turnOff_later {d₀ : Nat} (s : State) (n : Nat) (h₀ : d₀ ≤ s.now) :
    d₀ ≤ (State.turnOff s n).now := by
  unfold State.turnOff
  repeat' split
  all_goals simp [h₀]

@[simp] theorem State.dischargeTimesOut_later {d₀ : Nat} (s : State) (n : Nat) (h₀ : d₀ ≤ s.now) :
    d₀ ≤ (State.dischargeTimesOut s n).now := by
  simp (maxDischargeDepth := 40) [State.dischargeTimesOut, h₀, later_ite]

@[simp] theorem State.resetPulseEnd_later {d₀ : Nat} (s : State) (h₀ : d₀ ≤ s.now) :
    d₀ ≤ (State.resetPulseEnd s).now := by
  unfold State.resetPulseEnd
  repeat' split
  all_goals simp [h₀]

@[simp] theorem State.sysRestart_later {d₀ : Nat} (s : State) (h₀ : d₀ ≤ s.now) : d₀ ≤ (State.sysRestart s).now := by
  simp (maxDischargeDepth := 40) [State.sysRestart, h₀, later_ite]

@[simp] theorem State.sysCountClear_later {d₀ : Nat} (s : State) (h₀ : d₀ ≤ s.now) :
    d₀ ≤ (State.sysCountClear s).now := by
  unfold State.sysCountClear
  repeat' split
  all_goals simp [h₀]

@[simp] theorem State.railDropped_now (s : State) (n : Nat) : (State.railDropped s n).now = s.now := by
  simp [State.railDropped, now_ite]

@[simp] theorem State.takeWaiting_now (s : State) (n : Nat) :
    (State.takeWaiting s n).now = s.now := by
  unfold State.takeWaiting
  repeat' split
  all_goals simp [now_ite, foldl_now]

@[simp] theorem State.railOutcome_later {d₀ : Nat} (s : State) (i : Instr) (h₀ : d₀ ≤ s.now) :
    d₀ ≤ (State.railOutcome s i).now := by
  unfold State.railOutcome
  repeat' split
  all_goals simp [h₀]

@[simp] theorem State.deferred_later {d₀ : Nat} (s : State) (d : Deferred) (h₀ : d₀ ≤ s.now) :
    d₀ ≤ (State.deferred s d).now := by
  unfold State.deferred
  repeat' split
  all_goals simp [h₀]

@[simp] theorem State.railDue_later {d₀ : Nat} (s : State) (n : Nat) (i : Instr) (h₀ : d₀ ≤ s.now) :
    d₀ ≤ (State.railDue s n i).now := by
  simp (maxDischargeDepth := 40) [State.railDue, h₀, later_ite]

@[simp] theorem State.railDropDue_later {d₀ : Nat} (s : State) (n : Nat) (h₀ : d₀ ≤ s.now) :
    d₀ ≤ (State.railDropDue s n).now := by
  simp (maxDischargeDepth := 40) [State.railDropDue, h₀, later_ite]

@[simp] theorem State.recovered_later {d₀ : Nat} (s : State) (t : Nat) (h₀ : d₀ ≤ s.now) :
    d₀ ≤ (State.recovered s t).now := by
  simp (maxDischargeDepth := 40) (contextual := true) [State.recovered, h₀, later_ite, later_foldl]

@[simp] theorem State.freezeAhead_later {d₀ : Nat} (s : State) (p : Nat) (h₀ : d₀ ≤ s.now) :
    d₀ ≤ (State.freezeAhead s p).now := by
  simp (maxDischargeDepth := 40) [State.freezeAhead, h₀, later_ite]

@[simp] theorem State.edgeDecision_later {d₀ : Nat} (s : State) (p : Nat) (h₀ : d₀ ≤ s.now) :
    d₀ ≤ (State.edgeDecision s p).now := by
  simp (maxDischargeDepth := 40) [State.edgeDecision, h₀, later_ite]

@[simp] theorem State.burstZero_now (s : State) (p z : Nat) : (State.burstZero s p z).now = s.now := by
  unfold State.burstZero
  try dsimp only
  repeat' split
  all_goals first
    | rfl
    | (simp [now_ite, fst_ite, foldl_now]; done)

@[simp] theorem State.carrierZero_later {d₀ : Nat} (s : State) (p : Nat) (h₀ : d₀ ≤ s.now) :
    d₀ ≤ (State.carrierZero s p).now := by
  simp (maxDischargeDepth := 40) [State.carrierZero, h₀, later_ite]

@[simp] theorem State.syncOut_now (s : State) (l b : Nat) : (State.syncOut s l b).now = s.now := by
  simp [State.syncOut, now_ite]

@[simp] theorem State.carrierBoundary_later {d₀ : Nat} (s : State) (l : Nat) (h₀ : d₀ ≤ s.now) :
    d₀ ≤ (State.carrierBoundary s l).now := by
  simp (maxDischargeDepth := 40) [State.carrierBoundary, h₀, later_ite]

@[simp] theorem State.outputStuck_now (s : State) (p ball : Nat) : (State.outputStuck s p ball).now = s.now := by
  unfold State.outputStuck
  repeat' split
  all_goals simp

@[simp] theorem State.readback_later {d₀ : Nat} (s : State) (p : Nat) (high low : Option Bool) (h₀ : d₀ ≤ s.now) :
    d₀ ≤ (State.readback s p high low).now := by
  simp (maxDischargeDepth := 40) [State.readback, h₀, later_ite]

@[simp] theorem State.truncateAll_now (s : State) (ps : List Nat) : (State.truncateAll s ps).now = s.now := by
  simp [State.truncateAll, foldl_now]

@[simp] theorem State.tripRecord_now (s : State) (t src act : Nat) : (State.tripRecord s t src act).now = s.now := by
  simp [State.tripRecord]

@[simp] theorem State.tripOn_now (s : State) (t n : Nat) : (State.tripOn s t n).now = s.now := by
  simp [State.tripOn, now_ite]

@[simp] theorem State.sfltOn_now (s : State) (t k : Nat) : (State.sfltOn s t k).now = s.now := by
  simp [State.sfltOn, now_ite]

@[simp] theorem State.sfltPin_now (s : State) (t k : Nat) :
    (State.sfltPin s t k).now = s.now := by
  unfold State.sfltPin
  repeat' split
  all_goals simp [now_ite, foldl_now]

@[simp] theorem State.tripPin_now (s : State) (t n : Nat) (level : Bool) : (State.tripPin s t n level).now = s.now := by
  simp [State.tripPin, now_ite]

@[simp] theorem State.safeLow_now (s : State) : (State.safeLow s).now = s.now := by
  simp [State.safeLow, now_ite, foldl_now]

@[simp] theorem State.safeHigh_now (s : State) : (State.safeHigh s).now = s.now := by
  simp [State.safeHigh, now_ite]

@[simp] theorem State.tripActs_later {d₀ : Nat} (s : State) (t : Nat) (i : TripInput) (h₀ : d₀ ≤ s.now) :
    d₀ ≤ (State.tripActs s t i).now := by
  unfold State.tripActs
  repeat' split
  all_goals simp [h₀]

@[simp] theorem State.windowEnds_later {d₀ : Nat} (s : State) (t : Nat) (i : TripInput) (present : Bool) (h₀ : d₀ ≤ s.now) :
    d₀ ≤ (State.windowEnds s t i present).now := by
  simp (maxDischargeDepth := 40) [State.windowEnds, h₀, later_ite]

@[simp] theorem State.tripReleased_now (s : State) (t : Nat) (i : TripInput) :
    (State.tripReleased s t i).now = s.now := by
  unfold State.tripReleased
  repeat' split
  all_goals simp

@[simp] theorem State.tripInputsEnd_now (s : State) (l : Nat) : (State.tripInputsEnd s l).now = s.now := by
  simp [State.tripInputsEnd]

@[simp] theorem State.tripOffTime_now (s : State) (l : Nat) : (State.tripOffTime s l).now = s.now := by
  simp [State.tripOffTime, now_ite]

@[simp] theorem State.safeTripRelease_now (s : State) (l : Nat) : (State.safeTripRelease s l).now = s.now := by
  simp [State.safeTripRelease, now_ite]

@[simp] theorem State.debugHalt_now (s : State) : (State.debugHalt s).now = s.now := by
  simp [State.debugHalt, now_ite, foldl_now]

@[simp] theorem State.haltEnd_now (s : State) : (State.haltEnd s).now = s.now := by
  simp [State.haltEnd, now_ite]

@[simp] theorem State.writeAt_later {d₀ : Nat} (s : State) (ok : Bool) (ch : Chan) (idx sub len v : Nat) (h₀ : d₀ ≤ s.now) :
    d₀ ≤ (State.writeAt s ok ch idx sub len v).now := by
  simp [State.writeAt, h₀]

@[simp] theorem State.dwellExpiry_now (s : State) (l : Nat) : (State.dwellExpiry s l).now = s.now := by
  simp [State.dwellExpiry, now_ite]

@[simp] theorem State.learnEnds_now (s : State) (l : Nat) : (State.learnEnds s l).now = s.now := by
  simp [State.learnEnds, now_ite]

@[simp] theorem State.shareTells_now (s : State) (p : Nat) : (State.shareTells s p).now = s.now := by
  simp only [State.shareTells]
  repeat' split
  all_goals simp

@[simp] theorem State.burstEnters_later {d₀ : Nat} (s : State) (l : Nat) (h₀ : d₀ ≤ s.now) :
    d₀ ≤ (State.burstEnters s l).now := by
  simp (maxDischargeDepth := 40) [State.burstEnters, h₀, later_ite]

@[simp] theorem State.burstSleeps_later {d₀ : Nat} (s : State) (l : Nat) (h₀ : d₀ ≤ s.now) :
    d₀ ≤ (State.burstSleeps s l).now := by
  simp (maxDischargeDepth := 40) [State.burstSleeps, h₀, later_ite, foldl_now]

@[simp] theorem State.burstExits_now (s : State) (l : Nat) (cause : BurstExitCause) :
    (State.burstExits s l cause).now = s.now := by
  unfold State.burstExits
  repeat' split
  all_goals simp

@[simp] theorem State.holdTimeout_later {d₀ : Nat} (s : State) (l : Nat) (h₀ : d₀ ≤ s.now) :
    d₀ ≤ (State.holdTimeout s l).now := by
  simp (maxDischargeDepth := 40) [State.holdTimeout, h₀, later_ite]

@[simp] theorem State.canopyCross_later {d₀ : Nat} (s : State) (l : Nat) (h₀ : d₀ ≤ s.now) :
    d₀ ≤ (State.canopyCross s l).now := by
  simp (maxDischargeDepth := 40) [State.canopyCross, h₀, later_ite]

@[simp] theorem State.canopyTimeout_later {d₀ : Nat} (s : State) (l : Nat) (h₀ : d₀ ≤ s.now) :
    d₀ ≤ (State.canopyTimeout s l).now := by
  unfold State.canopyTimeout
  try dsimp only
  repeat' split
  all_goals first
    | exact h₀
    | (simp (maxDischargeDepth := 40) (contextual := true) [h₀, later_ite, fst_ite, later_foldl]; done)

@[simp] theorem State.lprev_now (s : State) (l : Nat) : (State.lprev s l).now = s.now := by
  simp only [State.lprev]
  repeat' split
  all_goals simp

@[simp] theorem State.lprevEdge_now (s : State) (t : Nat) : (State.lprevEdge s t).now = s.now := by
  simp [State.lprevEdge, now_ite, foldl_now]

@[simp] theorem State.applyPreview_later {d₀ : Nat} (s : State) (l : Nat) (h₀ : d₀ ≤ s.now) :
    d₀ ≤ (State.applyPreview s l).now := by
  unfold State.applyPreview
  try dsimp only
  repeat' split
  all_goals first
    | exact h₀
    | (simp (maxDischargeDepth := 40) (contextual := true) [h₀, later_ite, fst_ite, later_foldl]; done)

@[simp] theorem State.endPreview_later {d₀ : Nat} (s : State) (l : Nat) (h₀ : d₀ ≤ s.now) :
    d₀ ≤ (State.endPreview s l).now := by
  unfold State.endPreview
  repeat' split
  all_goals simp [h₀]

@[simp] theorem State.hiccupTriggers_later {d₀ : Nat} (s : State) (p : Nat) (h₀ : d₀ ≤ s.now) :
    d₀ ≤ (State.hiccupTriggers s p).now := by
  unfold State.hiccupTriggers
  try dsimp only
  repeat' split
  all_goals first
    | exact h₀
    | (simp (maxDischargeDepth := 40) (contextual := true) [h₀, later_ite, fst_ite, later_foldl]; done)

@[simp] theorem State.offTimeEnds_later {d₀ : Nat} (s : State) (l : Nat) (h₀ : d₀ ≤ s.now) :
    d₀ ≤ (State.offTimeEnds s l).now := by
  simp (maxDischargeDepth := 40) [State.offTimeEnds, h₀, later_ite]

@[simp] theorem State.hiccupsClear_later {d₀ : Nat} (s : State) (l : Nat) (h₀ : d₀ ≤ s.now) :
    d₀ ≤ (State.hiccupsClear s l).now := by
  simp (maxDischargeDepth := 40) [State.hiccupsClear, h₀, later_ite]

@[simp] theorem State.otRestarts_now (s : State) (l : Nat) : (State.otRestarts s l).now = s.now := by
  simp [State.otRestarts, now_ite]

@[simp] theorem State.uvReports_later {d₀ : Nat} (s : State) (l : Nat) (h₀ : d₀ ≤ s.now) :
    d₀ ≤ (State.uvReports s l).now := by
  simp (maxDischargeDepth := 40) [State.uvReports, h₀, later_ite]

@[simp] theorem State.uvEnds_later {d₀ : Nat} (s : State) (l : Nat) (h₀ : d₀ ≤ s.now) :
    d₀ ≤ (State.uvEnds s l).now := by
  simp (maxDischargeDepth := 40) [State.uvEnds, h₀, later_ite]

@[simp] theorem State.lowSidesTimeout_later {d₀ : Nat} (s : State) (l : Nat) (h₀ : d₀ ≤ s.now) :
    d₀ ≤ (State.lowSidesTimeout s l).now := by
  simp (maxDischargeDepth := 40) [State.lowSidesTimeout, h₀, later_ite]

@[simp] theorem State.laneSet_now (s : State) (t k l op v : Nat) : (State.laneSet s t k l op v).now = s.now := by
  unfold State.laneSet
  repeat' split
  all_goals simp

@[simp] theorem State.laneNak_now (s : State) (t op status : Nat) (l : Option Nat) :
    (State.laneNak s t op status l).now = s.now := by
  unfold State.laneNak
  repeat' split
  all_goals simp

@[simp] theorem State.countSet_now (s : State) (l : Nat) : (State.countSet s l).now = s.now := by
  simp [State.countSet]

@[simp] theorem State.laneExec_now (s : State) (t k op v : Nat) : (State.laneExec s t k op v).1.now = s.now := by
  simp only [State.laneExec]
  repeat' split
  all_goals simp

@[simp] theorem State.laneLast_now (s : State) (t k op v rsp : Nat) : (State.laneLast s t k op v rsp).now = s.now := by
  unfold State.laneLast
  repeat' split
  all_goals simp

@[simp] theorem State.laneAnswer_now (s : State) (t : Nat) (a : Option Nat) (b : Bool) :
    (s.laneAnswer t a b).st.now = s.now := by
  unfold State.laneAnswer
  dsimp only
  repeat' split
  all_goals simp

@[simp] theorem State.laneExhausted_now (s : State) (t n : Nat) : (State.laneExhausted s t n).now = s.now := by
  unfold State.laneExhausted
  dsimp only
  rw [State.updLane_now, foldl_now, State.report_now]
  intro s a
  split <;> simp

@[simp] theorem State.transact_later {d₀ : Nat} (s : State) (t : Nat) (answer : Option Nat) (stillLow : Bool) (h₀ : d₀ ≤ s.now) :
    d₀ ≤ (State.transact s t answer stillLow).now := by
  simp (maxDischargeDepth := 40) [State.transact, h₀, later_ite]

@[simp] theorem State.laneCommand_later {d₀ : Nat} (s : State) (t k op seq payload : Nat) (h₀ : d₀ ≤ s.now) :
    d₀ ≤ (State.laneCommand s t k op seq payload).now := by
  simp [State.laneCommand, h₀]

@[simp] theorem State.backoffEnds_later {d₀ : Nat} (s : State) (t : Nat) (h₀ : d₀ ≤ s.now) :
    d₀ ≤ (State.backoffEnds s t).now := by
  simp (maxDischargeDepth := 40) [State.backoffEnds, h₀, later_ite]

@[simp] theorem State.laneLevel_now (s : State) (t mv : Nat) :
    (State.laneLevel s t mv).now = s.now := by
  simp [State.laneLevel, now_ite]

@[simp] theorem State.laneRefuses_now (s : State) (t k l status : Nat) :
    (State.laneRefuses s t k l status).now = s.now := by
  simp [State.laneRefuses]

@[simp] theorem State.acceptOne_now (s : State) (l : Nat) (w : Waiting) : (State.acceptOne s l w).now = s.now := by
  unfold State.acceptOne
  try dsimp only
  repeat' split
  all_goals first
    | rfl
    | (simp [now_ite, fst_ite, foldl_now]; done)

@[simp] theorem State.acceptWaiting_now (s : State) (l : Nat) : (State.acceptWaiting s l).now = s.now := by
  simp [State.acceptWaiting, now_ite, foldl_now]

@[simp] theorem State.boundaryFirst_later {d₀ : Nat} (s : State) (h₀ : d₀ ≤ s.now) :
    d₀ ≤ (State.boundaryFirst s).now := by
  simp (maxDischargeDepth := 40) [State.boundaryFirst, h₀, later_ite]

theorem State.nextSample_later (s : State) : s.now ≤ s.nextSample := by
  unfold State.nextSample
  split
  · exact Nat.le_refl _
  · simp only [ticksPerSample]
    omega

@[simp] theorem State.oneSample_later {d₀ : Nat} (s : State) (cs : List Conv) (h₀ : d₀ ≤ s.now) :
    d₀ ≤ (s.oneSample cs).now := by
  have h₁ : d₀ ≤ s.nextSample := Nat.le_trans h₀ s.nextSample_later
  unfold State.oneSample
  split
  · exact h₀
  · refine later_foldl _ (fun s a h => by simp [h]) _ _ (later_foldl _ (fun s a h => by simp [h]) _ _ ?_)
    exact later_foldl _ (fun s a h => by simp [h]) _ _ h₁

@[simp] theorem State.stopReplica_now (s : State) (l r : Nat) : (State.stopReplica s l r).now = s.now := by
  simp [State.stopReplica]

@[simp] theorem State.slotLost_now (s : State) (l r from_ kind : Nat) :
    (State.slotLost s l r from_ kind).now = s.now := by
  simp [State.slotLost, now_ite]

@[simp] theorem State.missPreview_now (s : State) (l r : Nat) :
    (State.missPreview s l r).now = s.now := by
  unfold State.missPreview
  repeat' split
  all_goals simp [now_ite, foldl_now]

@[simp] theorem State.sampleLost_now (s : State) (l r t : Nat) : (State.sampleLost s l r t).now = s.now := by
  simp [State.sampleLost]

@[simp] theorem State.takeError_now (s : State) (l r n : Nat) (e : Int) : (State.takeError s l r n e).now = s.now := by
  simp [State.takeError, now_ite]

@[simp] theorem State.takeAction_later {d₀ : Nat} (s : State) (l r act : Nat) (h₀ : d₀ ≤ s.now) :
    d₀ ≤ (State.takeAction s l r act).now := by
  simp (maxDischargeDepth := 40) [State.takeAction, h₀, later_ite]

@[simp] theorem State.deliver_later {d₀ : Nat} (s : State) (l r : Nat) (f : SampleSlot) (h₀ : d₀ ≤ s.now) :
    d₀ ≤ (State.deliver s l r f).now := by
  simp (maxDischargeDepth := 40) [State.deliver, h₀, later_ite]

@[simp] theorem State.sampleSlot_later {d₀ : Nat} (s : State) (r t k w : Nat) (h₀ : d₀ ≤ s.now) :
    d₀ ≤ (State.sampleSlot s r t k w).now := by
  unfold State.sampleSlot
  try dsimp only
  repeat' split
  all_goals first
    | exact h₀
    | (simp (maxDischargeDepth := 40) (contextual := true) [h₀, later_ite, fst_ite, later_foldl]; done)

@[simp] theorem State.portLost_now (s : State) (r t : Nat) : (State.portLost s r t).now = s.now := by
  simp [State.portLost, now_ite]

@[simp] theorem State.decideLoss_now (s : State) (t : Nat) (answered : Bool) :
    (State.decideLoss s t answered).now = s.now := by
  simp [State.decideLoss, now_ite]

@[simp] theorem State.safeRequested_now (s : State) (r t b : Nat) : (State.safeRequested s r t b).now = s.now := by
  simp only [State.safeRequested]
  repeat' (first | split | (simp; done) | (refine foldl_now _ (fun s a => ?_) _ _) | (refine (foldl_now _ (fun s a => ?_) _ _).trans ?_))

@[simp] theorem State.controlByte_later {d₀ : Nat} (s : State) (r t b : Nat) (h₀ : d₀ ≤ s.now) :
    d₀ ≤ (State.controlByte s r t b).now := by
  unfold State.controlByte
  try dsimp only
  repeat' split
  all_goals first
    | exact h₀
    | (simp (maxDischargeDepth := 40) (contextual := true) [h₀, later_ite, fst_ite, later_foldl]; done)

@[simp] theorem State.slotGone_now (s : State) (l t : Nat) : (State.slotGone s l t).now = s.now := by
  simp [State.slotGone]

@[simp] theorem State.missCommit_now (s : State) (r t : Nat) : (State.missCommit s r t).now = s.now := by
  unfold State.missCommit
  repeat' split
  all_goals simp

@[simp] theorem State.frameSlotBad_now (s : State) (r t : Nat) : (State.frameSlotBad s r t).now = s.now := by
  simp [State.frameSlotBad, now_ite, foldl_now]

@[simp] theorem State.commitSeen_now (s : State) (r t : Nat) (f : FrameSlot) :
    (State.commitSeen s r t f).now = s.now := by
  unfold State.commitSeen
  repeat' split
  all_goals simp

@[simp] theorem State.missSeen_now (s : State) (r t : Nat) : (State.missSeen s r t).now = s.now := by
  simp [State.missSeen, now_ite]

@[simp] theorem State.timeWrong_now (s : State) (r t : Nat) : (State.timeWrong s r t).now = s.now := by
  simp [State.timeWrong]

@[simp] theorem State.mismatch_now (s : State) (l r b : Nat) :
    (State.mismatch s l r b).now = s.now := by
  simp [State.mismatch, now_ite]

@[simp] theorem State.hashLook_now (s : State) (l : Nat) :
    (State.hashLook s l).now = s.now := by
  unfold State.hashLook
  repeat' split
  all_goals simp [now_ite, foldl_now]

@[simp] theorem State.hashDiffers_now (s : State) (l r t : Nat) :
    (State.hashDiffers s l r t).now = s.now := by
  unfold State.hashDiffers
  repeat' split
  all_goals simp [now_ite, foldl_now]

@[simp] theorem State.compareHashes_now (s : State) (r t : Nat) (hs : List Nat) :
    (State.compareHashes s r t hs).now = s.now := by
  simp [State.compareHashes, now_ite, foldl_now]

@[simp] theorem State.takeCount_now (s : State) (l n : Nat) : (State.takeCount s l n).now = s.now := by
  simp [State.takeCount]

@[simp] theorem State.takeValues_now (s : State) (r t : Nat) (f : FrameSlot) :
    (State.takeValues s r t f).now = s.now := by
  simp [State.takeValues, now_ite, foldl_now]

@[simp] theorem State.frameSlotGood_now (s : State) (r t : Nat) (f : FrameSlot) :
    (State.frameSlotGood s r t f).now = s.now := by
  simp [State.frameSlotGood, now_ite]

@[simp] theorem State.frameSlot_later {d₀ : Nat} (s : State) (r t : Nat) (bs : List Nat) (h₀ : d₀ ≤ s.now) :
    d₀ ≤ (State.frameSlot s r t bs).now := by
  simp (maxDischargeDepth := 40) (contextual := true) [State.frameSlot, h₀, later_ite, foldl_now]

@[simp] theorem State.mgmtSend_now (s : State) (i : Nat) (q : Packet) (acked : Bool) :
    (State.mgmtSend s i q acked).now = s.now := by
  rfl

@[simp] theorem State.mgmtAgain_now (s : State) (i : Nat) (q : Packet) (crcOk : Bool) :
    (State.mgmtAgain s i q crcOk).now = s.now := by
  rfl

@[simp] theorem State.mgmtPacket_now (s : State) (r t : Nat) (response crcOk : Bool) :
    (s.mgmtPacket r t response crcOk).now = s.now := by
  unfold State.mgmtPacket
  dsimp only
  repeat' split
  all_goals simp

@[simp] theorem State.mgmtTimeout_later {d₀ : Nat} (s : State) (t d : Nat) (h₀ : d₀ ≤ s.now) :
    d₀ ≤ (s.mgmtTimeout t d).now := by
  unfold State.mgmtTimeout
  dsimp only
  repeat' split
  all_goals simp [h₀]

@[simp] theorem State.mgmtCredit_now (s : State) (t d : Nat) : (State.mgmtCredit s t d).now = s.now := by
  simp [State.mgmtCredit, now_ite]

@[simp] theorem State.useResult_now (s : State) (t v e ch : Nat) : (State.useResult s t v e ch).now = s.now := by
  simp only [State.useResult]
  repeat' split
  all_goals simp

@[simp] theorem State.tablesNow_now (s : State) (t : Nat) : (State.tablesNow s t).now = s.now := by
  simp [State.tablesNow]

@[simp] theorem State.telemResult_later {d₀ : Nat} (s : State) (t v : Nat) (codes : List Nat) (h₀ : d₀ ≤ s.now) :
    d₀ ≤ (State.telemResult s t v codes).now := by
  unfold State.telemResult
  try dsimp only
  repeat' split
  all_goals first
    | exact h₀
    | (simp (maxDischargeDepth := 40) (contextual := true) [h₀, later_ite, fst_ite, later_foldl]; done)

@[simp] theorem State.telemTrigger_now (s : State) (t v : Nat) : (State.telemTrigger s t v).now = s.now := by
  simp [State.telemTrigger, now_ite]

@[simp] theorem State.telemTimer_later {d₀ : Nat} (s : State) (t : Nat) (h₀ : d₀ ≤ s.now) :
    d₀ ≤ (State.telemTimer s t).now := by
  simp (maxDischargeDepth := 40) [State.telemTimer, h₀, later_ite]

@[simp] theorem State.telemLimit_later {d₀ : Nat} (s : State) (t v : Nat) (h₀ : d₀ ≤ s.now) :
    d₀ ≤ (State.telemLimit s t v).now := by
  simp (maxDischargeDepth := 40) [State.telemLimit, h₀, later_ite]

@[simp] theorem State.telemStale_now (s : State) (l c : Nat) : (State.telemStale s l c).now = s.now := by
  simp [State.telemStale, now_ite]

@[simp] theorem State.checkOne_now (s : State) (t v i kind : Nat) (fails : Bool) :
    (State.checkOne s t v i kind fails).now = s.now := by
  simp [State.checkOne, now_ite]

@[simp] theorem State.checkSense_now (s : State) (t v k c loop : Nat) :
    (State.checkSense s t v k c loop).now = s.now := by
  unfold State.checkSense
  repeat' split
  all_goals simp

@[simp] theorem State.checkTake_now (s : State) (t v n code loop : Nat) :
    (State.checkTake s t v n code loop).now = s.now := by
  unfold State.checkTake
  try dsimp only
  repeat' split
  all_goals first
    | rfl
    | (simp [now_ite, fst_ite, foldl_now]; done)

@[simp] theorem State.checkConv_later {d₀ : Nat} (s : State) (t c0 c1 loop0 loop1 : Nat) (h₀ : d₀ ≤ s.now) :
    d₀ ≤ (State.checkConv s t c0 c1 loop0 loop1).now := by
  unfold State.checkConv
  try dsimp only
  repeat' split
  all_goals first
    | exact h₀
    | (simp (maxDischargeDepth := 40) (contextual := true) [h₀, later_ite, fst_ite, later_foldl]; done)

@[simp] theorem State.bandgap_now (s : State) (t diff : Nat) : (State.bandgap s t diff).now = s.now := by
  simp [State.bandgap, now_ite]

@[simp] theorem State.plausTimeout_later {d₀ : Nat} (s : State) (l : Nat) (h₀ : d₀ ≤ s.now) :
    d₀ ≤ (State.plausTimeout s l).now := by
  simp (maxDischargeDepth := 40) [State.plausTimeout, h₀, later_ite]

@[simp] theorem State.compOn_later {d₀ : Nat} (s : State) (t c : Nat) (h₀ : d₀ ≤ s.now) :
    d₀ ≤ (State.compOn s t c).now := by
  simp (maxDischargeDepth := 40) [State.compOn, h₀, later_ite]

@[simp] theorem State.compOff_now (s : State) (t c : Nat) : (State.compOff s t c).now = s.now := by
  simp [State.compOff, now_ite]

@[simp] theorem State.answerKept_now (s : State) :
    (State.answerKept s).now = s.now := by
  unfold State.answerKept
  repeat' split
  all_goals simp [now_ite, foldl_now]

@[simp] theorem State.stepCompletes_later {d₀ : Nat} (s : State) (t : Nat) (h₀ : d₀ ≤ s.now) :
    d₀ ≤ (State.stepCompletes s t).now := by
  unfold State.stepCompletes
  try dsimp only
  repeat' split
  all_goals simp [h₀]

@[simp] theorem State.compSettled_later {d₀ : Nat} (s : State) (t c : Nat) (beyond : Bool) (h₀ : d₀ ≤ s.now) :
    d₀ ≤ (State.compSettled s t c beyond).now := by
  simp (maxDischargeDepth := 40) [State.compSettled, h₀, later_ite]

@[simp] theorem State.calComplete_later {d₀ : Nat} (s : State) (rs : List CalResult) (h₀ : d₀ ≤ s.now) :
    d₀ ≤ (State.calComplete s rs).now := by
  simp (maxDischargeDepth := 40) [State.calComplete, h₀, later_ite]

@[simp] theorem State.pageCompletes_later {d₀ : Nat} (s : State) (t : Nat) (h₀ : d₀ ≤ s.now) :
    d₀ ≤ (State.pageCompletes s t).now := by
  unfold State.pageCompletes
  repeat' split
  all_goals simp [h₀]

@[simp] theorem State.tallyBegins_now (s : State) (t i : Nat) : (State.tallyBegins s t i).now = s.now := by
  simp [State.tallyBegins, now_ite]

@[simp] theorem State.tallyCompletes_later {d₀ : Nat} (s : State) (t : Nat) (h₀ : d₀ ≤ s.now) :
    d₀ ≤ (State.tallyCompletes s t).now := by
  unfold State.tallyCompletes
  try dsimp only
  repeat' split
  all_goals first
    | exact h₀
    | (simp (maxDischargeDepth := 40) (contextual := true) [h₀, later_ite, fst_ite, later_foldl]; done)

@[simp] theorem State.hourEnds_later {d₀ : Nat} (s : State) (t i : Nat) (h₀ : d₀ ≤ s.now) :
    d₀ ≤ (State.hourEnds s t i).now := by
  simp (maxDischargeDepth := 40) [State.hourEnds, h₀, later_ite]

@[simp] theorem State.scrub_now (s : State) : (State.scrub s).now = s.now := by
  simp [State.scrub, now_ite, foldl_now]

@[simp] theorem State.eventReport_now (s : State) (t src code sev inst : Nat) (data : List Nat) :
    (State.eventReport s t src code sev inst data).now = s.now := by
  unfold State.eventReport
  repeat' split
  all_goals simp

@[simp] theorem State.forwardHead_now (s : State) (r : Nat) (l : List Rec) : (s.forwardHead r l).now = s.now := by
  cases l with
  | nil => rfl
  | cons x xs => exact (State.forwarded_now ..).trans (State.ringAdvance_now ..)

@[simp] theorem State.forwardNext_now (s : State) (t : Nat) : (s.forwardNext t).now = s.now := by
  unfold State.forwardNext
  repeat' split
  all_goals first
    | rfl
    | simp

@[simp] theorem State.inhibitEnds_now (s : State) (c : CanChan) : (State.inhibitEnds s c).now = s.now := by
  unfold State.inhibitEnds
  repeat' split
  all_goals simp

@[simp] theorem State.queuedStart_now (s : State) (n : Nat) : (State.queuedStart s n).now = s.now := by
  simp [State.queuedStart, now_ite]

@[simp] theorem State.startEdge_now (s : State) : (State.startEdge s).now = s.now := by
  simp [State.startEdge, now_ite]

@[simp] theorem State.startLow_now (s : State) : (State.startLow s).now = s.now := by
  simp [State.startLow, now_ite]

@[simp] theorem State.vinFalls_now (s : State) (mv : Nat) : (State.vinFalls s mv).now = s.now := by
  simp [State.vinFalls, now_ite]

@[simp] theorem State.pfailRises_now (s : State) : (State.pfailRises s).now = s.now := by
  simp [State.pfailRises]

@[simp] theorem State.vinRises_now (s : State) (mv : Nat) : (State.vinRises s mv).now = s.now := by
  simp [State.vinRises, now_ite]

@[simp] theorem State.restartNow_later {d₀ : Nat} (s : State) (h₀ : d₀ ≤ s.now) : d₀ ≤ (State.restartNow s).now := by
  simp (maxDischargeDepth := 40) [State.restartNow, h₀, later_ite]

@[simp] theorem State.nmtStart_now (s : State) (c : CanChan) : (State.nmtStart s c).now = s.now := by
  simp [State.nmtStart, now_ite]

@[simp] theorem State.nmtSet_now (s : State) (c : CanChan) (m : Nmt) : (State.nmtSet s c m).now = s.now := by
  simp [State.nmtSet, now_ite]

@[simp] theorem State.nmtResetComm_now (s : State) (c : CanChan) : (State.nmtResetComm s c).now = s.now := by
  simp [State.nmtResetComm, now_ite]

@[simp] theorem State.captureEnds_now (s : State) (t : Nat) : (State.captureEnds s t).now = s.now := by
  simp [State.captureEnds, now_ite]

@[simp] theorem State.beat_now (s : State) (c : CanChan) : (State.beat s c).now = s.now := by
  simp [State.beat, now_ite]

@[simp] theorem State.canState_now (s : State) (c : CanChan) (st : Nat) : (State.canState s c st).now = s.now := by
  simp [State.canState, now_ite]

@[simp] theorem State.sdoEnds_later {d₀ : Nat} (s : State) (client : Nat) (h₀ : d₀ ≤ s.now) :
    d₀ ≤ (State.sdoEnds s client).now := by
  unfold State.sdoEnds
  try dsimp only
  repeat' split
  all_goals simp [h₀]

@[simp] theorem State.fetch_now (s : State) : (State.fetch s).now = s.now := by
  simp [State.fetch, now_ite]

@[simp] theorem State.spiTimeout_now (s : State) (bytes : Nat) : (State.spiTimeout s bytes).now = s.now := by
  simp [State.spiTimeout, now_ite]

@[simp] theorem State.pllTimeout_now (s : State) (t : Nat) : (State.pllTimeout s t).now = s.now := by
  simp [State.pllTimeout, now_ite]

@[simp] theorem State.spoilPool_now (s : State) (t : Nat) (rs : List Nat) (k : Nat) :
    (s.spoilPool t rs k).now = s.now := by
  induction rs generalizing s k with
  | nil => rfl
  | cons r rs ih => simp [State.spoilPool, now_ite, ih]

@[simp] theorem State.sramActs_now (s : State) (t : Nat) (a : SramArea) (addr : Nat) :
    (s.sramActs t a addr).now = s.now := by
  unfold State.sramActs
  split <;> simp

@[simp] theorem State.sramDetected_now (s : State) (t : Nat) (a : SramArea) (addr : Nat) :
    (State.sramDetected s t a addr).now = s.now := by
  simp [State.sramDetected, now_ite]

@[simp] theorem State.sramCorrected_now (s : State) (t : Nat) (a : SramArea) (addr : Nat) :
    (State.sramCorrected s t a addr).now = s.now := by
  simp [State.sramCorrected, now_ite]

@[simp] theorem State.proofEnds_now (s : State) (failed : Nat) : (State.proofEnds s failed).now = s.now := by
  simp [State.proofEnds, now_ite]

@[simp] theorem State.tapLoads_now (s : State) (i : TapInstr) :
    (State.tapLoads s i).now = s.now := by
  unfold State.tapLoads
  repeat' split
  all_goals simp [now_ite, foldl_now]

@[simp] theorem State.tapRuns_now (s : State) (i : TapInstr) : (State.tapRuns s i).now = s.now := by
  unfold State.tapRuns
  repeat' split
  all_goals simp

@[simp] theorem State.fuseWrite_later {d₀ : Nat} (s : State) (ch : Chan) (v verify : Nat) (h₀ : d₀ ≤ s.now) :
    d₀ ≤ (State.fuseWrite s ch v verify).now := by
  simp [State.fuseWrite, h₀]

@[simp] theorem State.fuseDisagrees_now (s : State) (fuses : Nat) : (State.fuseDisagrees s fuses).now = s.now := by
  simp [State.fuseDisagrees]

theorem State.idle_later (s : State) : s.now ≤ s.idle.now := by
  unfold State.idle
  split
  · exact Nat.le_succ _
  · exact Nat.le_refl _

end Sys2Proof.Machine
end

