-- ==== Sys2Proof/WellFormed.lean ====
section
/-! DEFINITION. Which commands are well formed: the operands name instances of the largest part and values of the widths
of their objects (R1, R5 to R8). A well-formed command on an instance that the part at hand lacks has no effect or is
refused by the dictionary; that is the machine's concern. -/

namespace Sys2Proof

/-- A tile number of the largest part (R5). -/
def tileWf (t : Nat) : Bool := decide (t < 8)
/-- A slot k of a tile (R6). -/
def slotWf (k : Nat) : Bool := decide (k < 4)
/-- A loop number (R6). -/
def loopWf (l : Nat) : Bool := decide (l < 32)
/-- A phase number (R6). -/
def phaseWf (p : Nat) : Bool := decide (p < 128)
/-- A rail number: external rails 0 to 127, loop rails 128 to 159 (R6). -/
def railWf (n : Nat) : Bool := decide (n < 160)
/-- A comparator number (R327). -/
def compWf (c : Nat) : Bool := decide (c < 56)
/-- A value of `n` bits. -/
def bitsWf (n v : Nat) : Bool := decide (v < 2 ^ n)
/-- A list of bytes. -/
def bytesWf (bs : List Nat) : Bool := bs.all (bitsWf 8)
/-- An index, a subindex, a length of at most 1,024 bytes and a value of that length. -/
def writeWf (idx sub len v : Nat) : Bool :=
  bitsWf 16 idx && bitsWf 8 sub && decide (1 ≤ len) && decide (len ≤ 1024) && bitsWf (8 * len) v
/-- The conversions of one loop sample are 12-bit codes (R119). -/
def Conv.wf (c : Conv) : Bool := loopWf c.l && bitsWf 12 c.c0 && bitsWf 12 c.c1 && bitsWf 12 c.c2 && bitsWf 12 c.c3
/-- A calibration result names a converter of a tile and has eight trims (R315, R338). -/
def CalResult.wf (r : CalResult) : Bool := tileWf r.t && decide (r.c < 6) && bitsWf 16 r.gain && decide (r.trims.length = 8)
/-- A reading of an open-wire set names an input of a tile and has 12-bit codes (R119, R318). -/
def OpenReading.wf (r : OpenReading) : Bool := tileWf r.t && decide (r.input < 16) && bitsWf 12 r.baseline && bitsWf 12 r.reading

/-- A trip input exists on a tile (R172). -/
def TripInput.wf : TripInput → Bool
  | .trip n => decide (n < 2)
  | .sflt k => slotWf k
  | .oc q => decide (q < 16)
  | .safeIn => true
/-- The bitmaps of a power-up have one bit per tile. -/
def PowerUpIn.wf (i : PowerUpIn) : Bool :=
  bitsWf 8 i.lvsel && decide (i.vlane.length ≤ 8) && i.vlane.all (bitsWf 16) && bitsWf 8 i.pllFailed && bitsWf 8 i.trainFailed && i.cal.all CalResult.wf &&
    i.compActive.all (bitsWf 9) && bitsWf 8 i.marginal && bitsWf 16 i.recoveryUs && bitsWf 16 i.trainUs &&
    bitsWf 16 i.upTime10us
/-- Commands of clocks, edges, lanes and links. -/
def Instr.wfA : Instr → Bool
  | .powerUp i => i.wf
  | .pllLockTimeout t | .refclkMissingEdge t | .pllUnlock t | .slowStopped t | .watchdogExpiry t | .processorRecovered t =>
    tileWf t
  | .refclkFrequencyCheck t count => tileWf t && bitsWf 32 count
  | .loopSample cs => cs.all Conv.wf
  | .edgeDecision p | .carrierZero p | .ocTruncation p => phaseWf p
  | .readbackSample p _ _ => phaseWf p
  | .loopCarrierBoundary l => loopWf l
  | .sfltAssert t k => tileWf t && slotWf k
  | .tripAssert t n _ => tileWf t && decide (n < 2)
  | .tripRelease t i => tileWf t && i.wf
  | .blankingWindowEnd t i _ => tileWf t && i.wf
  | .safeStateTripRelease l => loopWf l
  | .lprevEdge t | .laneBackoffEnd t | .laneCfgHeldWrite t | .laneLevelFault t _ => tileWf t
  | .poll t a _ => tileWf t && (match a with | some w => bitsWf 40 w | none => true)
  | .setTarget t k q v | .setSlew t k q v | .setPhaseBudget t k q v | .armPreview t k q v | .getStatus t k q v
  | .getVout t k q v | .getIout t k q v | .getTemp t k q v | .getPower t k q v | .setPowerState t k q v
  | .ackAlert t k q v => tileWf t && slotWf k && bitsWf 4 q && bitsWf 16 v
  | .sampleSlotReceived r s k w => tileWf r && tileWf s && slotWf k && bitsWf 32 w
  | .controlByteReceived r s b => tileWf r && tileWf s && bitsWf 8 b
  | .frameSlotReceived r s bs => tileWf r && tileWf s && decide (bs.length = 64) && bs.all (bitsWf 8)
  | .portLoss r s => tileWf r && tileWf s
  | .portLossDecision s _ => tileWf s
  | .mgmtPacketReceived r s _ _ => tileWf r && tileWf s
  | .mgmtResendTimeout s d | .mgmtCreditReturn s d => tileWf s && tileWf d
  | .stateReport t st dir => tileWf t && bitsWf 8 st && decide (dir < 4)
  | _ => true

/-- Commands of the dictionary. -/
def Instr.wfB : Instr → Bool
  | .commit _ tag => bitsWf 32 tag
  | .discard _ v | .holdClear _ v | .serviceEnter _ v | .seqFirstFailClear _ v | .recClear _ v | .faultAck _ v
  | .firstClear _ v | .storeRequest _ v | .srdoValid _ v | .proofTest _ v | .calibrationStart _ v
  | .errorHistoryClear _ v | .view _ v => bitsWf 8 v
  | .objectWrite ch idx sub len v part => writeWf idx sub len v && (ch != .spi || part == .whole)
  | .recorderRead ch part => ch != .spi || part == .whole
  | .target _ l v => loopWf l && bitsWf 16 v
  | .phaseManual _ p v => phaseWf p && bitsWf 16 v
  | .trimLearnStart _ l | .trimLearnAbort _ l | .safeStateClear _ l => loopWf l
  | .latchClear _ l v => loopWf l && bitsWf 8 v
  | .alertClear _ l m => loopWf l && bitsWf 16 m
  | .peakRead _ l sub => loopWf l && decide (1 ≤ sub) && decide (sub ≤ 5)
  | .position _ v => bitsWf 32 v
  | .configSave _ n | .configActive _ n | .configRestore _ n => bitsWf 8 n
  | .openSession _ slot => decide (slot < 4)
  | .sessionProof _ v | .sessionTag _ v => bitsWf 64 v
  | .keyWrite _ s v => decide (s < 4) && bitsWf 128 v
  | .rekey _ v => bitsWf 200 v
  | .rpdoReceived n _ bs => decide (n < 16) && decide (bs.length ≤ 64) && bytesWf bs
  | .tpdoTransmit n | .tpdoAcknowledged n => decide (n < 16)
  | .timeMessage _ _ v => bitsWf 48 v
  | .syncMessage _ _ c => bitsWf 8 c
  | .canErrorStateChange _ st => decide (st < 3)
  | .sdoTimeout c => decide (c < 5)
  | .spiRead idx sub len _ => bitsWf 16 idx && bitsWf 8 sub && bitsWf 16 len
  | .spiWrite idx sub len v _ => bitsWf 16 idx && bitsWf 8 sub && bitsWf 16 len && bitsWf (8 * len) v
  | .ringRead r len _ => decide (r < 64) && bitsWf 16 len
  | .histogramClear _ t u v => tileWf t && decide (u < 16) && bitsWf 8 v
  | .armCapture _ t | .disarmCapture _ t => tileWf t
  | _ => true

/-- Commands of sensing, rails, events, Cellar, safety and security. -/
def Instr.wfC : Instr → Bool
  | .shedDwellExpiry l | .trimLearnIteration l | .burstEntry l | .burstSleep l | .burstWake l | .softStartHoldTimeout l
  | .canopyTrigger l | .canopyMaxTime l | .previewApply l | .previewEnd l | .hiccupOffTimeEnd l | .hiccupCountClear l
  | .otAutoRestart l | .plausibilityTimeout l | .lsDischargeTimeout l | .uvReport l | .uvReportEnd l => loopWf l
  | .burstExit l _ => loopWf l
  | .shareEvent p | .hiccupTrigger p => phaseWf p
  | .telemetryTrigger t v | .telemetryWaitLimit t v => tileWf t && decide (v < 2)
  | .telemetryTimer t | .captureComplete t | .trellisTimeout t _ | .recordWrite t | .recordForward t | .cellOperationStart t
  | .pageWriteComplete t | .tallyBitProgrammed t => tileWf t
  | .telemetryResult t v codes => tileWf t && decide (v < 2) && decide (codes.length ≤ 256) && codes.all (bitsWf 12)
  | .telemetryStale l ch => loopWf l && bitsWf 9 ch
  | .checkConversion t c0 c1 a b => tileWf t && bitsWf 12 c0 && bitsWf 12 c1 && bitsWf 12 a && bitsWf 12 b
  | .calibrationComplete rs => rs.all CalResult.wf
  | .comparatorActivation t c | .comparatorRelease t c => tileWf t && compWf c
  | .comparatorSettled t c _ => tileWf t && compWf c
  | .railTurnOn n | .railDeclaredGood n | .railDrop n | .railBadTime n | .railDeadline n | .railTurnOff n
  | .railDischarged n | .dischargeTimeout n | .retriesUsedClear n => railWf n
  | .parentGoodNotice t n => tileWf t && railWf n
  | .pgChange n _ _ => decide (n < 128)
  | .queuedReactionStart n => railWf n
  | .eventReport t src code sev inst data => tileWf t && decide (src < 132) && bitsWf 16 code && decide (sev < 8) && bitsWf 16 inst && decide (data.length ≤ 6) && bytesWf data
  | .tallyIncrement t i | .hourTally t i => tileWf t && decide (i < 8)
  | .storeComplete v => bitsWf 16 v
  | .vinFail mv | .vinGoodAgain mv => bitsWf 16 mv
  | .bandgapDrift t d => tileWf t && bitsWf 16 d
  | .sramErrorDetected t _ a | .sramErrorCorrected t _ a => tileWf t && bitsWf 24 a
  | .srdoReceived k _ n i ms => decide (k < 8) && bitsWf 64 n && bitsWf 64 i && bitsWf 16 ms
  | .srdoLoss i | .srdoTransmit i => decide (i < 8)
  | .blowProvision _ copies | .blowField _ copies => bitsWf 3 copies
  | .proofTestComplete f => bitsWf 64 f
  | .securityAlarm src fuses => decide (src < 6) && decide (fuses < 4)
  | .tapInstruction (.samplePreload h l) => bitsWf 128 h && bitsWf 128 l
  | .openWireSetEnd rs cs => rs.all OpenReading.wf && cs.all (bitsWf 9)
  | _ => true

/-- A command is well formed. -/
def Instr.wf (i : Instr) : Bool := i.wfA && i.wfB && i.wfC

end Sys2Proof
end

