-- ==== Sys2Proof/Tests/Slice0.lean ====
section
/-! SUPPORT. Tests: well-formedness and its refusals, values that the manual itself gives, and for every statement with
hypotheses a state and operands that meet them. -/

open Sys2Proof Sys2Proof.Machine

namespace Sys2Proof.Tests

set_option Elab.async false

/-! ### Well-formedness (R1, R5 to R8) -/

/-- A command with ordinary operands of every kind is well formed. -/
theorem test_wf_accepts :
    [Instr.target (.canA 0) 31 65535, .railTurnOn 159, .edgeDecision 127, .setTarget 7 3 15 65535, .tripAssert 7 1 false,
      .objectWrite .spi 0x3007 1 2 65535 .whole, .objectWrite (.canA 3) 0x3007 1 2 65535 (.segment true false),
      .sessionTag .canB (2 ^ 64 - 1), .syncMessage .a .fd 255, .securityAlarm 5 3, .srdoLoss 7, .blowField .canB 7,
      .tapInstruction (.samplePreload (2 ^ 128 - 1) 0), .eventReport 7 131 0x0506 2 122 [1, 2, 3, 4, 5, 6],
      .comparatorActivation 7 55, .ringRead 63 512 true, .telemetryResult 0 1 [4095], .histogramClear (.canA 0) 7 15 1].all
        Instr.wf = true := by decide +kernel

/-- Each check refuses an operand one beyond its range. -/
theorem test_wf_refuses :
    [Instr.target (.canA 0) 32 0, .target (.canA 0) 0 65536, .railTurnOn 160, .edgeDecision 128, .setTarget 8 0 0 0, .setTarget 0 4 0 0,
      .setTarget 0 0 16 0, .setTarget 0 0 0 65536, .tripAssert 0 2 false, .objectWrite .spi 0x10000 1 2 0 .whole,
      .objectWrite .spi 0x3007 256 2 0 .whole, .objectWrite .spi 0x3007 1 0 0 .whole, .objectWrite .spi 0x3007 1 1025 0 .whole,
      .objectWrite .spi 0x3007 1 2 65536 .whole, .objectWrite .spi 0x3007 1 2 0 .initiate, .recorderRead .spi .unknown,
      .srdoLoss 8, .srdoTransmit 8, .blowProvision (.canA 0) 8, .blowField (.canA 0) 8, .securityAlarm 0 4,
      .tapInstruction (.samplePreload (2 ^ 128) 0), .sessionTag .canB (2 ^ 64), .syncMessage .a .fd 256, .securityAlarm 6 0,
      .securityAlarm 3 4,
      .comparatorActivation 0 56, .ringRead 64 32 true, .telemetryResult 0 2 [0], .telemetryResult 0 0 [4096],
      .histogramClear (.canA 0) 0 16 1, .poll 0 (some (2 ^ 40)) false, .keyWrite (.canA 0) 4 0, .keyWrite (.canA 0) 0 (2 ^ 128),
      .rekey (.canA 0) (2 ^ 200), .eventReport 0 132 0 0 0 [], .eventReport 0 0 0 8 0 [], .eventReport 0 0 0 0 0 [256],
      .eventReport 0 0 0 0 0 [0, 0, 0, 0, 0, 0, 0],
      .rpdoReceived 16 .fd [], .tpdoTransmit 16, .sdoTimeout 5, .canErrorStateChange .a 3, .telemetryStale 0 512, .pgChange 128 true 0,
      .openSession (.canA 0) 4, .peakRead (.canA 0) 0 6, .peakRead (.canA 0) 0 0, .tallyIncrement 0 8, .stateReport 0 256 0,
      .stateReport 0 0 4, .sampleSlotReceived 0 1 0 (2 ^ 32), .controlByteReceived 0 1 256, .commit (.canA 0) (2 ^ 32),
      .discard (.canA 0) 256, .bandgapDrift 0 65536, .sramErrorDetected 0 .capture (2 ^ 24), .srdoReceived 0 .classical 0 0 65536, .srdoReceived 8 .classical 0 0 0,
      .proofTestComplete (2 ^ 64), .checkConversion 0 4096 0 0 0, .refclkFrequencyCheck 0 (2 ^ 32), .tripRelease 0 (.sflt 4),
      .blankingWindowEnd 0 (.oc 16) true, .loopSample [⟨0, 4096, 0, 0, 0⟩], .calibrationComplete [⟨0, 6, 0, 0, [0, 0, 0, 0, 0, 0, 0, 0], 0⟩],
      .timeMessage .a .fd (2 ^ 48), .storeComplete 65536, .configSave (.canA 0) 256, .position (.canA 0) (2 ^ 32), .alertClear (.canA 0) 0 65536,
      .latchClear (.canA 0) 0 256, .openWireSetEnd [⟨0, 16, 0, 0⟩] [], .shareEvent 128, .burstExit 32 .preview].any Instr.wf =
        false := by decide +kernel

/-- A word of the table stands for no command: the table gives none of its rows bits. -/
theorem test_no_words : decodeTableWord 32 0 = none ∧ State.reset.withFetchWord 32 0 = State.reset := by decide +kernel

/-! ### Values that the manual gives -/

/-- The lane example after R276: slot 1, SET_TARGET 3,200 with SEQ 5 is 0xD410C805A4, and its acknowledgement is
0xB10C801E. -/
theorem test_lane_frames : requestFrame 1 1 3200 5 = 0xD410C805A4 ∧ responseFrame 0 1 3200 = 0xB10C801E := by decide +kernel

/-- The SPI example of R511: the answer to the read of 0x0B40. -/
theorem test_spi_frame : (SpiResult.done [0x40, 0x0B]).frame = [0x01, 0x00, 0x02, 0x40, 0x0B, 0xDE] := by decide +kernel

/-- The example of RFC 3394, section 4.1: 128 bits of key data under a 128-bit key (R468). -/
theorem test_unwrap :
    aesUnwrap (List.range 16) [0x1F, 0xA6, 0x8B, 0x0A, 0x81, 0x12, 0xB4, 0x47, 0xAE, 0xF3, 0x4B, 0xD8, 0xFB, 0x5A, 0x7B, 0x82, 0x9D,
      0x3E, 0x86, 0x23, 0x71, 0xD2, 0xCF, 0xE5] = some ((List.range 16).map (fun i => 17 * i)) := by decide +kernel

/-- R386: the CRC of the nine ASCII digits. -/
theorem test_crc32c : crc32c [0x31, 0x32, 0x33, 0x34, 0x35, 0x36, 0x37, 0x38, 0x39] = 0xE3069283 := by decide +kernel

/-- The record of the example of R386, byte by byte. -/
theorem test_record_bytes :
    ({ time := 0x12346096, seq := 0x01F3, tile := 2, sev := 1, code := 0x0401, inst := 5
       data := [48, 0, 1, 24] } : Rec).bytes =
      [0x96, 0x60, 0x34, 0x12, 0, 0, 0, 0, 0xF3, 0x01, 0x0A, 0x04, 0x01, 0x04, 0x05, 0x00, 0, 0, 0, 0, 0, 0, 0x30, 0x00, 0x01,
        0x18, 0, 0, 0xE7, 0x52, 0x28, 0xBF] := by decide +kernel

/-- The VINSEN0 example after R323: eight codes give 12,290 quarter LSB and 1,200.2 mV. -/
theorem test_result : ([3071, 3073, 3072, 3074, 3070, 3072, 3073, 3074] : List Nat).sum = 24579 ∧
    entryResultOf 3 2 24579 = 12290 ∧ voltsOf 2 12290 = 12002 := by decide +kernel

/-- R157, R139: HALF of 1,200 kHz is 208; 10 mV/µs is a step of 419,430.4, rounded. -/
theorem test_half_and_step : halfOf 1200 = 208 ∧ slewStep 1000 = 41943 := by decide +kernel

/-! ### States for the witnesses -/

/-- A part whose commands are served on all three channels, at frame 2. -/
def base (p : Part) (m : Mode) : State :=
  { part := p, md := { mode := m }, pins := { safeIn := true, vin := 12000 }
    net := { nmtA := .operational, nmtB := .operational, enA := true, enB := true }
    link := { trained := 2 ^ p.tiles - 1 }, clk := { running := true, time := 4096 } }

/-- Active values at index, subindex. -/
def sets (s : State) (vs : List (Nat × Nat × Nat)) : State := vs.foldl (fun s e => s.put e.1 e.2.1 e.2.2) s

/-- One tile. -/
def one (m : Mode) : State := base .ph1016 m
/-- Two tiles. -/
def two (m : Mode) : State := base .ph2032 m

/-- One tile in RUN with loop 0 enabled on phases 0 and 1 in a STATE, and more of the loop. -/
def looped (st : Nat) (f : Loop → Loop) : State :=
  (sets (one .run) [(0x3000, 1, 1), (0x3000, 2, 3)]).updLoop 0 (fun lp => f { lp with state := st })

/-- Phase 0 of a state as `f` says. -/
def phased (s : State) (f : Phase → Phase) : State := s.updPhase 0 f

/-- A row of an object. -/
def rowAt (f : Fam) (sub : Nat) : Row := (f.row sub).getD (ro 0 0 0)

/-- What the protection check of a write answers. -/
def gateOf (s : State) (ch : Chan) (idx sub len v : Nat) (r : Row) : State × Option Nat :=
  (s.takeTag ch).1.passWrite r.prot ch idx sub len v (s.takeTag ch).2

/-- The state in which an admitted write takes its effect. -/
def after (s : State) (ch : Chan) (idx sub len v : Nat) (f : Fam) : State := (gateOf s ch idx sub len v (rowAt f sub)).1

/-- `State.Admits`, as a Bool. -/
def admitsB (s : State) (ch : Chan) (idx sub len v : Nat) (f : Fam) (i : Nat) : Bool :=
  let g := gateOf s ch idx sub len v (rowAt f sub)
  let r := rowAt f sub
  let s1 := g.1
  s.served ch && !s.spiBusy ch && !s.clientBusy ch && !s.mustWait (.write ch idx sub len v 0) && decide (resolve s.T idx = some (f, i)) &&
    (f.row sub).isSome && (!(f == .cellarTally) || decide (sub ≤ 8 * s.T)) && !(r.acc == .ro) && !(r.acc == .const) &&
    !pathRefused f sub && g.2.isNone && !s1.lowersPolicy f sub v && decide (len = r.bytes) && s1.rangeOk f i idx sub v r &&
    (!(r.cls == .x) || s1.stoppedOk f i sub v) && !s1.refused7 f i idx sub v r

/-- `admitsB` says `State.Admits`. -/
theorem admits_of {s : State} {ch : Chan} {idx sub len v : Nat} {f : Fam} {i : Nat}
    (h : admitsB s ch idx sub len v f i = true) :
    s.Admits (after s ch idx sub len v f) ch idx sub len v f i (rowAt f sub) := by
  simp only [admitsB, Bool.and_eq_true, Bool.or_eq_true, Bool.not_eq_true', beq_eq_false_iff_ne, ne_eq,
    decide_eq_true_eq, Option.isNone_iff_eq_none] at h
  obtain ⟨⟨⟨⟨⟨⟨⟨⟨⟨⟨⟨⟨⟨⟨⟨h1, h2⟩, h0⟩, h3⟩, h4⟩, h5⟩, h6⟩, h7⟩, h8⟩, h9⟩, h10⟩, h11⟩, h12⟩, h13⟩, h14⟩, h15⟩ := h
  have hr : f.row sub = some (rowAt f sub) := by
    unfold rowAt
    cases hf : f.row sub <;> simp_all
  exact ⟨h1, h2, h0, h3, h4, hr, fun e => (h6.resolve_left (fun n => n e)), h7, h8, h9, Prod.ext rfl h10, h11, h12, h13,
    fun e => (h14.resolve_left (fun n => n e)), h15⟩

/-- `State.Reads`, as a Bool. -/
def readsB (s : State) (ch : Chan) (idx sub len : Nat) (f : Fam) (i : Nat) : Bool :=
  let r := rowAt f sub
  let g := s.passRead r.prot ch idx sub
  s.served ch && !s.spiBusy ch && !s.clientBusy ch && !s.mustWait (.read ch idx sub len) && decide (resolve s.T idx = some (f, i)) &&
    (f.row sub).isSome && (!(f == .cellarTally) || decide (sub ≤ 8 * s.T)) && !(r.acc == .wo) && g.2.isNone &&
    g.1.readLenOk ch f i idx sub (if ch = .spi then len else 0) && !g.1.readRefused f i sub &&
    (s.transferOf ch).all (fun x => !x.waiting)

/-- `readsB` says `State.Reads`. -/
theorem reads_of {s : State} {ch : Chan} {idx sub len : Nat} {f : Fam} {i : Nat}
    (h : readsB s ch idx sub len f i = true) :
    s.Reads (s.passRead (rowAt f sub).prot ch idx sub).1 ch idx sub len f i (rowAt f sub) := by
  simp only [readsB, Bool.and_eq_true, Bool.or_eq_true, Bool.not_eq_true', beq_eq_false_iff_ne, ne_eq,
    decide_eq_true_eq, Option.isNone_iff_eq_none] at h
  obtain ⟨⟨⟨⟨⟨⟨⟨⟨⟨⟨⟨h1, h2⟩, h0⟩, h3⟩, h4⟩, h5⟩, h6⟩, h7⟩, h8⟩, h10⟩, h9⟩, h11⟩ := h
  have hr : f.row sub = some (rowAt f sub) := by
    unfold rowAt
    cases hf : f.row sub <;> simp_all
  refine ⟨h1, h2, h0, h3, h4, hr, fun e => (h6.resolve_left (fun n => n e)), h7, Prod.ext rfl h8, h10, h9, fun x e => ?_⟩
  simpa [e] using h11

/-- `State.LaneReady`, as a Bool. -/
def laneB (s : State) (t k seq l op v : Nat) : Bool :=
  s.hasTile t && s.laneOn t && !(s.lane t).backoff && decide (k < 4) && decide (v < 65536) && decide (seq < 16) &&
    (!(s.lane t).seqValid || decide ((s.lane t).lastSeq ≠ seq)) && decide (1 ≤ op ∧ op ≤ 0xB) &&
    decide (s.anchoredAt t k = some l) && (!ownerOp op || s.lo l 0 8 == 1) && s.laneRange l op v

/-- `laneB` says `State.LaneReady`. -/
theorem lane_of {s : State} {t k seq l op v : Nat} (h : laneB s t k seq l op v = true) : s.LaneReady t k seq l op v := by
  simp only [laneB, Bool.and_eq_true, Bool.or_eq_true, Bool.not_eq_true', decide_eq_true_eq, beq_iff_eq] at h
  obtain ⟨⟨⟨⟨⟨⟨⟨⟨⟨⟨h1, h2⟩, h3⟩, h4⟩, h5⟩, h6⟩, h7⟩, h8⟩, h9⟩, h10⟩, h11⟩ := h
  exact ⟨h1, h2, h3, h4, h5, h6, h7, h8, h9, fun e => h10.resolve_left (fun n => by simp_all), h11⟩

/-- `State.RailLive`, as a Bool. -/
def liveB (s : State) (n : Nat) : Bool :=
  s.hasRail n && s.sequenced n && s.seqActive && decide ((s.tile (s.railTile n)).state = 0)

/-- `liveB` says `State.RailLive`. -/
theorem live_of {s : State} {n : Nat} (h : liveB s n = true) : s.RailLive n := by
  simp only [liveB, Bool.and_eq_true, decide_eq_true_eq] at h
  exact ⟨h.1.1.1, h.1.1.2, h.1.2, h.2⟩

/-! ### Witnesses: for every statement with hypotheses, states and operands that meet those of each clause. Equations that only
name a state are met by the state that they name. -/

/-- A part with both fuses blown. -/
def fused : State := { one .configure with sec := { provisionCopies := 7, fieldCopies := 7 } }

/-- FuseOrderInvariant: a part with both fuses blown. -/
theorem witness_FuseOrderInvariant :
    fused.sec.field = true ∧ fused.sec.provision = true ∧ fused.pending = [] ∧
    ([Instr.frameBoundary, .securityAlarm 3 3].all (fun c => match c with | .securityAlarm 3 f => !f.testBit 0 || f.testBit 1 | _ => true)) = true := by decide +kernel

/-- TimeNeverGoesBack: a step that moves time. -/
theorem witness_TimeNeverGoesBack :
    (one .run).now ≤ ((one .run).frameWork.netFrame).now := by decide +kernel

/-- A power-up in which every tile locks and trains. -/
def up : PowerUpIn :=
  { por := true, lvsel := 0, test := false, vlane := List.replicate 8 1000, pllFailed := 0, trainFailed := 0, cal := []
    compActive := [], marginal := 0, recoveryUs := 0, trainUs := 0, upTime10us := 0 }

/-- ResetsAndPowerUp: the bounds of the two supply clauses, and a power-up from reset. -/
theorem witness_ResetsAndPowerUp :
    5000 ≤ 5000 ∧ 999 < 1000 ∧
    (two .configure).nmtHeard .a = true ∧
    (two .configure).md.mode ≠ .run ∧
    (two .run).nmtHeard .b = true ∧
    (two .reset).hasTile 1 = true ∧
    State.reset.md.lastCause = 0 ∧ State.reset.md.factoryTest = false ∧
    State.reset.lives up 0 = true ∧
    bit up.trainFailed 0 = false ∧
    up.compActive = [] ∧
    (State.reset.powerUpLoad up).ob 0x2000 4 = 0 ∧
    (CanChan.b = .b → CanFormat.classical ≠ .fd) ∧ (CanChan.a = .b → CanFormat.fd ≠ .fd) := by decide +kernel

/-- Ready for STANDBY. -/
def ready : State := { one .configure with cal := { valid := true } }
/-- A HOLD that is torn down and without a cause. -/
def held : State := { one .hold with md := { mode := .hold, tornDown := true } }

/-- ModeRequestsComplete: each request from the mode that takes it. -/
theorem witness_ModeRequestsComplete :
    admitsB (one .standby) (.canA 0) 0x2001 1 1 1 .devModeReq 0 = true ∧
    admitsB (ready) .canB 0x2001 1 1 2 .devModeReq 0 = true ∧
    ready.entryFail = none ∧
    admitsB (one .run) .spi 0x2001 1 1 2 .devModeReq 0 = true ∧
    admitsB (one .standby) (.canA 0) 0x2001 1 1 3 .devModeReq 0 = true ∧
    admitsB held (.canA 0) 0x2001 2 1 0x5A .devModeReq 0 = true ∧
    held.md.tornDown = true ∧ held.anyCause = false ∧
    admitsB (one .configure) (.canA 0) 0x2001 3 1 0xC3 .devModeReq 0 = true ∧
    (one .configure).sec.field = false := by decide +kernel

/-- A loop that may learn its trims. -/
def learner : State := sets (looped 2 fun lp => { lp with sn := { lp.sn with iNow := some 100000 }, pp := { lp.pp with active := 2 } }) [(0x3010, 3, 2000)]

/-- LoopRequestsComplete: a running loop; the least target and the greatest duty. -/
theorem witness_LoopRequestsComplete :
    admitsB (looped 2 id) (.canA 0) 0x3001 1 2 ((looped 2 id).lo 0 7 3) .loopTarget 0 = true ∧
    (looped 2 id).hasLoop 0 = true ∧
    admitsB (one .service) (.canA 0) 0x343F 1 2 ((one .service).po 7 0 5) .phaseManual 7 = true ∧
    (one .service).manual 7 = true ∧ (one .service).hasPhase 7 = true ∧
    (one .service).loopOf 7 = none ∧
    admitsB learner (.canA 0) 0x3010 1 1 1 .loopTrimLearn 0 = true ∧
    learner.mayLearn 0 = true ∧
    admitsB (looped 2 fun lp => { lp with pp := { lp.pp with learn := 1 } }) (.canA 0) 0x3010 1 1 2 .loopTrimLearn 0 = true ∧
    (looped 2 fun lp => { lp with pp := { lp.pp with learn := 1 } }).learning 0 = true ∧
    admitsB (looped 6 id) (.canA 0) 0x300E 6 1 0x5A .loopOc 0 = true ∧
    admitsB (looped 2 id) .canB 0x5010 9 2 0xFFFF .laneStatus 0 = true := by decide +kernel

/-- EventRequestsComplete: each clear, acknowledgement, view and position. -/
theorem witness_EventRequestsComplete :
    admitsB (one .run) (.canA 0) 0x4481 1 1 0x7F .recCursor 0 = true ∧
    admitsB (one .run) (.canA 0) 0x4481 2 4 0xFFFFFFFF .recCursor 0 = true ∧
    admitsB (one .run) (.canA 0) 0x4484 1 1 0xA5 .recClear 0 = true ∧
    admitsB (one .run) (.canA 0) 0x4501 4 1 0xA5 .faultActive 0 = true ∧
    admitsB (one .run) (.canA 0) 0x4501 6 1 0xA5 .faultActive 0 = true ∧
    admitsB (one .run) (.canA 0) 0x4302 7 1 0xA5 .seqFirstFail 0 = true ∧
    admitsB (one .run) (.canA 0) 0x1003 0 1 0 .errorHistory 0 = true := by decide +kernel

/-- CellarRequestsComplete: each command of the Cellar. -/
theorem witness_CellarRequestsComplete :
    admitsB (one .run) (.canA 0) 0x4801 1 1 0xA5 .cellarStore 0 = true ∧
    (one .run).cel.storeState = 0 ∧
    admitsB ({ one .run with cel := { storeState := 1 } } : State) (.canA 0) 0x4801 1 1 0xA5 .cellarStore 0 = true ∧
    admitsB (one .configure) (.canA 0) 0x4810 2 1 3 .configSet 0 = true ∧
    (∀ t ∈ (one .configure).tileList, ((one .configure).tile t).state = 0) ∧
    admitsB ({ one .configure with cel := { cellars := [(0, { imgA := [(3, { pages := List.replicate 103 (.data 1 []) ++ [.header 1 []] })] })] } } : State) (.canA 0) 0x4810 1 1 3 .configSet 0 = true ∧
    admitsB (one .configure) (.canA 0) 0x4810 3 1 0 .configSet 0 = true ∧
    admitsB (one .configure) (.canA 0) 0x2020 1 1 1 .calCmd 0 = true ∧
    admitsB (one .standby) (.canA 0) 0x2020 1 1 1 .calCmd 0 = true ∧
    (one .configure).cel.saveState ≠ 1 ∧ (one .configure).cel.saveState ≠ 2 ∧ (one .configure).md.starting = none ∧ (one .configure).cal.state ≠ 1 := by decide +kernel

/-- A severity-3 safe state whose cause has gone. -/
def safeLoop : State := looped 7 fun lp => { lp with pr := { lp.pr with safeSev := 3, cause := 0x0506 } }
/-- Keys in the slots 0 and 2. -/
def keyed : State := ({ one .configure with sec := { keys := [(0, some 1), (2, some 5)] } } : State).keepKeys
/-- A nonce drawn on CAN A for slot 2. -/
def nonced : State := { keyed with sec := { keyed.sec with nonce := some (7, (.canA 0), 2), nonceAt := 4096 } }

/-- SecurityRequestsComplete: each command of safety and security. -/
theorem witness_SecurityRequestsComplete :
    admitsB (safeLoop) (.canA 0) 0x2602 0x21 1 0 .safeStateCause 0 = true ∧
    safeLoop.loopSafe 0 = true ∧
    (safeLoop.loop 0).pr.safeSev = 3 ∧
    safeLoop.causePresent 0 0x0506 = false ∧
    safeLoop.tripInputActive 0 = false ∧
    admitsB (one .configure) (.canA 0) 0x13FE 0 1 0 .srdoValid 0 = true ∧
    admitsB (one .standby) (.canA 0) 0x2610 1 1 0xA5 .diagTable 0 = true ∧
    admitsB keyed (.canA 0) 0x2400 1 1 2 .secSession 0 = true ∧
    (keyed.sec.keys.get none 2).isSome = true ∧
    admitsB keyed (.canA 0) 0x2400 1 1 0xFF .secSession 0 = true ∧
    admitsB nonced (.canA 0) 0x2400 3 8 (proofOf (sessionKey 5 2 7) 7) .secSession 0 = true ∧
    (nonced.sec.keys.get none 2).getD 0 = 5 ∧ keyed.keyAreaBad = false ∧ keyed.sec.openNow = none ∧
    nonced.now < nonced.sec.nonceAt + 5000000000 ∧
    admitsB keyed (.canA 0) 0x2400 4 8 0 .secSession 0 = true ∧
    bit safeLoop.srdo.request 0 = false ∧ (safeLoop.loop 0).pr.resetOnly = false ∧ safeLoop.md.mode ≠ .hold ∧
    (one .standby).obj.flight = none ∧ (one .standby).md.starting = none ∧ (one .standby).md.proofRunning = false ∧ keyed.sec.locked = false ∧ keyed.sec.session = none := by decide +kernel

/-- A session of slot 0 with session key 9 on CAN A, and the tag of one write. -/
def holder (provision : Bool) (x : Nat × Nat × Nat × Nat) : State :=
  { one .configure with sec := { keys := [(0, some 1)], provisionCopies := if provision then 7 else 0, session := some ((.canA 0), 0, 9), tags := [(0, some (tagOf 9 0 x.1 x.2.1 x.2.2.1 x.2.2.2))] } }

/-- The wrapped key of the example of RFC 3394, section 4.1, under the key 00 01 … 0F, as a write of REKEY for a slot. -/
def wrapped (slot : Nat) : Nat :=
  slot + 256 * ofBytesLE [0x1F, 0xA6, 0x8B, 0x0A, 0x81, 0x12, 0xB4, 0x47, 0xAE, 0xF3, 0x4B, 0xD8, 0xFB, 0x5A, 0x7B, 0x82, 0x9D, 0x3E,
    0x86, 0x23, 0x71, 0xD2, 0xCF, 0xE5]
/-- The holder of slot 0 whose session key is 00 01 … 0F, with the tag of that write. -/
def rekeyer (slot : Nat) : State :=
  let ks := ofBytesLE (List.range 16)
  { one .configure with
    sec := { keys := [(0, some 1)], session := some ((.canA 0), 0, ks), tags := [(0, some (tagOf ks 0 0x2401 5 25 (wrapped slot)))] } }

/-- KeyAndFuseRequestsComplete: the holder of slot 0, with its tag, before and after PROVISION. -/
theorem witness_KeyAndFuseRequestsComplete :
    admitsB (one .configure) (.canA 0) 0x2401 4 16 (2 ^ 128 - 1) .secKeyslot 0 = true ∧
    (rowAt .secKeyslot 4).cls = .x ∧
    admitsB (rekeyer 2) (.canA 0) 0x2401 5 25 (wrapped 2) .secKeyslot 0 = true ∧
    (after (rekeyer 2) (.canA 0) 0x2401 5 25 (wrapped 2) .secKeyslot).sec.session = some ((.canA 0), 0, ofBytesLE (List.range 16)) ∧
    (aesUnwrap (bytesLE 16 (ofBytesLE (List.range 16))) (bytesLE 24 (wrapped 2 / 256))).isSome = true ∧
    admitsB (holder false (0x2410, 3, 1, 0x50)) (.canA 0) 0x2410 3 1 0x50 .fuseStatus 0 = true ∧
    (after (holder false (0x2410, 3, 1, 0x50)) (.canA 0) 0x2410 3 1 0x50 .fuseStatus).sec.session = some ((.canA 0), 0, 9) ∧
    admitsB (holder true (0x2410, 3, 1, 0xF1)) (.canA 0) 0x2410 3 1 0xF1 .fuseStatus 0 = true ∧
    admitsB (holder false (0x2410, 3, 1, 0xF1)) (.canA 0) 0x2410 3 1 0xF1 .fuseStatus 0 = true ∧
    (holder true (0, 0, 0, 0)).sec.provision = true ∧ (holder false (0, 0, 0, 0)).sec.provision = false ∧
    ((holder true (0, 0, 0, 0)).sec.fieldCopies ||| 7 % 8) = 7 ∧ ((holder true (0, 0, 0, 0)).sec.fieldCopies ||| 0 % 8) = 0 ∧
    [1, 2, 3, 4, 5, 6].all (fun n => disagree ((holder false (0, 0, 0, 0)).sec.provisionCopies ||| n % 8)) = true := by decide +kernel

/-- An armed capture. -/
def armed : State := { sets (looped 2 id) [(0x4D00, 3, 1)] with caps := [(0, { state := 1 })] }
/-- One pending shadow value. -/
def shadowed : State := { one .run with obj := { pend := [(okey 0x3002 1, some 10)] } }

/-- CommitAndMonitorRequestsComplete: each command, and a write of every class. -/
theorem witness_CommitAndMonitorRequestsComplete :
    admitsB (one .run) (.canA 0) 0x4C0F 0x0A 1 0xA5 .histogram 15 = true ∧
    admitsB (looped 2 id) (.canA 0) 0x4D00 1 1 1 .capture 0 = true ∧
    ((looped 2 id).anchoredAt 0 ((looped 2 id).ob 0x4D00 2)).isSome = true ∧
    admitsB armed (.canA 0) 0x4D00 1 1 0 .capture 0 = true ∧
    (armed.caps.get {} 0).state = 1 ∧
    armed.ob 0x4D00 3 ≠ 0 ∧
    admitsB shadowed (.canA 0) 0x2010 1 4 0xFFFFFFFF .commit 0 = true ∧
    shadowed.withShadow.commitFail = none ∧
    shadowed.trimPending = false ∧
    admitsB shadowed (.canA 0) 0x2011 4 1 0xA5 .shadowStatus 0 = true ∧
    admitsB (one .run) (.canA 0) 0x300E 1 1 255 .loopOc 0 = true ∧
    (rowAt .loopOc 1).cls = .c ∧
    admitsB (one .configure) (.canA 0) 0x4000 1 1 1 .railCfg 0 = true ∧
    (rowAt .railCfg 1).cls = .x ∧ (one .configure).laneBusy .railCfg 0 = false ∧
    admitsB (one .run) (.canA 0) 0x3002 1 2 10000 .loopSlew 0 = true ∧
    (rowAt .loopSlew 1).cls = .l ∧ ((one .run).liveDevice (.canA 0) .loopSlew 1 10000 0).isNone = true ∧ ((one .run).liveBlock .loopSlew 0 1 10000).isNone = true := by decide +kernel

/-- Checks that find nothing. -/
def passing : State := { one .standby with md := { mode := .standby, starting := some .startEdge }, cal := { valid := true } }
/-- Checks with SAFE_IN# low. -/
def failing : State := { passing with pins := { vin := 12000 } }

/-- StartsAndStops: START, the two open-wire sets, the end of the checks, a low START, VIN, PFAIL and restart. -/
theorem witness_StartsAndStops :
    (one .standby).pins.safeIn = true ∧ (one .standby).startBusy = false ∧
    (one .run).startBusy = true ∧
    ({ one .standby with md := { (one .standby).md with openWireSet := 1, starting := some .request } } : State).md.openWireSet = 1 ∧ ({ one .standby with md := { (one .standby).md with openWireSet := 2, starting := some .request } } : State).md.openWireSet = 2 ∧
    ((({ one .standby with md := { (one .standby).md with openWireSet := 1, starting := some .request } } : State).reportOpen 1 [⟨0, 0, 1000, 1800⟩]).unmask []).md.starting ≠ none ∧
    ((({ one .standby with md := { (one .standby).md with openWireSet := 2, starting := some .request } } : State).reportOpen 2 [⟨0, 15, 0, 0⟩]).unmask [16]).md.starting ≠ none ∧
    passing.md.starting = some .startEdge ∧ passing.md.openWireSet = 0 ∧ passing.startResultNow = 0 ∧
    failing.md.starting = some .startEdge ∧ failing.md.openWireSet = 0 ∧ failing.startResultNow ≠ 0 ∧
    (sets (one .run) [(0x2000, 5, 1)]).ob 0x2000 5 = 1 ∧ (one .run).md.mode = .run ∧
    (let s := sets ({ one .standby with md := { mode := .standby, restartWait := true } } : State) [(0x2000, 5, 1)]; s.md.mode = .standby ∧ s.md.restartWait = true ∧ s.ob 0x2000 5 = 1) ∧
    (sets (one .run) [(0x2000, 7, 1600), (0x2000, 8, 1500)]).ob 0x2000 7 ≠ 0 ∧ (sets (one .run) [(0x2000, 8, 1500)]).ob 0x2000 8 = 1500 ∧
    (let s := ({ one .standby with md := { mode := .standby, restartWait := true } } : State); s.vinOk = true ∧ s.startBusy = false ∧ s.md.restartWait = true) ∧
    ({ one .run with pins := { vin := 0 } } : State).vinOk = false ∨ (one .run).ob 0x2000 7 = 0 := by decide +kernel

/-- NmtCommands: both channels are heard in STANDBY and in RUN; a session of the channel and one of another. -/
theorem witness_NmtCommands :
    (one .standby).nmtHeard .a = true ∧ (sets (one .standby) [(0x2000, 6, 1)]).ob 0x2000 6 = 1 ∧ (one .standby).startBusy = false ∧
    (one .run).nmtHeard .b = true ∧ (one .run).md.mode ≠ .standby ∧
    ({ one .run with sec := { (one .run).sec with session := some ((.canA 0), 3, 9) } } : State).sec.session = some (canChan .a, 3, 9) ∧
    canChan .a ≠ canChan .b ∧
    (sets (one .configure) [(0x2000, 6, 1)]).ob 0x2000 6 = 1 ∧ (sets (one .configure) [(0x2000, 6, 1)]).startBusy = false ∧ (one .configure).nmtHeard .b = true ∧ (one .standby).ob 0x2000 6 ≠ 1 ∧
    (CanChan.b = .b → CanFormat.classical ≠ .fd) ∧ (CanChan.a = .b → CanFormat.fd ≠ .fd) := by decide +kernel

/-- Phase 0 of a regulating loop in its period. -/
def switching : State := phased (looped 2 id) fun p => { p with on := true, zeroSeen := true, zeroAt := 4000, cfg := { p.cfg with loaded := true } }

/-- CarrierCommands: a phase of a regulating loop after its carrier zero, one that stops, a loop with its period, and both read-backs. -/
theorem witness_CarrierCommands :
    switching.hasPhase 0 = true ∧ switching.driven 0 = true ∧ (switching.phase 0).decided = false ∧
    (switching.phase 0).on = true ∧ (switching.phase 0).frozen = false ∧ (switching.phase 0).reload = false ∧ switching.md.halted = false ∧ (switching.phase 0).stopping = false ∧
    ((phased switching fun p => { p with stopping := true }).phase 0).stopping = true ∧ (switching.phase 0).stopFrom ≤ (switching.phase 0).zeroAfter switching.now ∧
    (let ph := (phased switching fun p => { p with stopping := true, stopFrom := 10000000 }).phase 0; ph.stopping = true ∧ ph.zeroAfter switching.now < ph.stopFrom) ∧
    switching.hasLoop 0 = true ∧ switching.clk.running = true ∧ (switching.phase 0).zeroSeen = true ∧
    [none, some false, some true].any (fun h => !differs ((switching.reach (switching.readbackAt 0)).balls 0).1 h) = true ∧ [none, some false, some true].any (fun w => !differs ((switching.reach (switching.readbackAt 0)).balls 0).2 w) = true ∧
    [some false, some true].any (fun h => differs ((switching.reach (switching.readbackAt 0)).balls 0).1 h) = true ∧ (switching.phase 0).ct.badLast = false := by decide +kernel

/-- A pulse that has begun. -/
def pulsing : State := phased switching fun p => { p with ed := { p.ed with rise := some 0, fall := some 32000 } }
/-- Open blanking windows of TRIP 1, SFLT0 and SAFE_IN#. -/
def blankedAll : State :=
  { one .run with windows := [(windowKey 0 (.sflt 0), ⟨some (32 * 4096, 64), 0⟩), (windowKey 0 (.trip 1), ⟨some (32 * 4096, 64), 0⟩),
    (windowKey 0 .safeIn, ⟨some (32 * 4096, 64), 0⟩)] }
/-- The level of TRIP 1 of tile 0. -/
def tripAt (s : State) (level : Bool) : State := { s with pins := { s.pins with trip := s.pins.trip.set false 1 level } }

/-- TripCommands: each input of a tile at each action, blanked and open, a pulse to cut, a loop to free, a halt. -/
theorem witness_TripCommands :
    pulsing.highFrom 0 = some 4096 ∧ (pulsing.phase 0).tripOff = 0 ∧ (pulsing.phase 0).haltOff = false ∧ (pulsing.phase 0).frozen = false ∧
    (one .run).hasTile 0 = true ∧ (one .run).pins.tripSeen.get false 1 = false ∧ (tripAt (one .run) true).tripLevel 0 1 = true ∧ (tripAt (one .run) true).blanked 0 (.trip 1) = false ∧
    (tripAt (one .run) false).tripLevel 0 1 = false ∧ (tripAt (sets (one .run) [(0x3800, 2, 1)]) false).tripLevel 0 1 = true ∧
    [0, 1, 2, 3].all (fun a => let s := tripAt (sets (one .run) [(0x3800, 4, a)]) true; s.ob 0x3800 4 == a && s.tripLevel 0 1) = true ∧
    (tripAt blankedAll true).tripLevel 0 1 = true ∧ (tripAt blankedAll true).blanked 0 (.trip 1) = true ∧
    [0, 1, 2].all (fun a => (sets (one .run) [(0x3800, 7, a)]).ob 0x3800 7 == a) = true ∧
    (one .run).pins.sflt.get false 3 = false ∧ (one .run).blanked 0 (.sflt 3) = false ∧ (one .run).md.halted = false ∧
    blankedAll.blanked 0 (.sflt 0) = true ∧
    safeLoop.hasLoop 0 = true ∧ safeLoop.loopSafe 0 = true ∧ (safeLoop.loop 0).pr.safeSev = 3 ∧ (safeLoop.rail 128).on = false ∧
    ((safeLoop.updRail 128 fun r => { r with on := true }).rail 128).on = true ∧ safeLoop.md.mode = .run ∧
    (one .service).sec.field = false ∧ (one .service).md.halted = false ∧
    ({ one .service with md := { (one .service).md with halted := true } } : State).md.halted = true := by decide +kernel

/-- SafeInput: SAFE_IN# high in and outside RUN, low, and blanked. -/
theorem witness_SafeInput :
    (one .run).pins.safeIn = true ∧ (one .run).blanked 0 .safeIn = false ∧
    (one .standby).pins.safeIn = true ∧ (one .standby).md.mode ≠ .run ∧ (one .standby).blanked 0 .safeIn = false ∧
    (failing).pins.safeIn = false ∧
    blankedAll.blanked 0 .safeIn = true := by decide +kernel

/-- Phase 0 outside its share. -/
def sharing : State := phased (sets (looped 2 fun lp => { lp with sn := { lp.sn with iNow := some 1000000 } }) [(0x3010, 3, 100)]) fun p => { p with tl := { p.tl with share := some 500, shareRun := 65535 } }
/-- A loop with one phase, allowed to burst, that has dwelt. -/
def light : State := sets (looped 2 fun lp => { lp with pp := { lp.pp with active := 1, burstDwell := 65535 } }) [(0x300D, 1, 1), (0x300D, 2, 1), (0x300D, 3, 10)]

/-- PopulationAndBurst: a dwell at its length, a share out of its limit, a learning iteration at its end, and a burst in each of its states. -/
theorem witness_PopulationAndBurst :
    (let s := looped 2 fun lp => { lp with pp := { lp.pp with level := 1, dwell := 5, dwellCfg := { len := 5, levels := [(1, 100, 2)] } } }; s.loopIs 0 = true ∧ (s.loop 0).state = 2 ∧ s.learning 0 = false ∧ (s.loop 0).previewing = false ∧ 0 ≤ (s.loop 0).pp.level ∧ 0 < (s.loop 0).pp.dwell ∧ (s.loop 0).pp.dwellCfg.len ≤ (s.loop 0).pp.dwell ∧ (s.loop 0).pp.trigFrame = false) ∧
    sharing.loopOf 0 = some 0 ∧ (sharing.phase 0).tl.share = some 500 ∧ (sharing.phase 0).tl.shareTold = false ∧ sharing.monitored 0 = true ∧ sharing.lo 0 0x10 0xD ≤ (sharing.phase 0).tl.shareRun ∧
    (let s := looped 2 fun lp => { lp with pp := { lp.pp with learn := 1, learnFrames := 1000000 } }; s.learning 0 = true ∧ s.learnLength 0 ≤ (s.loop 0).pp.learnFrames) ∧
    light.loopIs 0 = true ∧ light.burstFit 0 = true ∧ (light.loop 0).pp.burst = 0 ∧ (light.loop 0).ac.action = 0 ∧ (light.loop 0).previewing = false ∧ light.lo 0 0xD 4 ≤ (light.loop 0).pp.burstDwell ∧
    [1, 2].all (fun b => let s := looped 3 fun lp => { lp with pp := { lp.pp with burst := b } }; s.loopIs 0 && (s.loop 0).pp.burst == b && (s.loop 0).pp.burstFrom.isNone) = true ∧
    (looped 3 fun lp => { lp with pp := { lp.pp with burst := 2, shortSleeps := 255 } }).lo 0 0xD 9 ≤ 255 ∧ (looped 3 id).lo 0 0xD 1 = 0 ∧ (sets (looped 3 id) [(0x300D, 1, 1), (0x300D, 2, 0)]).lo 0 0xD 2 = 0 := by decide +kernel

/-- A fired preview before and after its instant. -/
def firedAt (a : Bool) : Fired := ⟨4000, 4100, 5000, 7, a, 0⟩

/-- TransientCommands: a hold above the target that ends at its end point and one that does not, a trigger, an action, an armed preview, a merge, and a fired preview before and after it is applied. -/
theorem witness_TransientCommands :
    (let s := looped 1 fun lp => { lp with tg := { lp.tg with holdAbove := true } }; s.loopIs 0 = true ∧ (s.loop 0).state = 1 ∧ (s.loop 0).tg.holdAbove = true) ∧
    [0, 65536].all (fun x => ((looped 1 fun lp => { lp with tg := { lp.tg with ref := x } }).loop 0).tg.ref == x) = true ∧ ((looped 1 fun lp => { lp with tg := { lp.tg with ref := 0 } }).loop 0).refGoal ≠ ((looped 1 fun lp => { lp with tg := { lp.tg with ref := 65536 } }).loop 0).tg.ref ∧
    (let lp := (looped 1 fun lp => { lp with tg := { lp.tg with ref := lp.refGoal } }).loop 0; lp.tg.ref = lp.refGoal) ∧
    bit ((sets (looped 2 id) [(0x300A, 1, 1)]).lo 0 0xA 1) 0 = true ∧ (sets (looped 2 id) [(0x300A, 1, 1)]).loopIs 0 = true ∧
    (let s := looped 2 fun lp => { lp with ac := { lp.ac with action := 1, actCfg := some ⟨40, 0, [0, 1], 0, 0, 0, 500, 0⟩ } }; (s.loop 0).ac.actCfg = some ⟨40, 0, [0, 1], 0, 0, 0, 500, 0⟩ ∧ (s.loop 0).ac.action ≠ 0) ∧
    (one .run).hasTile 0 = true ∧ (one .run).md.mode ≠ .reset ∧
    (let s := looped 2 fun lp => { lp with pv := { lp.pv with lastFire := some 4096 } }; (s.loop 0).pv.lastFire = some 4096 ∧ s.now < 4096 + 50 * s.lo 0 0xB 8) ∧
    (let s := looped 3 fun lp => { lp with pv := { lp.pv with armed := some ⟨3, 15, 100⟩ } }; (s.loop 0).pv.armed = some ⟨3, 15, 100⟩ ∧ (s.loop 0).pv.lastFire = none ∧ (s.loop 0).state = 3) ∧
    ((looped 2 id).loop 0).pv.lastFire = none ∧ ((looped 2 id).loop 0).pv.armed = none ∧
    [false, true].all (fun a => ((looped 2 fun lp => { lp with pv := { lp.pv with fired := [firedAt a] } }).loop 0).pv.fired == [firedAt a] && (firedAt a).applied == a) = true := by decide +kernel

/-- A phase at its over-current count. -/
def overCur : State := phased (looped 2 id) fun p => { p with ct := { p.ct with ocRun := 255 } }

/-- ProtectionTimers: an over-current count at its limit with and without hiccups left, and each timer. -/
theorem witness_ProtectionTimers :
    overCur.hasPhase 0 = true ∧ overCur.loopOf 0 = some 0 ∧ (overCur.loop 0).state = 2 ∧ overCur.md.halted = false ∧ overCur.lo 0 0xE 1 ≤ (overCur.phase 0).ct.ocRun ∧ (overCur.loop 0).pr.hiccups < overCur.lo 0 0xE 3 ∧ (overCur.target (loopTarget 0)).cur = none ∧
    (let s := overCur.updLoop 0 fun lp => { lp with pr := { lp.pr with hiccups := 255 } }; s.lo 0 0xE 3 ≤ (s.loop 0).pr.hiccups) ∧
    [0, 255].all (fun h => let s : State := { overCur.updLoop 0 (fun lp => { lp with pr := { lp.pr with hiccups := h } }) with ev := { targets := [(loopTarget 0, { cur := some ⟨5, 0x0905⟩ })] } }; !s.admits (loopTarget 0) 5 && !s.admits (loopTarget 0) 3 && !(s.loop 0).pr.inHiccup && decide (s.lo 0 0xE 1 ≤ (s.phase 0).ct.ocRun)) = true ∧
    ((looped 4 id).loop 0).state = 4 ∧ (looped 4 id).loopIs 0 = true ∧
    ((looped 3 id).loop 0).state = 3 ∧ (looped 3 id).loopIs 0 = true ∧
    (let s := (looped 0 fun lp => { lp with pr := { lp.pr with otRestart := true } }).updRail 128 fun r => { r with on := true }; (s.loop 0).pr.otRestart = true ∧ (s.loop 0).pr.otState = 0 ∧ (s.loop 0).state = 0 ∧ (s.rail 128).on = true ∧ s.md.mode = .run) ∧
    (let lp := (looped 2 fun lp => { lp with pr := { lp.pr with uvCond := true } }).loop 0; lp.pr.uvCond = true ∧ lp.pr.uvReport = false) ∧
    (let lp := (looped 2 fun lp => { lp with pr := { lp.pr with uvReport := true } }).loop 0; lp.pr.uvReport = true ∧ lp.pr.uvCond = false) ∧
    (let lp := (looped 7 fun lp => { lp with pr := { lp.pr with lowSides := true } }).loop 0; lp.state = 7 ∧ lp.pr.lowSides = true) := by decide +kernel

/-- LaneSetsComplete: the five commands that change something, at the ends of their ranges. -/
theorem witness_LaneSetsComplete :
    laneB (sets (looped 2 id) [(0x3000, 8, 1), (0x3007, 3, 0), (0x3007, 4, 3200), (0x300B, 1, 1)]) 0 0 15 0 1 3200 = true ∧
    laneB (sets (looped 2 id) [(0x3000, 8, 1), (0x3007, 3, 0), (0x3007, 4, 3200), (0x300B, 1, 1)]) 0 0 0 0 2 10000 = true ∧
    laneB (sets (looped 2 id) [(0x3000, 8, 1), (0x3007, 3, 0), (0x3007, 4, 3200), (0x300B, 1, 1)]) 0 0 0 0 3 128 = true ∧
    laneB (sets (looped 2 id) [(0x3000, 8, 1), (0x3007, 3, 0), (0x3007, 4, 3200), (0x300B, 1, 1)]) 0 0 0 0 4 (3 * 16384 + 15 * 1024 + 100) = true ∧
    laneB (sets (looped 2 id) [(0x3000, 8, 1), (0x3007, 3, 0), (0x3007, 4, 3200), (0x300B, 1, 1)]) 0 0 0 0 0xA 1 = true ∧
    laneB (sets (looped 2 id) [(0x3000, 8, 1), (0x3007, 3, 0), (0x3007, 4, 3200), (0x300B, 1, 1)]) 0 0 0 0 0xA 0 = true ∧
    (sets (looped 2 id) [(0x3000, 8, 1), (0x3007, 3, 0), (0x3007, 4, 3200), (0x300B, 1, 1)]).lo 0 0xD 1 = 0 ∧ (sets (sets (looped 2 id) [(0x3000, 8, 1), (0x3007, 3, 0), (0x3007, 4, 3200), (0x300B, 1, 1)]) [(0x300D, 1, 1)]).lo 0 0xD 1 = 1 ∧
    ((sets (looped 2 id) [(0x3000, 8, 1), (0x3007, 3, 0), (0x3007, 4, 3200), (0x300B, 1, 1)]).loop 0).pp.burst = 0 ∧
    laneB ((sets (looped 2 id) [(0x3000, 8, 1), (0x3007, 3, 0), (0x3007, 4, 3200), (0x300B, 1, 1)]).updLoop 0 fun lp => { lp with tg := { lp.tg with waiting := [⟨9, .lane 0 0⟩] } }) 0 0 15 0 1 0 = true := by decide +kernel

/-- LaneReadsComplete: the GET opcodes and ACK_ALERT. -/
theorem witness_LaneReadsComplete :
    [5, 6, 7, 8, 9].all (fun op => laneB (sets (looped 2 id) [(0x3000, 8, 1), (0x3007, 3, 0), (0x3007, 4, 3200), (0x300B, 1, 1)]) 0 0 1 0 op 0) = true ∧
    [5, 6, 7, 8].all (fun op => laneB (sets (looped 2 id) [(0x3000, 8, 1), (0x3007, 3, 0), (0x3007, 4, 3200), (0x300B, 1, 1)]) 0 0 1 0 op 1) = true ∧
    laneB (sets (looped 2 id) [(0x3000, 8, 1), (0x3007, 3, 0), (0x3007, 4, 3200), (0x300B, 1, 1)]) 0 0 1 0 0xB 0xFFFF = true := by decide +kernel

/-- LaneGetFrame: the GET opcodes on the part of one tile. -/
theorem witness_LaneGetFrame :
    [5, 6, 7, 8, 9].all (fun op => laneB (sets (looped 2 id) [(0x3000, 8, 1), (0x3007, 3, 0), (0x3007, 4, 3200), (0x300B, 1, 1)]) 0 0 1 0 op 0) = true := by decide +kernel

/-- LanePollsComplete: a lane that polls, one at its last failure, a repeated request, a back-off, a held write. -/
theorem witness_LanePollsComplete :
    (one .run).laneOn 0 = true ∧ ((one .run).lane 0).backoff = false ∧ ((one .run).lane 0).fails < (one .run).ob 0x5000 2 ∧
    (let s := (one .run).updLane 0 fun ln => { ln with fails := 3 }; s.ob 0x5000 2 ≤ (s.lane 0).fails) ∧
    field (0xD * 2 ^ 36) 36 4 = 13 ∧ crc8 (field (0xD * 2 ^ 36) 8 28) 28 ≠ (0xD * 2 ^ 36 + 1) % 256 ∧
    (let s := (one .run).updLane 0 fun ln => { ln with seqValid := true, lastSeq := 5 }; (s.lane 0).seqValid = true ∧ (s.lane 0).lastSeq = 5) ∧
    (((one .run).updLane 0 fun ln => { ln with backoff := true }).lane 0).backoff = true ∧
    (((one .run).updLane 0 fun ln => { ln with heldCfg := [(some (.canA 0), 2, 3)] }).lane 0).heldCfg = [(some (.canA 0), 2, 3)] ∧
    (((one .run).updLane 0 fun ln => { ln with heldCfg := [(none, 2, 3)] }).lane 0).heldCfg = [(none, 2, 3)] ∧ vlaneGood (bit (one .run).pins.lvsel 0) 949 = false ∧
    (one .run).md.mode ≠ .reset ∧ ((one .run).tile 0).laneLevelFault = false ∧
    (let s := (one .run).updLane 0 fun ln => { ln with seqValid := true, lastSeq := 15 }; (s.lane 0).lastSeq = 15 ∧ (s.lane 0).backoff = false ∧ s.laneOn 0 = true) ∧ (0x3E : Nat) < 0x3F := by decide +kernel

/-- LinkSlots: two tiles that share loop 0; a slot that says what the tile follows; one that is lost. -/
theorem witness_LinkSlots :
    (two .run).pairUp 1 0 = true ∧ (sets (two .run) [(0x3000, 1, 1), (0x3000, 2, 0x10001)]).pairUp 1 0 = true ∧
    (sets (two .run) [(0x3000, 1, 1), (0x3000, 2, 0x10001)]).anchoredAt 0 0 = some 0 ∧ (sets (two .run) [(0x3000, 1, 1), (0x3000, 2, 0x10001)]).partakes 0 1 = true ∧
    sampleCrcOk 0 = true ∧ sampleCrcOk 1 = false ∧
    (sets (two .run) [(0x3000, 1, 1), (0x3000, 2, 0x10001)]).anchoredAt 0 1 = none ∧ (sets (two .run) [(0x3000, 1, 1), (0x3000, 2, 1)]).anchoredAt 0 0 = some 0 ∧ (sets (two .run) [(0x3000, 1, 1), (0x3000, 2, 1)]).partakes 0 1 = false ∧
    (sampleFields 0).action = 0 ∧ (sampleFields 0).wake = false ∧ ((sets (two .run) [(0x3000, 1, 1), (0x3000, 2, 0x10001)]).compOf 0 1).e1 = (sampleFields 0).error ∧
    bit ((sets (two .run) [(0x3000, 1, 1), (0x3000, 2, 0x10001)]).loop 0).pr.lostTiles 1 = false ∧
    parityOk 7 = true ∧ field 7 1 2 = (((two .run).now + 7) / 8 + 3) % 4 ∧
    parityOk 6 = false ∧
    2 ≤ ({ two .run with link := { trained := 3, badControl := [(8, 2)] } } : State).link.badControl.get 0 8 := by decide +kernel

/-- The bytes of a frame slot with a device time and a flag byte, with its CRC. -/
def slotBytes (time flags : Nat) : List Nat :=
  let bs := bytesLE 8 time ++ List.replicate 16 0 ++ [flags] ++ List.replicate 35 0
  bs ++ bytesLE 4 (crc32c bs)

/-- LinkFrameSlots: a good slot, one with another DEVICE_TIME, one that missed a commit, the first and the second corrupted one, the first and the second mismatch. -/
theorem witness_LinkFrameSlots :
    (two .run).pairUp 0 1 = true ∧
    frameCrcOk (slotBytes 4096 0) = true ∧ (slotBytes 4096 0).length = 64 ∧ (frameFields (slotBytes 4096 0)).deviceTime = (two .run).frame * ticksPerFrame ∧ (frameFields (slotBytes 4096 0)).commitMiss = false ∧
    frameCrcOk (slotBytes 4095 0) = true ∧ (frameFields (slotBytes 4095 0)).deviceTime ≠ (two .run).frame * ticksPerFrame ∧ (frameFields (slotBytes 4095 0)).commitMiss = false ∧
    frameCrcOk (List.replicate 64 0) = false ∨ frameCrcOk (List.replicate 64 1) = false ∧
    (List.range 8).any (fun b => frameCrcOk (slotBytes 4096 (2 ^ b)) && (frameFields (slotBytes 4096 (2 ^ b))).commitMiss) = true ∧
    ∀ m ∈ (sets (two .run) [(0x3000, 1, 1), (0x3000, 2, 0x10001)]).sharedLoops 0 1, (frameFields (slotBytes 4096 0)).hashes.getD ((sets (two .run) [(0x3000, 1, 1), (0x3000, 2, 0x10001)]).slotOf m 1) 0 = (sets (two .run) [(0x3000, 1, 1), (0x3000, 2, 0x10001)]).link.hashes.get 0 ((sets (two .run) [(0x3000, 1, 1), (0x3000, 2, 0x10001)]).slotOf m 0) ∧
    (two .run).link.badFrame.get 0 1 = 0 ∧ ({ two .run with link := { trained := 3, badFrame := [(1, 1)] } } : State).link.badFrame.get 0 1 ≠ 0 ∧
    ((sets (two .run) [(0x3000, 1, 1), (0x3000, 2, 0x10001)]).loop 0).pr.differ = none ∧ ((sets (two .run) [(0x3000, 1, 1), (0x3000, 2, 0x10001)]).loop 0).pr.mismatch = 0 ∧ (sets (two .run) [(0x3000, 1, 1), (0x3000, 2, 0x10001)]).slotsBad 0 = false ∧ ({ (sets (two .run) [(0x3000, 1, 1), (0x3000, 2, 0x10001)]) with link := { trained := 3, slotBad := 2 ^ 16 - 1 } } : State).slotsBad 0 = true ∧
    [0, 2 ^ 16 - 1].all (fun b => let s : State := { (sets (two .run) [(0x3000, 1, 1), (0x3000, 2, 0x10001)]).updLoop 0 (fun lp => { lp with pr := { lp.pr with differ := some (1, 1) } }) with link := { trained := 3, slotSeen := b } }; s.slotsIn 0 == decide (b ≠ 0) && !s.slotsBad 0 && (s.loop 0).pr.differ == some (1, 1)) = true ∧
    ((looped 2 fun lp => { lp with pr := { lp.pr with mismatch := 1 } }).loop 0).pr.mismatch ≠ 0 := by decide +kernel

/-- Four tiles with lost pairs. -/
def lossy (pairs : Nat) : State := { base .ph4064 .run with link := { trained := 15, pairLost := pairs } }

/-- Two tiles, a packet of tile 1 to tile 0 unacknowledged. -/
def flown (q : Packet) : State := { two .run with link := { trained := 3, creditsUsed := [(1, 1)], flying := [(1, [q])] } }

/-- LinkPortsAndManagement: a port still up, one and two losers, a packet with a credit, a resend and its end, a credit to return. -/
theorem witness_LinkPortsAndManagement :
    bit (two .run).link.pairLost 1 = false ∧ (two .run).pairUp 0 1 = true ∧
    (lossy 0x000202).losers 1 = [0, 1] ∧ ((lossy 0x2).losers 1).length = 1 ∧ (lossy 2).T ≠ 2 ∧ ((lossy 2).tile 1).state ≠ 2 ∧
    (let s : State := { two .run with link := { trained := 3, pairLost := 2 } }; (s.losers 1).length = 1 ∧ s.T = 2) ∧
    ((lossy 0x10100).losers 0).length = 2 ∧ ((lossy 0x10100).losers 0).length + 1 < (lossy 0x10100).T ∧ (lossy 0x10100).clk.running = true ∧
    (two .run).link.creditsUsed.get 0 1 < creditsFor false ∧ ({ two .run with link := { trained := 3, creditsUsed := [(1, 7)] } } : State).link.creditsUsed.get 0 1 < creditsFor true ∧ ((two .run).link.flying.get [] 1).find? (fun q => q.away && q.response == true) = none ∧ oldestPacket ((two .run).link.flying.get [] 1) = none ∧ bit (two .run).link.mgmtFault 1 = false ∧
    [false, true].all (fun w => let s := flown ⟨w, 4000, 0, true⟩; s.pairUp 0 1 && (s.link.flying.get [] 1).find? (fun q => q.away && q.response == w) == some ⟨w, 4000, 0, true⟩) = true ∧
    [0, 2, 3].all (fun n => let s := flown ⟨false, 4000, n, false⟩; s.pairUp 0 1 && oldestPacket (s.link.flying.get [] 1) == some ⟨false, 4000, n, false⟩) = true ∧
    (let s : State := { two .run with link := { trained := 3, creditsUsed := [(1, 8)], buffered := [(1, 1)] } }; 0 < s.link.buffered.get 0 1 ∧ s.procRuns 0 = true) ∧
    (lossy 2).hasTile 1 = true := by decide +kernel

/-- ClockCommands: a tile that runs, the ends of the range of a good count, the first and the third watchdog expiry, a recovery. -/
theorem witness_ClockCommands :
    (two .run).tileRuns 1 = true ∧ bit (two .run).clk.slowOk 1 = true ∧
    frequencyBad 175781 = true ∧ frequencyBad 214844 = true ∧ frequencyBad 175782 = false ∧ frequencyBad 214843 = false ∧
    ((two .run).recentExpiries 1).length < 3 ∧
    3 ≤ (((two .run).updTile 1 fun ti => { ti with wdTimes := [9, 8] }).recentExpiries 1).length ∧
    ((two .run).tile 1).procHalted = false ∧ (two .run).md.proofRunning = false ∧
    (((two .run).updTile 1 fun ti => { ti with state := 1 }).tile 1).state = 1 := by decide +kernel

/-- PeriodicCommands: device time that runs and that stands, the first and the second edge, TIME. -/
theorem witness_PeriodicCommands :
    (one .run).clk.running = true ∧ State.reset.clk.running = false ∧
    (sets (one .run) [(0x2100, 1, 2)]).ob 0x2100 1 = 2 ∧ (one .run).clk.syncLastEdge = none ∧
    ((4096 : Int) - 2 - (one .run).obI 16 0x2102 2).toNat = 4094 ∧ 4094 = 4000 + 94 ∧ ({ one .run with clk := { syncLastEdge := some 4000 } } : State).clk.syncGrid = none ∧
    (let s : State := { one .run with clk := { running := true, time := 4095, frameDone := 1 } }; s.nextSample % ticksPerFrame = 0 ∧ s.clk.frameDone < s.nextSample / ticksPerFrame) ∧ (one .run).nmtHeard .a = true ∧ bit ((one .run).ob 0x2100 2) 0 = true := by decide +kernel

/-- Telemetry tables that wait for a trigger. -/
def tabled : State := sets (one .run) [(0x3A00, 1, 1), (0x3A01, 1, 2 ^ 29), (0x3A02, 1, 2 ^ 29)]
/-- Each converter has a result of one sample to write. -/
def resulting : State := tabled.updTile 0 fun ti =>
  (ti.updSeq 0 fun q => { q with done := [⟨0, 2 ^ 29, 500, false, false⟩] }).updSeq 1 fun q => { q with done := [⟨3, 2 ^ 29, 500, false, false⟩] }

/-- TelemetryCommands: a table that runs, with an entry that waits, one that has a result to write, and a stale channel. -/
theorem witness_TelemetryCommands :
    [0, 1].all (fun v => tabled.tablesRun 0 && ((tabled.tile 0).seq v).first.isNone && decide (field (tabled.entryWord 0 v) 29 2 = 1) && decide (10 * (((tabled.tile 0).seq v).last + 1) ≤ tabled.now) && decide (clockAt tabled.now ≤ ((tabled.tile 0).seq v).last + 1 + (tabled.entryNow 0 v).limit)) = true ∧
    9 < 10 * (((tabled.tile 0).seq 0).last + 1) ∧
    [0, 1].all (fun v => let s := tabled.tablesNow 0; s.tablesRun 0 && ((s.tile 0).seq v).first.isNone && decide (field (s.entryWord 0 v) 29 2 ≠ 0) && (let u := (s.reach (10 * (((s.tile 0).seq v).last + 1 + (s.entryNow 0 v).limit))).tablesNow 0; ((u.tile 0).seq v).first.isNone && ((u.tile 0).seq v).last == ((s.tile 0).seq v).last)) = true ∧
    (let s := tabled.updTile 0 fun ti => ti.updSeq 1 fun q => { q with first := some 100000 }; (((s.tablesNow 0).reach 100).tablesNow 0).tablesRun 0 = true ∧ ((s.tile 0).seq 1).first.isSome = true) ∧
    [0, 1].all (fun v => let s := resulting.tablesNow 0; match s.resultTime 0 v with | none => false | some a => match ((((s.reach a).tablesNow 0).tile 0).seq v).done with | [] => false | d :: _ => [4095].length == 2 ^ field d.word 8 4) = true ∧
    (looped 2 fun lp => { lp with tl := { lp.tl with stale := [(1, 9)] } }).loopIs 0 = true ∧ ((looped 2 fun lp => { lp with tl := { lp.tl with stale := [(1, 9)] } }).loop 0).tl.stale.get 0 1 = 9 := by decide +kernel

/-- CheckCommands: the four positions of the cycle, the first and the second failure, the end of a calibration, an implausible loop. -/
theorem witness_CheckCommands :
    (one .run).hasTile 0 = true ∧ (one .run).cal.state ≠ 1 ∧ (one .run).clk.running = true ∧
    ((one .run).tablesNow 0).checkNext 0 0 = some (1, 512) ∧ ((one .run).tablesNow 0).checkNext 0 1 = some (1, 512) ∧
    bit ((one .run).tile 0).refBad 1 = false ∧ bit ((one .run).tile 0).refFault 1 = false ∧
    bit (((one .run).updTile 0 fun ti => { ti with senseBad := 8 }).tile 0).senseBad 3 = true ∧
    ({ one .configure with cal := { state := 1 } } : State).cal.state = 1 ∧ calPasses ⟨0, 5, 0x8000, 0, [1, 1, 1, 1, 1, 1, 1, 1], 3072⟩ = true ∧
    (let s := sets (looped 3 fun lp => { lp with pr := { lp.pr with plaus := 2 } }) [(0x3013, 7, 5)]; s.plausible 0 = true ∧ (s.loop 0).pr.plaus = 2) ∧
    [0, 1].all (fun v => !((one .run).tablesRun 0 && powersDown ((one .run).entryWord 0 v)) && !(tabled.tablesRun 0 && powersDown (tabled.entryWord 0 v))) = true ∧
    (let s := (one .run).updTile 0 fun ti => ti.updSeq 1 fun q => { q with check := 9 }; s.checkNext 0 0 = some (1, 512) ∧ s.checkNext 0 1 = some (9, 4608)) ∧ (let s := (one .run).updTile 0 fun ti => ti.updSeq 0 fun q => { q with check := 9 }; s.checkNext 0 0 = some (9, 4608) ∧ s.checkNext 0 1 = some (1, 512)) ∧
    (((one .run).updTile 0 fun ti => ti.updSeq 1 fun q => { q with die := some (6, 1000) }).tile 0 |>.seq 1).die = some (6, 1000) := by decide +kernel

/-- ComparatorAndPeakCommands: a comparator that may act, one that is masked, one with its output active, one that settles; the five peaks. -/
theorem witness_ComparatorAndPeakCommands :
    ((one .run).updComp 0 55 fun k => { k with masked := true }).mayActivate 0 55 = false ∧
    (one .run).mayActivate 0 0 = true ∧
    (((one .run).updComp 0 55 fun k => { k with output := true }).comp 0 55).output = true ∧
    (((one .run).updComp 0 55 fun k => { k with settling := true }).comp 0 55).settling = true ∧
    [1, 2, 3, 4, 5].all (fun sub => readsB (looped 2 id) (.canA 0) 0x3014 sub 0 .loopPeaks 0) = true := by decide +kernel

/-- State 1 upward with no rail to wait for, released at 4,000. -/
def risen : State := { sets (one .run) [(0x4300, 1, 2)] with seq := { state := 1, dir := 1, freeAt := some 4000 } }

/-- The same with another sequencer. -/
def seqAs (q : SeqGrp) : State := { risen with seq := q }

/-- SequenceCommands: a line that every participant has released, up, at TOP_STATE, reversing in and out of time, and down; a line
still held; a tile's next position; reversals of both kinds with and without a state to go; timeouts; reports; a system reset. -/
theorem witness_SequenceCommands :
    risen.seqActive = true ∧ risen.seq.local_ = false ∧ risen.released = true ∧ risen.edgeAt = some 4000 ∧ risen.moves = true ∧ risen.seq.reversing = false ∧
    (let s := sets risen [(0x4300, 1, 1)]; s.released = true ∧ s.seqActive = true ∧ s.edgeAt = some 4000 ∧ s.moves = false) ∧
    [4750, 4751].all (fun x => let s := seqAs { risen.seq with reversing := true, revAt := x }; s.released && s.moves && !s.atTop && s.seq.reversing && s.edgeAt == some 4000 && (decide (4000 + 750 < s.seq.revAt) == decide (x = 4751))) = true ∧
    (one .standby).edgeAt = none ∧ (seqAs { risen.seq with markEnd := 5000 }).upward = true ∧
    [(0, 1), (1, 1), (2, 1), (255, 1), (1, 3), (256, 3), (0, 3)].all (fun x => (seqAs { risen.seq with state := x.1, dir := x.2 }).tilePos 0 == x) = true ∧ 0 ∈ risen.tileList ∧ risen.ob 0x4300 1 = 2 ∧
    [(0, false), (1, false), (0, true), (1, true)].all (fun x => let s := seqAs { risen.seq with state := x.1, reversing := x.2, revAt := 3000 }; let u := (if x.2 then s.reach (4250 + 100000) else s).stepped; s.seqActive && s.upward && !s.seq.local_ && s.seq.reversing == x.2 && (!x.2 || s.holdAt == some 4250) && (({ u with seq := { u.seq with others := 7 } } : State).turnDown.allZero == decide (x.1 = 0))) = true ∧
    (let s := seqAs { risen.seq with reversing := true, revAt := 4751 }; s.upward = true ∧ s.holdAt = none) ∧
    [0, 1].all (fun a => [false, true].all (fun v => let s : State := { sets risen [(0x4300, 3, a)] with seq := { risen.seq with reversing := v, doneAt := [(0, some 4000)], others := 10 ^ 12 } }; s.tileRuns 0 && s.seqActive && s.tileDir 0 != 0 && !s.atTop && s.seq.doneAt.get none 0 == some 4000 && s.seq.freeAt == some 4000 && !(s.reach (4000 + 500000 * s.ob 0x4300 2)).lineHigh && decide (s.ob 0x4300 3 = a))) = true ∧
    risen.tileRuns 0 = true ∧
    (seqAs { risen.seq with pulse := true, sysreset := 2 }).seq.pulse = true ∧ (seqAs { risen.seq with sysreset := 3 }).md.mode = .run ∧
    (let s := seqAs { risen.seq with state := 2 }; s.isUp = true ∧ s.edgeAt = some 4000) := by decide +kernel

/-- External rail 0 is sequenced, waits in state 1, and its turn has come. -/
def turning : State := sets (risen.updRail 0 fun r => { r with status := 1 }) [(0x4000, 1, 1), (0x4000, 2, 1), (0x4000, 3, 0xFFFFFFFF), (0x4000, 5, 0)]
/-- Rail 0 drops at 4,090, with FAULT_DROPS. -/
def dropping (drops : Nat) : State :=
  sets (turning.updRail 0 fun r => { r with on := true, declared := true, good := false, dropDue := 4090, status := 4 }) [(0x4000, 5, 1), (0x4002, 4, drops)]

/-- RailsUp: a rail whose turn has come without a parent and with a failed one, one that settles, a level of PG held for less and for
PG_FILTER, one that drops, one that is bad, one at its deadline. -/
theorem witness_RailsUp :
    liveB turning 0 ∧ turning.mayTurnOn 0 = true ∧ (turning.reach (turning.rail 0).onEnd).parentOrder 0 = none ∧ ((turning.reach (turning.rail 0).onEnd).parents 0).all ((turning.reach (turning.rail 0).onEnd).parentGood 0) = true ∧ ((turning.reach (turning.rail 0).onEnd).parents 0).any (fun p => turning.parentFailed p || turning.pathFault 0 p) = false ∧
    (let s := sets turning [(0x4000, 3, 0xFFFFFF01)]; liveB s 0 ∧ s.mayTurnOn 0 = true ∧ (s.reach (s.rail 0).onEnd).parentOrder 0 = none ∧ ((s.reach (s.rail 0).onEnd).parents 0).any (fun p => s.parentFailed p || s.pathFault 0 p) = true) ∧
    [false, true].all (fun d => let s := turning.updRail 0 fun r => { r with on := true, settling := true, declared := d, status := 3 }; liveB s 0 && (s.rail 0).on && (s.rail 0).settling && (s.rail 0).declared == d && decide ((s.rail 0).retryStep ≠ 4) && decide ((s.rail 0).status ≠ 6)) = true ∧
    [(0, false), (1, false), (0, true), (1, true)].all (fun x => let s := sets (turning.updRail 0 fun r => { r with on := x.2 }) [(0x4000, 0xA, x.1)]; s.hasRail 0 && (s.rail 0).on == x.2 && (decide (499 < 500 * s.rr 0 0 0xA) == decide (x.1 = 1)) && decide (500 * s.rr 0 0 0xA ≤ 500)) = true ∧
    [(4, 1), (1, 1)].all (fun x => let s := dropping x.1; liveB s 0 && s.isDrop 0 && liveB (s.dropSeen 0) 0 && ((s.dropSeen 0).rail 0).declared && (decide (x.1 = 1) == decide ((s.dropSeen 0).rr 0 2 4 ≤ ((s.dropSeen 0).rail 0).dropEnds.length))) = true ∧
    (let s := turning.updRail 0 fun r => { r with on := true, declared := true, good := false, badEnd := some 9000, status := 5 }; liveB s 0 ∧ (s.rail 0).good = false ∧ (s.rail 0).badEnd = some 9000) ∧
    (let s := turning.updRail 0 fun r => { r with on := true }; liveB s 0 ∧ (s.rail 0).declared = false ∧ (s.rail 0).noDeadline = false ∧ (s.rail 0).retryStep ≠ 4) ∧
    ((turning.updRail 0 fun r => { r with on := true, declared := true }).rail 0).declared = true ∧ bit turning.link.mgmtFault 0 = false ∧ ((sets turning [(0x4004, 3, 0xFFFFFF00)]).parents 1).contains 0 = true := by decide +kernel

/-- RailsDown: a rail that is due downward, with its balls off at once and at the next clock, one that is discharged, one that is not
in time, one that was good for long, a recovering tile. -/
theorem witness_RailsDown :
    (let s : State := { (turning.updRail 0 fun r => { r with on := true }) with seq := { state := 1, dir := 3 } }; liveB s 0 ∧ (s.offDue 0).isSome = true ∧ s.offNextClock 0 = false) ∧
    (let s : State := { (sets (looped 2 id) [(0x4200, 1, 1), (0x4200, 2, 1), (0x3009, 2, 1), (0x4300, 1, 2)]).updRail 128 (fun r => { r with on := true }) with seq := { state := 1, dir := 3 } }; liveB s 128 ∧ (s.offDue 128).isSome = true ∧ s.offNextClock 128 = true) ∧
    (let s := turning.updRail 0 fun r => { r with discharged := false }; liveB s 0 ∧ (s.rail 0).on = false ∧ (s.rail 0).discharged = false ∧ s.dischargeCond 0 = true) ∧
    (let s := turning.updRail 0 fun r => { r with declared := true, good := true, on := true }; (s.rail 0).declared = true ∧ (s.rail 0).good = true ∧ (s.rail 0).on = true) ∧
    (let s := turning.updTile 0 fun ti => { ti with state := 1 }; s.hasRail 0 = true ∧ s.sequenced 0 = true ∧ s.seqActive = true ∧ (s.tile (s.railTile 0)).state = 1) := by decide +kernel

/-- One report of SFLT0 and its entry. -/
def reported : State := (one .run).report 0 118 0x0506 2 1 []
/-- Its entry. -/
def entryOf : Entry := { code := 0x0506, inst := 1, sev := 2, data := [], time := 4096 }

/-- EventCommands: a queued reaction, reports with a severity that the catalogue gives, one of the two of a refused trigger and a
third, a pending entry alone, among others and with a lost count, an unread record with and without its processors, EMCYs that wait,
the window. -/
theorem witness_EventCommands :
    (let s : State := { one .run with ev := { targets := [(3, { queue := [⟨5, 0x0901⟩] })] } }; s.hasRail 3 = true ∧ (s.target 3).cur = none ∧ (s.target 3).queue ≠ []) ∧
    sevOf 0x0506 [] = some 2 ∧ (0x0506 : Nat) ≠ 3 ∧ (1 : Nat) ≤ 1 ∧ (1 : Nat) < 2 ∧ (131 : Nat) < 132 ∧
    earliest (reported.pendingOf 0) = some (118, entryOf) ∧
    ((reported.ev.slots.get {} 118).take entryOf).entries = [] ∧ ((reported.ev.slots.get {} 118).take entryOf).lost = 0 ∧
    (let s := reported.report 0 118 0x0506 2 2 []; ((s.ev.slots.get {} 118).take entryOf).entries ≠ []) ∧
    (let s : State := { reported with ev := { reported.ev with slots := [(118, { (reported.ev.slots.get {} 118) with lost := 3 })] } }; earliest (s.pendingOf 0) = some (118, entryOf) ∧ ((s.ev.slots.get {} 118).take entryOf).entries = [] ∧ 0 < ((s.ev.slots.get {} 118).take entryOf).lost) ∧
    (let s : State := { sets (one .run) [(0x4400, 5, 4), (0x4400, 2, 32)] with ev := { rings := [(0, { recs := [⟨1, 1, 0, 2, 0x0506, 0, [], 0, 0, false, false, false, 0, 0⟩], writeIdx := 1 })] } }; s.hasTile 0 = true ∧ s.forwardRing 0 = some 0 ∧ (s.ring 0).unread ≠ [] ∧ s.procRuns 0 = true ∧ ((s.updTile 0 fun ti => { ti with state := 1 }).procRuns 0 = false) ∧ ((s.updTile 0 fun ti => { ti with state := 1 }).forwardRing 0 = some 0)) ∧
    (one .run).net.emcyA = [] ∧ (one .run).net.emcyB = [] ∧ (one .run).emcyOn .a = true ∧ (sets (one .run) [(0x4500, 5, 3)]).emcyOn .b = true ∧
    ({ one .run with net := { (one .run).net with emcyA := [(0x1000, 1, [])], emcyB := [(0x1000, 1, [])] } } : State).emcyOn .a = true ∧
    readsB (one .run) .canB 0x4482 1 1024 .recWindow 0 ∧ Chan.canB ≠ .spi := by decide +kernel

/-- One tile with this Cellar. -/
def withCellar (c : Cellar) : State := { one .run with cel := { cellars := [(0, c)] } }

/-- CellarCommands: an operation that waits, each kind in progress, a field with room and a full one, hours, a scrub that is due and one
that is not, each step of a save, and a store. -/
theorem witness_CellarCommands :
    [(.page 20 none 0 []), (.tally 1), .save].all (fun o => let s := withCellar { queue := [o] }; s.hasTile 0 && (s.cellar 0).busy.isNone && decide (s.cel.storeState = 0) && decide ((s.tile 0).state ≠ 2) && (s.cellar 0).queue == [o]) = true ∧
    [(.page 20 none 0 []), (.tally 7), (.foldBase 7), (.foldErase 7)].all (fun o => (withCellar { busy := some o }).cel.storeState == 0 && ((withCellar { busy := some o }).cellar 0).busy == some o) = true ∧
    [127, 128].all (fun b => let s := withCellar { queue := [.tally 7], fields := [(7, { bits := b })] }; (s.cellar 0).busy.isNone && (s.cellar 0).queue == [.tally 7] && decide (((s.cellar 0).field 7).programmed = b)) = true ∧
    (let s : State := { one .run with md := { mode := .run, runFrames := framesPerHour } }; ((s.cellar 0).runHours + 1) * framesPerHour ≤ s.md.runFrames ∧ s.clk.running = true) ∧
    ((one .run).cellar 0).runHours = 0 ∧ (one .run).md.runFrames < ((0 : Nat) + 1) * framesPerHour ∧ (one .run).md.mode = .run ∧
    (let c : Cellar := { fields := [(1, { bits := 24 })] }; c.scrubbedAt / 24 < c.hours / 24) ∧ (let c : Cellar := { fields := [(1, { bits := 23 })] }; c.hours / 24 ≤ c.scrubbedAt / 24) ∧
    (let s : State := { one .configure with cel := { saveState := 1 } }; s.cel.saveState = 1 ∧ s.obj.flight = none ∧ 0 ∈ s.tileList) ∧
    [0, 102].all (fun n => let s := withCellar { busy := some .save, savePages := n }; s.cel.storeState == 0 && (s.cellar 0).busy == some .save && decide ((s.cellar 0).savePages < 103)) = true ∧
    (let s : State := { two .configure with cel := { saveState := 2, cellars := [(0, { busy := some .save, savePages := 104 }), (1, { busy := some .save })] } }; s.cel.saveState = 2 ∧ s.cel.storeState = 0 ∧ (∀ u ∈ s.tileList, (s.tile u).state ≠ 2) ∧ ∀ u ∈ s.tileList, (s.cellar u).busy = some .save ∧ (s.cellar u).savePages < 105) ∧
    ({ one .run with cel := { storeState := 2 } } : State).cel.storeState ≠ 0 := by decide +kernel

/-- TPDO 1 streams ring 0, with this many records in flight. -/
def streamer (n : Nat) : State :=
  (sets (one .run) [(0x4400, 5, 1), (0x1800, 1, 0x181), (0x1800, 2, 254), (0x1A00, 0, 1), (0x1A00, 1, okey 0x4440 1 * 256)]).updTpdo 0
    fun t => { t with inFlightRecs := n }
/-- A client of CAN A with a transfer. -/
def opened (x : OpenTransfer) : State := { one .run with net := { (one .run).net with transfers := [(0, some x)] } }
/-- A read whose value is two bytes longer than a segment's number less one. -/
def longRead : OpenTransfer := { write := false, idx := 0x1008, sub := 0, bytes := List.replicate (Config.segmentBytes 0 + 2) 0 }

/-- NetworkCommands: operational channels, valid PDOs of each kind in each case of their transmission, a stream that still runs and
one that has ended, and the clients with and without a transfer of each kind. -/
theorem witness_NetworkCommands :
    ((one .run).pdoUp .a = true ∧ (one .run).pdoUp .b = true ∧ (CanChan.b = .b → CanFormat.classical = .classical) ∧ (CanChan.a = .b → CanFormat.fd = .classical) ∧ (one .run).procRuns 0 = true) ∧
    (let s := sets (one .run) [(0x1400, 1, 0x181), (0x1400, 2, 240), (0x1600, 0, 1)]; s.rpdoOn 0 = true ∧ s.ob 0x1400 2 ≤ 240 ∧ s.rpdoCan 0 = .a) ∧
    (let s := sets (one .run) [(0x1400, 1, 0x181), (0x1400, 2, 254), (0x1600, 0, 1)]; s.rpdoOn 0 = true ∧ 240 < s.ob 0x1400 2 ∧ s.obj.heldReqs = [] ∧ s.served (s.rpdoChan 0) = true) ∧
    (let s := (sets (one .run) [(0x1800, 1, 0x181), (0x1800, 2, 255), (0x1800, 5, 10), (0x1A00, 0, 1)]); s.tpdoOn 0 = true ∧ (s.tpdo 0).latched = none ∧ (s.tpdo 0).inFlightRecs = 0 ∧ s.tpdoNews 0 = false ∧ s.tpdoTimed 0 = true ∧ s.streaming 0 = false) ∧
    (let s := (sets (one .run) [(0x1800, 1, 0x181), (0x1A00, 0, 1)]).updTpdo 0 fun t => { t with latched := some [7] }; s.tpdoOn 0 = true ∧ (s.tpdo 0).latched = some [7]) ∧
    [0, 2].all (fun n => let s := streamer n; s.tpdoOn 0 && (s.tpdo 0).latched.isNone && (s.tpdo 0).inFlightRecs == n && s.streaming 0 && s.streamRing 0 == some 0) = true ∧
    (let s := (sets (one .run) [(0x1800, 1, 0x181), (0x1800, 2, 254), (0x1A00, 0, 1), (0x1A00, 1, okey 0x2001 1 * 256 + 8)]).updTpdo 0 fun t => { t with sent := [] }; s.tpdoOn 0 = true ∧ s.tpdoNews 0 = true ∧ (s.tpdo 0).inFlightRecs = 0) ∧
    (sets (one .run) [(0x1400, 1, 0x40000181)]).rpdoCan 0 = .a ∧
    (one .run).nmtHeard .b = true ∧ (sets (one .run) [(0x1017, 0, 5)]).ob 0x1017 0 ≠ 0 ∧
    (one .run).net.errA ≠ 2 ∧ (one .run).net.errB ≠ 1 ∧
    [0, 1, 2, 3, 4].all (fun c => (one .run).served (clientChan c) && ((one .run).transferOf (clientChan c)).isNone && !(one .run).clientBusy (clientChan c) && clientChan c != .spi) = true ∧
    [true, false].all (fun w => [true, false].all (fun g => let x : OpenTransfer := { write := w, idx := 0x1008, sub := 0, toggle := g }; let s := opened x; s.transferOf (.canA 0) == some x && s.served (.canA 0) && !s.clientBusy (.canA 0) && decide (x.bytes.length ≤ 1))) = true := by
  decide +kernel

/-- NetworkCommands: a value that needs more than one segment, however many bytes a segment carries. -/
theorem witness_NetworkCommands_segment :
    (opened longRead).transferOf (.canA 0) = some longRead ∧
    Config.segmentBytes (opened longRead).diag.fresh + 1 < longRead.bytes.length := by
  refine ⟨rfl, ?_⟩
  show Config.segmentBytes 0 + 1 < (List.replicate (Config.segmentBytes 0 + 2) 0).length
  simp

/-- SpiCommands: the port that is free and the port that is busy. -/
theorem witness_SpiCommands :
    (one .run).net.spi ≠ .busy ∧ (one .run).md.mode ≠ .reset ∧ (one .run).served .spi = true ∧
    (List.range 3).any (fun n => readsB (one .run) .spi 0x2000 1 n .devMode 0) = true ∧ isDomain 1 0x2000 1 = false ∧
    admitsB (one .run) .spi 0x3002 1 2 10000 .loopSlew 0 = true ∧
    (sets (one .run) [(0x443F, 5, 2)]).ob 0x443F 5 = 2 ∧ 32 ≤ 512 ∧
    (let s : State := { one .run with net := { (one .run).net with spi := .busy } }; s.net.spi = .busy ∧ s.served .spi = true) := by decide +kernel

/-- SRDO 2 receives REQUEST_LOOPS. -/
def srdoed : State :=
  { sets (one .run) [(0x1302, 1, 2), (0x1302, 5, 0x101), (0x1302, 6, 0x102), (0x1382, 0, 2), (0x1382, 1, 0x26010520), (0x1382, 2, 0x26010520)] with
    srdo := { valid := true } }
/-- SRDO 1 transmits the safe states. -/
def srdoOne : State :=
  { sets (one .run) [(0x1301, 1, 1), (0x1301, 5, 0x101), (0x1301, 6, 0x102), (0x1302, 1, 0), (0x1381, 0, 2), (0x1381, 1, 0x26010120), (0x1381, 2, 0x26010120)] with
    srdo := { valid := true } }

/-- SafetyEvents: SRDOs that receive and transmit, in and out of their time, with a request that names a loop and one that names none,
each loss action, and each area of a double-bit error. -/
theorem witness_SafetyEvents :
    (one .run).hasTile 0 = true ∧ (one .run).md.mode ≠ .reset ∧
    (((one .run).updTile 0 fun ti => { ti with bandFault := true }).tile 0).bandFault = true ∧
    srdoed.srdoRx 1 = true ∧ (srdoed.srdoEntries 1).head? = some 0x26010520 ∧ 0 ≤ srdoed.ob 0x1302 3 ∧
    (let s := sets srdoed [(0x1382, 0, 0)]; s.srdoRx 1 = true ∧ (s.srdoEntries 1).head? ≠ some 0x26010520) ∧
    (2 ^ 32 - 1) % 2 ^ 32 + 0 % 2 ^ 32 + 1 = 2 ^ 32 ∧
    srdoed.loopList.any (bit (0 % 2 ^ 32)) = false ∧ srdoed.loopList.any (bit (1 % 2 ^ 32)) = true ∧
    srdoed.ob 0x2600 7 ≠ 0 ∧ (sets srdoed [(0x2600, 7, 0)]).ob 0x2600 7 = 0 ∧ srdoed.ob 0x1302 3 < 256 ∧
    (List.range 8).all (fun j => srdoOne.srdoTx j == (j == 0)) = true ∧ (List.range 8).all (fun j => !(one .run).srdoRx j && !(one .run).srdoTx j) = true ∧
    ({ one .standby with md := { mode := .standby, proofRunning := true } } : State).md.proofRunning = true ∧
    srdoed.srdoChan = .b ∧ (sets srdoed [(0x2003, 8, 0)]).srdoChan = .a ∧ (sets srdoed [(0x2003, 8, 0)]).srdoRx 1 = true := by decide +kernel

/-- SecurityAndMonitorEvents: a nonce, a session, each policy, fuses whose copies disagree, an unfused and a fused part in and out of
SERVICE, a held request with and without a commit in flight, a capture at its end. -/
theorem witness_SecurityAndMonitorEvents :
    nonced.sec.nonce ≠ none ∧ (holder false (0, 0, 0, 0)).sec.session ≠ none ∧
    [0, 1, 2].all (fun a => (sets (one .run) [(0x2403, 6, a)]).ob 0x2403 6 == a) = true ∧
    (1 : Nat).testBit 0 = true ∧ (2 : Nat).testBit 1 = true ∧ (3 : Nat) ≠ 0 ∧
    (one .service).sec.field = false ∧ (one .service).md.mode = .service ∧ (one .run).sec.field = false ∧ (one .run).md.mode ≠ .service ∧ fused.sec.field = true ∧ fused.md.mode ≠ .reset ∧
    ({ one .run with obj := { heldReqs := [.read (.canA 0) 0x2000 1 0] } } : State).obj.heldReqs = [.read (.canA 0) 0x2000 1 0] ∧ (one .run).obj.flight = none ∧
    (let s : State := { one .run with caps := [(0, { state := 2, after := 65535, p := 1 })] }; (s.caps.get {} 0).state = 2 ∧ 65536 ≤ (s.caps.get {} 0).after + (s.caps.get {} 0).p) ∧
    (one .run).md.mode ≠ .reset ∧ (5 : Nat) < 6 ∧
    ({ one .run with obj := { heldReqs := [.read (.canA 0) 0x2000 1 0], flight := some { frame := 4, named := 1 } } } : State).commitBound (.read (.canA 0) 0x2000 1 0) = false := by decide +kernel

/-- CorrectedCode: the ends of the codes, with and without a calibration. -/
theorem witness_CorrectedCode :
    (4095 : Nat) ≤ 4095 ∧
    (((one .run).updTile 0 fun ti => { ti with cal := [(4, some (32767, -16, []))] }).tile 0).cal.get none 4 = some (32767, -16, []) ∧
    ((one .run).tile 0).cal.get none 4 = none := by decide +kernel

/-- An entry of converter 1 of 2^k samples with SHIFT sh has its result to write. -/
def resultOf (k sh : Nat) : State :=
  tabled.updTile 0 fun ti => ti.updSeq 1 fun q => { q with done := [⟨3, 2 ^ 29 + 2 ^ 8 * k + 2 ^ 12 * sh, 500, false, false⟩] }

/-- ResultOfAnEntry: one sample with no shift, and 2^k samples with s = k and with s < k. -/
theorem witness_ResultOfAnEntry :
    [(0, 0), (3, 3), (3, 0)].all (fun x => let s := resultOf x.1 x.2; let u := s.tablesNow 0; s.hasTile 0 && match u.resultTime 0 1 with | none => false | some a => match ((((u.reach a).tablesNow 0).tile 0).seq 1).done with | [] => false | d :: _ => field d.word 8 4 == x.1 && field d.word 12 4 == x.2) = true ∧
    ([1, 2, 3, 4, 5, 6, 7, 8].length = 2 ^ 3) ∧ ([4095].length = 2 ^ 0) := by decide +kernel

/-- LaneFrameFields: the largest fields. -/
theorem witness_LaneFrameFields :
    3 < 4 ∧ 63 < 64 ∧ 65535 < 65536 ∧ 15 < 16 := by decide +kernel

/-- AntiWindup: limits that leave room, a sum above, below and between them. -/
theorem witness_AntiWindup :
    Nat.max 1 ({ } : LoopComp).ff = 16384 ∧ 3277 ≤ 52429 ∧ uMin 3277 16384 ≤ uMax 52429 16384 ∧
    (uMax 52429 16384 + 1) * 2 ^ 29 ≤ ({ } : LoopComp).acc [0, 0, 0, 2 ^ 40, 0, 0] 32767 ∧
    ({ } : LoopComp).acc [0, 0, 0, 2 ^ 40, 0, 0] (-32768) < uMin 3277 16384 * 2 ^ 29 ∧
    (let a := ({ u1 := uMin 3277 16384 } : LoopComp).acc [2 ^ 29, 0, 0, 0, 0, 0] 0; uMin 3277 16384 * 2 ^ 29 ≤ a ∧ a < (uMax 52429 16384 + 1) * 2 ^ 29) := by decide +kernel

/-- CarrierHalf: the ends of FREQ, a phase of a loop and one of none. -/
theorem witness_CarrierHalf :
    200 ≤ 200 ∧ 4000 ≤ 4000 ∧
    (looped 2 id).loopOf 0 = some 0 ∧ (looped 2 id).loopOf 9 = none ∧
    (switching.phase 0).zeroSeen = true ∧ (switching.phase 0).move = 0 := by decide +kernel

/-- SampleAndError: the ends of a conversion. -/
theorem witness_SampleAndError :
    4095 ≤ 4095 ∧
    rangeKindOf 0 0 0 0 = 1 ∧ rangeKindOf 4095 4095 4095 4095 = 2 ∧ rangeKindOf 0 0 0 1 = 0 := by decide +kernel

/-- SlewSteps: each side of the target, within and beyond one step. -/
theorem witness_SlewSteps :
    (5 : Nat) ≤ 6 ∧ 6 ≤ 5 + 1 ∧
    (5 : Nat) + 1 < 7 ∧ 5 + 1 < 7 := by decide +kernel

/-- A full slot. -/
def full : Slot := { entries := [0, 1, 2, 3].map (fun i => { code := 1, inst := i, sev := 2, data := [], time := i }) }

/-- ReportSlot: a slot with room, a full one, a repeat. -/
theorem witness_ReportSlot :
    ([] : List Entry).length ≤ 4 ∧
    full.entries.length = 4 ∧ (full.entries.map (fun e => (e.code, e.inst))).Nodup ∧
    (1, 2) ∈ full.entries.map (fun e => (e.code, e.inst)) ∧
    (1, 9) ∉ full.entries.map (fun e => (e.code, e.inst)) := by decide +kernel

/-- ReportsOfASource: a disabled source and an enabled one. -/
theorem witness_ReportsOfASource :
    (sets (one .run) [(0x4510, 4, 0)]).sourceOn 0 118 = false ∧
    (one .run).sourceOn 0 118 = true ∧ 3 ≤ 3 := by decide +kernel

/-- PagePairs: the ends of SEQ, and pairs with each newest copy. -/
theorem witness_PagePairs :
    65535 < 65536 ∧
    ({ a := .whole 0 none, b := .whole 65535 none } : Pair).newestA 20 = some true ∧
    ({ a := .whole 0 none, b := .whole 1 none } : Pair).newestA 20 = some false ∧
    ({ a := .blank, b := .blank } : Pair).newestA 20 = none ∧ ({} : Pair).newestA 20 = some true ∧
    ({ a := .whole 65535 none, b := .torn (List.replicate 64 0) 3 } : Pair).newestA 20 = some true ∧
    ({} : Pair).a.seq < 65536 ∧ ({} : Pair).a.valid 20 = true ∧ (Page.whole 1 none).valid 20 = true ∧ (3 : Nat) ≠ 0 := by decide +kernel

/-- Tallies: a field without a torn page, an increment in progress, alone and with others that wait, a full field in each of its two base
cases, and a recovery of each kind. -/
theorem witness_Tallies :
    ({ bits := 128 } : FieldPage).torn = none ∧ ({ bits := 128 } : FieldPage).programmed = 128 ∧
    [1, 2].all (fun n => let c : Cellar := { busy := some (.tally 3), waiting := [(3, n)] }; c.busy == some (.tally 3) && (c.field 3).torn.isNone && (decide (c.waiting.get 0 3 - 1 = 0) == decide (n = 1))) = true ∧
    ({} : Cellar).busy ≠ some (.foldErase 3) ∧
    (let c : Cellar := { fields := [(3, { bits := 128 })] }; (c.field 3).programmed = 128 ∧ c.busy = none ∧ (c.pair 10).a.seq < 65536 ∧ (c.pair 10).b.seq < 65536 ∧ (c.base 3).1 + 128 < 2 ^ 32) ∧
    (let c : Cellar := { fields := [(3, { bits := 128, g := 65535 })] }; ((c.field 3).gen + 1) % 65536 = (c.base 3).2) ∧
    (let c : Cellar := { fields := [(3, { torn := some (List.replicate 64 0xFF) })] }; (c.field 3).agrees = false) ∧
    (let c : Cellar := {}; (c.field 3).torn = none ∧ (c.field 3).gen = (c.base 3).2 ∧ (c.base 3).2 < 65536) := by decide +kernel

/-- ReactionQueue: an empty, a part-full and a full queue. -/
theorem witness_ReactionQueue :
    (([⟨5, 1⟩, ⟨4, 1⟩, ⟨4, 2⟩, ⟨3, 1⟩] : List Reaction).map (·.sev)).Pairwise (· ≥ ·) ∧
    ([⟨5, 1⟩, ⟨4, 1⟩, ⟨4, 2⟩, ⟨3, 1⟩] : List Reaction).getLast? = some ⟨3, 1⟩ ∧
    ([⟨5, 1⟩] : List Reaction).length < 4 := by decide +kernel

/-- ProtectionClasses: a keyed part before and after PROVISION, with and without a session, and both read policies. -/
theorem witness_ProtectionClasses :
    (holder false (0, 0, 0, 0)).unkeyed = false ∧ (holder false (0, 0, 0, 0)).sec.provision = false ∧
    (holder true (0, 0, 0, 0)).unkeyed = false ∧ (holder true (0, 0, 0, 0)).sec.provision = true ∧
    ((holder true (0x2000, 4, 1, 1)).passWrite .s (.canA 0) 0x2000 4 1 1 (some (tagOf 9 0 0x2000 4 1 1))).2 = none ∧
    ((keyed.passWrite .s (.canA 0) 0x2000 4 1 1 none).2 ≠ none) ∧ (keyed.passRead .s (.canA 0) 0x2000 4).2 ≠ none ∧
    (sets keyed [(0x4480, 3, 1)]).ob 0x4480 3 = 1 ∧ keyed.ob 0x4480 3 ≠ 1 := by decide +kernel

/-- WriteChecks: a write that fails at each check. -/
theorem witness_WriteChecks :
    (one .run).served (.canA 0) = true ∧ (one .run).spiBusy (.canA 0) = false ∧ (one .run).clientBusy (.canA 0) = false ∧ (one .run).mustWait (.write (.canA 0) 0x2000 4 1 1 0) = false ∧
    (resolve 1 0x2FFF).isNone = true ∧
    resolve 1 0x2000 = some (.devMode, 0) ∧ (Fam.row .devMode 0x40).isNone = true ∧
    ((Fam.row .devMode 1).map (·.acc)) = some .ro ∧
    resolve 1 0x4802 = some (.cellarTally, 0) ∧ (Fam.row .cellarTally 9).isSome = true ∧ 8 * 1 < 9 ∧
    pathRefused .safetyStatus 5 = true ∧ pathRefused .devMode 4 = false ∧
    (gateOf keyed (.canA 0) 0x2000 4 1 1 (rowAt .devMode 4)).2 = some 0x08000020 ∧
    admitsB (one .configure) (.canA 0) 0x2000 4 1 2 .devMode 0 = true ∧
    (one .configure).rangeOk .devMode 0 0x2000 4 3 (rowAt .devMode 4) = false ∧
    (one .run).stoppedOk .devMode 0 4 1 = false ∧
    (one .run).refused7 .configSet 0 0x4810 1 1 (rowAt .configSet 1) = true ∧
    (let s : State := { one .configure with sec := { keys := [(0, some 1)], provisionCopies := 7 } }; [Fam.recCfg, .secAlarmPolicy].any (fun f => (List.range 12).any (fun sub => s.lowersPolicy f sub 0)) = true) := by decide +kernel

/-- ShadowValues: a class C write, and a read with a pending value and without one, both ways. -/
theorem witness_ShadowValues :
    admitsB (one .run) (.canA 0) 0x300E 1 1 255 .loopOc 0 = true ∧
    (rowAt .loopOc 1).cls = .c ∧
    shadowed.readShadow (.canA 0) = false ∧ (sets shadowed [(0x2011, 5, 1)]).readShadow (.canA 0) = true ∧
    shadowed.obj.pend.get none (okey 0x3002 1) = some 10 ∧ shadowed.obj.pend.get none (okey 0x300E 1) = none ∧
    shadowed.obj.flight = none := by decide +kernel

/-- SampleSlotFields: the extreme fields. -/
theorem witness_SampleSlotFields :
    (let f : SampleSlot := { (sampleFields 0) with error := -32768, action := 3, pTick := 7 }; -32768 ≤ f.error ∧ f.error ≤ 32767 ∧ f.action < 4 ∧ f.pTick < 8) ∧ (let f : SampleSlot := { (sampleFields 0) with error := 32767 }; f.error ≤ 32767) := by decide +kernel

/-- StepTakesFront: an empty queue with device time running and standing. -/
theorem witness_StepTakesFront :
    (one .run).pending = [] ∧ (one .run).clk.running = true ∧
    State.reset.pending = [] ∧ State.reset.clk.running = false := by decide +kernel

/-- EveryCommandKeeps: a part with both fuses blown; a command that breaks no order of the fuses. -/
theorem witness_EveryCommandKeeps :
    fused.sec.provision = true ∧ fused.sec.field = true ∧
    ([Instr.frameBoundary, .securityAlarm 0 1].all (fun c => match c with | .securityAlarm 3 _ => false | _ => true)) = true := by decide +kernel

/-- LaneCrc: the ends of a CRC. -/
theorem witness_LaneCrc :
    (0 : Nat) < 256 ∧ 255 < 256 := by decide +kernel

/-! ### Single steps with the outcome that the manual gives -/

/-- The next state of a command. -/
def nextOf (i : Instr) (s : State) : State :=
  match exec i s with
  | .next t => t
  | _ => s

/-- The example of R160: at 1,200 kHz with d = 3,932 the rising edge is frozen at clock 184 of the period, for
6,656 − 399 = 6,257 fine ticks after the carrier zero. -/
theorem test_rising_edge :
    let s := phased ((sets (one .run) [(0x3000, 1, 1), (0x3000, 2, 3), (0x3003, 1, 1200)]).updLoop 0 (fun lp =>
      { lp with state := 2, cp := { lp.cp with duty := 3932, duty1 := 3932, duty2 := 3932, dutyAt := 500 } }))
      (fun p => { p with on := true, zeroSeen := true, zeroAt := 4096, cfg := { p.cfg with loaded := true, half := 208 } })
    ((nextOf (.edgeDecision 0) s).phase 0).ed.rise = some 6257 ∧ (nextOf (.edgeDecision 0) s).now = 4096 + 184 := by
  decide +kernel

/-- The preview of the example after R236: 3,408 of 2⁻¹⁶ duty. -/
theorem test_preview_step :
    (sets (looped 2 id) [(0x300B, 3, 200), (0x300B, 6, 2908), (0x300B, 9, 0x1999)]).previewStep 0 ⟨1, 15, 10⟩ = 3408 := by
  decide +kernel

/-- R237: LIMIT 600 with the default ZERO and GAIN is 1,100 mV, code 704 of 1.5625 mV. -/
theorem test_oc_threshold : (sets (one .run) [(0x3403, 1, 600)]).ocCode 0 = 704 := by decide +kernel

/-- R93, R140: a target of the dictionary waits for the loop sample, and is refused outside the limits. -/
theorem test_target :
    ((nextOf (.target (.canA 0) 0 3200) (sets (looped 2 id) [(0x3007, 4, 3200)])).loop 0).tg.waiting = [⟨3200, .dict (some (.canA 0))⟩] ∧
    (nextOf (.target (.canA 0) 0 3201) (sets (looped 2 id) [(0x3007, 4, 3200)])).obj.respA.get .none 0 = .abort 0x06090030 := by decide +kernel

/-- R104: a START edge begins the pre-start checks; R91: a request for RUN from CONFIGURE is refused. -/
theorem test_start : (nextOf .startRisingEdge (one .standby)).md.starting = some .startEdge ∧
    (nextOf (.requestRun (.canA 0)) (one .configure)).md.reqResult = 1 := by decide +kernel

/-- R240: a latched-off loop is cleared by 0x5A. -/
theorem test_latch_clear : ((nextOf (.latchClear (.canA 0) 0 0x5A) (looped 6 id)).loop 0).state = 0 := by decide +kernel

/-- R451: SAFE_IN# low in RUN is HOLD, and the loop is in its severity-5 safe state. -/
theorem test_safe_in :
    (nextOf .safeInLow (looped 2 id)).md.mode = .hold ∧ ((nextOf .safeInLow (looped 2 id)).loop 0).pr.safeSev = 5 := by
  decide +kernel

/-- R262, R264: SET_TARGET on the lane is acknowledged; the same SEQ again is a duplicate. -/
theorem test_lane_target :
    ((nextOf (.setTarget 0 0 5 3200) (sets (looped 2 id) [(0x3000, 8, 1), (0x3007, 4, 3200)])).lane 0).response = some (responseFrame 0 0 3200) ∧
    ((nextOf (.poll 0 (some (requestFrame 0 1 3200 5)) false) (nextOf (.setTarget 0 0 5 3200) (sets (looped 2 id) [(0x3000, 8, 1), (0x3007, 4, 3200)]))).lane 0).dups = 1 := by
  decide +kernel

/-- R424: an increment programs one bit; the counter of the tally is one higher. -/
theorem test_tally :
    let s := (one .run).updCellar 0 (fun c => { c with busy := some (.tally 3), waiting := [(3, 1)] })
    ((nextOf (.tallyBitProgrammed 0) s).cellar 0).tallyValue 3 = 1 := by decide +kernel

/-- R68, R101: after a power-up of the largest part the mode is CONFIGURE and device time runs. -/
theorem test_power_up : (nextOf (.powerUp up) State.reset).md.mode = .configure ∧
    (nextOf (.powerUp up) State.reset).clk.running = true := by decide +kernel

/-- R25: what comes due on a tile whose processor is recovering waits; R27: the third expiry within one second fails the tile. -/
theorem test_third_expiry :
    let s := (two .run).updTile 1 fun ti => { ti with wdTimes := [9, 8] }
    ((nextOf (.watchdogExpiry 1) s).tile 1).state = 2 ∧ ((nextOf (.watchdogExpiry 1) (two .run)).tile 1).state = 1 := by
  decide +kernel

/-- R282: the bytes of a frame slot stand in the order of the table: VIN at bytes 45 and 46, the die temperature at 59. -/
theorem test_frame_fields :
    (frameFields (bytesLE 8 4096 ++ List.replicate 37 0 ++ [0xE0, 0x2E] ++ List.replicate 12 0 ++ [99])).vin = 12000 ∧
    (frameFields (bytesLE 8 4096 ++ List.replicate 37 0 ++ [0xE0, 0x2E] ++ List.replicate 12 0 ++ [99])).dieTemp = 35 := by
  decide +kernel

/-- R279: the zero slot has a valid CRC. -/
theorem test_zero_slot : sampleCrcOk 0 = true ∧ (sampleFields 0).error = 0 := by decide +kernel

end Sys2Proof.Tests
end

section
/-! What every command keeps (R1, R475), and the part right after reset (R91, R94, R101, R112). -/

namespace Sys2Proof.Machine

/-! ### The alarm of source 3: copies of a fuse disagree (R475, R476) -/

/-- A fuse one of whose copies changes counts as blown afterwards. -/
theorem flipCopy_ne_zero (n : Nat) : flipCopy n ≠ 0 := by
  unfold flipCopy
  repeat' split
  all_goals omega

/-- An alarm that does not report FIELD in disagreement where PROVISION is not either makes a copy of PROVISION read blown
or leaves both fuses. -/
theorem State.fuseDisagrees_keeps (s : State) {fuses : Nat} (h : ¬ breaksFuseOrder (.securityAlarm 3 fuses)) :
    s.Keeps (s.fuseDisagrees fuses) := by
  obtain ⟨hpart, hpending, hprovision, hfield⟩ := s.fuseDisagrees_blown fuses
  refine ⟨hpart, hpending, hprovision, hfield, fun horder hf => ?_⟩
  by_cases h1 : fuses.testBit 1 = true
  · simpa [State.fuseDisagrees, SecGrp.provision, h1] using flipCopy_ne_zero s.sec.provisionCopies
  · have h0 : ¬ fuses.testBit 0 = true := fun h0 => h ⟨fuses, rfl, h0, by simpa using h1⟩
    have hs : s.sec.field = true := by simpa [State.fuseDisagrees, SecGrp.field, h0] using hf
    exact hprovision (horder hs)

/-- What SECURITY_ALARM can do to part, queue and fuses: nothing, or with source 3 what the copies found in disagreement do. -/
theorem exec_securityAlarm_fixed (s : State) (src fuses : Nat) :
    ∃ t, exec (.securityAlarm src fuses) s = .next t ∧
      (t.fixed = s.fixed ∨ src = 3 ∧ t.fixed = (s.fuseDisagrees fuses).fixed) := by
  refine ⟨_, rfl, ?_⟩
  split
  · next hsrc =>
    split
    · exact .inl rfl
    · exact .inr ⟨hsrc, State.alarm_fixed ..⟩
  · split
    · exact .inl (State.alarm_fixed ..)
    · exact .inl rfl

/-! ### Every other command -/

/-- Every command but a SECURITY_ALARM answers a next state and keeps part, queue, fuses and their order: the requests of
the dictionary and the frames that carry them by the lemmas about requests, the rest because they do not touch them. -/
theorem exec_keeps_of_ne_securityAlarm (c : Instr) (s : State) (h : ∀ src fuses, c ≠ .securityAlarm src fuses) :
    ∃ t, exec c s = .next t ∧ s.Keeps t := by
  cases c with
  | securityAlarm src fuses => exact absurd rfl (h src fuses)
  | commit | discard | target | phaseManual | trimLearnStart | trimLearnAbort | latchClear | alertClear | calibrationStart
  | seqFirstFailClear | view | position | recClear | faultAck | firstClear | storeRequest | configSave | configActive
  | configRestore | safeStateClear | srdoValid | proofTest | openSession | closeSession | sessionProof | sessionTag | keyWrite
  | rekey | errorHistoryClear | histogramClear | armCapture | disarmCapture => exact ⟨_, rfl, State.writeAt_keeps ..⟩
  | requestConfigure | requestStandby | requestStop | requestRun | holdClear | serviceEnter =>
    exact ⟨_, rfl, State.write_keeps ..⟩
  | blowProvision | blowField => exact ⟨_, rfl, State.fuseWrite_keeps ..⟩
  | objectWrite => exact ⟨_, rfl, State.writePart_keeps ..⟩
  | recorderRead => exact ⟨_, rfl, State.readPart_keeps ..⟩
  | peakRead => exact ⟨_, rfl, State.request_keeps ..⟩
  | heldRequestServed => exact ⟨_, rfl, State.serveHeld_keeps ..⟩
  | spiRead => exact ⟨_, rfl, State.spiRead_keeps ..⟩
  | spiWrite => exact ⟨_, rfl, State.spiWrite_keeps ..⟩
  | frameBoundary => exact ⟨_, rfl, State.frameBoundary_keeps ..⟩
  | loopSample => exact ⟨_, rfl, State.oneSample_keeps ..⟩
  | rpdoReceived => exact ⟨_, rfl, State.onFrame_keeps _ _ _ _ (State.receiveRpdo_keeps ..)⟩
  | startRemoteNode | stopRemoteNode | enterPreOperational | resetCommunication | resetNode | syncMessage | timeMessage
  | srdoReceived => exact ⟨_, rfl, State.onFrame_keeps _ _ _ _ (.of_fixed (by simp))⟩
  | _ => exact ⟨_, rfl, .of_fixed (by simp [fixed_ite])⟩

/-! ### The obligations -/

/-- Settles O4: SECURITY_ALARM by what its disagreeing copies do, every other command because it keeps all of it. -/
theorem everyCommandKeeps : Obligations.EveryCommandKeeps := by
  intro c s
  have all {t : State} (k : s.Keeps t) : t.part = s.part ∧ t.pending = s.pending ∧
      (s.sec.provision = true → t.sec.provision = true) ∧ (s.sec.field = true → t.sec.field = true) ∧
      (¬ breaksFuseOrder c → s.Keeps t) := ⟨k.part, k.pending, k.provision, k.field, fun _ => k⟩
  by_cases hc : ∃ src fuses, c = .securityAlarm src fuses
  · obtain ⟨src, fuses, rfl⟩ := hc
    obtain ⟨t, ht, hs | ⟨rfl, hu⟩⟩ := exec_securityAlarm_fixed s src fuses
    · exact ⟨t, ht, all (.of_fixed hs)⟩
    · obtain ⟨hpart, hpending, hprovision, hfield⟩ := s.fuseDisagrees_blown fuses
      have ku : (s.fuseDisagrees fuses).Keeps t := .of_fixed hu
      exact ⟨t, ht, ku.part.trans hpart, ku.pending.trans hpending, ku.provision ∘ hprovision, ku.field ∘ hfield,
        fun hb => (s.fuseDisagrees_keeps hb).trans ku⟩
  · obtain ⟨t, ht, k⟩ := exec_keeps_of_ne_securityAlarm c s fun src fuses h => hc ⟨src, fuses, h⟩
    exact ⟨t, ht, all k⟩

/-! ### The part right after reset -/

/-- In mode RESET no dictionary channel is served (R91, R488). -/
theorem State.served_of_reset {s : State} (h : s.md.mode = .reset) (ch : Chan) : s.served ch = false := by
  simp [State.served, h]

/-- In mode RESET every ENj is low (R94). -/
theorem State.enBall_of_reset {s : State} (h : s.md.mode = .reset) (n : Nat) : s.enBall n = some false := by
  simp [State.enBall, h]

/-- In mode RESET no lane has a clock (R49, R94). -/
theorem State.lckRuns_of_reset {s : State} (h : s.md.mode = .reset) (t : Nat) : s.lckRuns t = false := by
  simp [State.lckRuns, h]

/-- In mode RESET, unless RESET# holds the balls by EXTEST, both balls of every phase are at high impedance (R44, R94). -/
theorem State.balls_of_reset {s : State} (h : s.md.mode = .reset) (hc : s.md.lastCause ≠ 1) (p : Nat) :
    s.balls p = (none, none) := by
  have hsrc : s.ballSource p = .unloaded := by simp [State.ballSource, h, hc]
  simp [State.balls, hsrc]

/-- In mode RESET SAFE_OUT# and TRELLIS# are low and RESET_OUT is high (R94, R101). -/
theorem State.levels_of_reset {s : State} (h : s.md.mode = .reset) :
    s.safeOutLow = true ∧ s.resetOutHigh = true ∧ s.trellisLow = true := by
  simp [State.safeOutLow, State.resetOutHigh, State.trellisLow, h]

/-- With no active value written, an object has its default (R112). -/
theorem State.ob_of_act_nil {s : State} (h : s.obj.act = []) (idx sub : Nat) : s.ob idx sub = dfltKey s.T (okey idx sub) := by
  simp [State.ob, ObjGrp.val, h]

/-- Settles O2: the levels and channels because the mode is RESET, the rest as the fields of the state stand. -/
theorem resetState : Obligations.ResetState := by
  have hm : State.reset.md.mode = .reset := rfl
  obtain ⟨hsafe, hout, htrellis⟩ := State.levels_of_reset hm
  exact ⟨hm, rfl, rfl, rfl, rfl, rfl, rfl, rfl, rfl, hsafe, hout, htrellis, fun _ => rfl,
    fun p => ⟨rfl, State.balls_of_reset hm (by decide) p⟩, fun n => ⟨rfl, State.enBall_of_reset hm n⟩,
    State.lckRuns_of_reset hm, State.ob_of_act_nil rfl, State.served_of_reset hm⟩

end Sys2Proof.Machine
end

section
/-! The reference clock, the watchdog and recovery (R25, R27, R64 to R67, R87). -/

namespace Sys2Proof.Machine

/-- A tile that runs is on the part. -/
theorem State.hasTile_of_tileRuns {s : State} {t : Nat} (h : s.tileRuns t = true) : s.hasTile t = true := by
  simp only [State.tileRuns, Bool.and_eq_true] at h
  exact h.1.1

/-- A reference-clock fault of a running tile; `s1` is the state with holdover and what the kind of fault says of the
reference and the PLL (R64 to R66). -/
theorem State.refFault_of_runs {s s1 : State} {t kind : Nat} (hrun : s.tileRuns t = true)
    (h1 : s1 = { s with clk := { s.clk with
      holdover := setBit s.clk.holdover t, refLossCount := satAdd 16 s.clk.refLossCount 1
      refPresent := if kind = 1 then clrBit s.clk.refPresent t else s.clk.refPresent
      pllLocked := if kind = 2 then clrBit s.clk.pllLocked t else s.clk.pllLocked } }) :
    s.refFault t kind = ((s1.report t srcClock 0x0101 5 t [kind]).dangerous
      ((s1.report t srcClock 0x0101 5 t [kind]).loopsOn t) t 0x0101 t true).markResetOnly := by
  subst h1
  simp [State.refFault, hrun]

/-- A count of REFCLK is bad from the first integer beyond 10 % of 195,312.5 on, either way (R64). -/
theorem frequencyBad_iff (count : Nat) : frequencyBad count = true ↔ count ≤ 175781 ∨ 214844 ≤ count := by
  simp only [frequencyBad, Bool.or_eq_true, decide_eq_true_eq]
  omega

/-- A bad count on another tile than tile 0 is a reference-clock fault of kind 3 (R64). -/
theorem State.frequencyCheck_of_bad {s : State} {t count : Nat} (hrun : s.tileRuns t = true)
    (hslow : bit s.clk.slowOk t = true) (ht : t ≠ 0) (hbad : frequencyBad count = true) :
    s.frequencyCheck t count = s.refFault t 3 := by
  simp [State.frequencyCheck, hrun, hslow, ht, hbad]

/-- A good count sets REF_DEVIATION on tile 0 and changes nothing on another tile (R64, R87). -/
theorem State.frequencyCheck_of_good {s : State} {t count : Nat} (hrun : s.tileRuns t = true)
    (hslow : bit s.clk.slowOk t = true) (hgood : ¬ frequencyBad count = true) :
    s.frequencyCheck t count = if t = 0 then
      { s with clk := { s.clk with refDeviation := clampI (deviationOf count) (-32768) 32767 } } else s := by
  simp [State.frequencyCheck, hrun, hslow, hgood]

/-- A SLOW that runs and stops (R67). -/
theorem State.slowStops_of_runs {s : State} {t : Nat} (hrun : s.tileRuns t = true) (hslow : bit s.clk.slowOk t = true) :
    s.slowStops t =
      ({ s with clk := { s.clk with slowOk := clrBit s.clk.slowOk t } } : State).report t srcClock 0x0102 3 t [] := by
  simp [State.slowStops, hrun, hslow]

/-- An expiry outside the proof test: recovery and its record, and the failure of the tile at the third within one second
(R25, R27). -/
theorem State.watchdog_of_runs {s s1 : State} {t : Nat} (hrun : s.tileRuns t = true)
    (hhalt : (s.tile t).procHalted = false) (hproof : s.md.proofRunning = false)
    (h1 : s1 = (s.updTile t (fun ti =>
      { ti with state := 1, wdCount := satAdd 32 ti.wdCount 1, wdTimes := s.recentExpiries t })).report t srcProc 0x0201 3 t
        [Nat.min (s.recentExpiries t).length 255]) :
    s.watchdog t = if 3 ≤ (s.recentExpiries t).length then s1.failTile t 3 else s1 := by
  subst h1
  simp [State.watchdog, hrun, hhalt, hproof]

/-- The recovery of a recovering processor (R25, R389). -/
theorem State.recovered_of_recovering {s : State} {t : Nat} (htile : s.hasTile t = true) (hst : (s.tile t).state = 1) :
    s.recovered t = ((s.railList.filter (fun n => s.railTile n == t)).foldl State.takeWaiting
      ((s.tile t).waiting.foldl State.deferred (s.updTile t (fun ti => { ti with state := 0, waiting := [] })))).progress := by
  simp [State.recovered, htile, hst]

/-- Settles O29, by what each operation does on a tile that runs. -/
theorem clockCommands : Obligations.ClockCommands := by
  intro s s1 t kind count hrun
  refine ⟨fun _ h1 => ?missingEdge, fun _ h1 => ?unlock, fun ht hslow hbad h1 => ?badCount, fun hslow hlo hhi => ?goodCount,
    fun _ => (frequencyBad_iff count).mpr, fun hslow => congrArg Host.Outcome.next (State.slowStops_of_runs hrun hslow),
    fun hhalt hproof hfew => ?expiry, fun hhalt hproof hthree => ?thirdExpiry,
    fun hst => congrArg Host.Outcome.next (State.recovered_of_recovering (State.hasTile_of_tileRuns hrun) hst)⟩
  case missingEdge => exact congrArg Host.Outcome.next (State.refFault_of_runs (kind := 1) hrun h1)
  case unlock => exact congrArg Host.Outcome.next (State.refFault_of_runs (kind := 2) hrun h1)
  case badCount =>
    exact congrArg Host.Outcome.next ((State.frequencyCheck_of_bad hrun hslow ht hbad).trans (State.refFault_of_runs hrun h1))
  case goodCount =>
    have hgood : ¬ frequencyBad count = true := by
      rw [frequencyBad_iff]
      omega
    exact congrArg Host.Outcome.next (State.frequencyCheck_of_good hrun hslow hgood)
  case expiry =>
    have hmin : Nat.min (s.recentExpiries t).length 255 = (s.recentExpiries t).length := Nat.min_eq_left (by omega)
    have h := State.watchdog_of_runs hrun hhalt hproof rfl
    rw [if_neg (by omega), hmin] at h
    exact congrArg Host.Outcome.next h
  case thirdExpiry =>
    exact congrArg Host.Outcome.next ((State.watchdog_of_runs hrun hhalt hproof rfl).trans (if_pos hthree))

end Sys2Proof.Machine
end

section
/-! What recurs with device time: frame boundaries and loop samples (R13, R68, R69, R72, R121); SYNC_IN and TIME (R71, R295). -/

namespace Sys2Proof.Machine

/-- The end of the period that `now` lies in is a multiple of the period, at most one period away. -/
theorem periodEnd_bounds (now : Nat) {q : Nat} (hq : 0 < q) :
    (now / q + 1) * q % q = 0 ∧ now ≤ (now / q + 1) * q ∧ (now / q + 1) * q ≤ now + q := by
  have hle := Nat.div_mul_le_self now q
  have hlt := Nat.lt_div_mul_add (a := now) hq
  rw [Nat.add_mul, Nat.one_mul]
  exact ⟨by simp, by omega, by omega⟩

/-- The next frame boundary is a multiple of 2,048 ticks, from now on and at most 2,048 away (R13). -/
theorem State.nextFrame_bounds (s : State) :
    s.nextFrame % ticksPerFrame = 0 ∧ s.now ≤ s.nextFrame ∧ s.nextFrame ≤ s.now + ticksPerFrame := by
  unfold State.nextFrame
  split
  · next h => exact ⟨h.1, Nat.le_refl _, Nat.le_add_right ..⟩
  · exact periodEnd_bounds _ (by decide)

/-- The next loop sample is a multiple of 8 ticks, from now on and at most 8 away (R13). -/
theorem State.nextSample_bounds (s : State) :
    s.nextSample % ticksPerSample = 0 ∧ s.now ≤ s.nextSample ∧ s.nextSample ≤ s.now + ticksPerSample := by
  unfold State.nextSample
  split
  · next h => exact ⟨h.1, Nat.le_refl _, Nat.le_add_right ..⟩
  · exact periodEnd_bounds _ (by decide)

/-- The work of a frame boundary is done no earlier than at the boundary (R72). -/
theorem State.nextFrame_le_frameWork (s : State) : s.nextFrame ≤ s.frameWork.now := by
  have hend (x : State) (ls : List Nat) : s.nextFrame ≤ x.now → s.nextFrame ≤ (ls.foldl State.loopFrameEnd x).now :=
    later_foldl _ (fun _ _ h => by simp [h]) _ _
  have hstart (x : State) (ls : List Nat) : s.nextFrame ≤ x.now → s.nextFrame ≤ (ls.foldl State.loopFrameStart x).now :=
    later_foldl _ (fun _ _ h => State.loopFrameStart_later _ _ h) _ _
  simp [State.frameWork, hend, hstart]

/-- A sample, from the state `s1` at the sample's time on: the waiting targets, the enabled loops, the capture units
(R121, R140). -/
theorem State.oneSample_of_running {s s1 : State} (cs : List Conv) (hrun : s.clk.running = true)
    (h1 : s1 = { s.boundaryFirst with clk := { s.boundaryFirst.clk with
      time := s.nextSample, sampleDone := s.nextSample / ticksPerSample } }) :
    ∃ x y, x = s1.loopList.foldl State.acceptWaiting s1 ∧
      y = (x.loopList.filter x.enabled).foldl
        (fun y l => (y.sampleLoop cs (s.nextSample / ticksPerSample) l).returnLoop l) x ∧
      s.oneSample cs = y.tileList.foldl State.captureSample y ∧
      s.nextSample ≤ (y.tileList.foldl State.captureSample y).now := by
  refine ⟨_, _, rfl, rfl, ?_, ?_⟩
  · subst h1
    simp [State.oneSample, hrun]
  · have htime : s.nextSample ≤ s1.now := by rw [h1, now_mk]
    have htargets := later_foldl State.acceptWaiting (fun _ _ h => by simpa using h) s1.loopList _ htime
    exact later_foldl _ (fun _ _ h => by simpa using h) _ _ (later_foldl _ (fun _ _ h => by simp [h]) _ _ htargets)

/-- The frame boundary at the instant of the next sample comes first (R13, R69). -/
theorem State.boundaryFirst_of_both {s : State} (hmod : s.nextSample % ticksPerFrame = 0)
    (hdone : s.clk.frameDone < s.nextSample / ticksPerFrame) : s.boundaryFirst = s.frameBoundary :=
  if_pos ⟨hmod, hdone⟩

/-- An edge that the mode and the selection let through and that finds no deviation only changes the clock group (R295). -/
theorem State.syncIn_of_selected {s : State} {c : ClkGrp} (hmode : s.md.mode ≠ .reset)
    (hsel : s.ob 0x2100 1 = 2 ∨ s.ob 0x2100 1 = 3)
    (hedge : s.clk.syncEdge ((s.now : Int) - 2 - s.obI 16 0x2102 2).toNat = (c, none)) : s.syncIn = { s with clk := c } := by
  simp [State.syncIn, hmode, hsel, hedge]

/-- The first edge only has its instant kept (R295). -/
theorem ClkGrp.syncEdge_first {c : ClkGrp} (e : Nat) (h : c.syncLastEdge = none) :
    c.syncEdge e = ({ c with syncLastEdge := some e }, none) := by
  simp [ClkGrp.syncEdge, h]

/-- The second edge, `d` after the first, sets interval, origin and grid (R295). -/
theorem ClkGrp.syncEdge_second {c : ClkGrp} {p d : Nat} (h : c.syncLastEdge = some p) (hgrid : c.syncGrid = none)
    (hd : 0 < d) :
    c.syncEdge (p + d) = ({ c with
      syncLastEdge := some (p + d), syncInterval := fitN 16 (d : Nat), syncOrigin := fitN 16 ((p + d) % d : Nat)
      syncGrid := some (p + d, d), syncState := 1, syncOff := 0 }, none) := by
  simp [ClkGrp.syncEdge, h, hgrid, hd.ne']

/-- A frame that its channel does not ignore is taken (R486). -/
theorem State.onFrame_of_heard (s : State) {c : CanChan} {f : CanFormat} (g : State → State) (h : c = .b → f ≠ .fd) :
    s.onFrame c f g = g s :=
  if_neg fun hb => h hb.1 hb.2

/-- Settles O30: the bounds of the next instants, and what each operation does under its conditions. -/
theorem periodicCommands : Obligations.PeriodicCommands := by
  intro s s1 cs ch f v
  refine ⟨fun hrun => ?boundary, fun hrun h1 => ?sample, fun hrun hmod hdone => ?both, fun hstop => ?stopped,
    fun hmode hsel hlast => ?firstEdge, fun p e d hmode hsel hlast hgrid he hd hpos => ?secondEdge,
    fun hheard hformat hsel => ?time⟩
  case boundary =>
    obtain ⟨hmod, hlo, hhi⟩ := s.nextFrame_bounds
    exact ⟨_, congrArg Host.Outcome.next (if_pos hrun), rfl, hmod, hlo, hhi, State.netFrame_later _ s.nextFrame_le_frameWork⟩
  case sample =>
    obtain ⟨hmod, hlo, hhi⟩ := s.nextSample_bounds
    obtain ⟨x, y, hx, hy, hs, hnow⟩ := State.oneSample_of_running cs hrun h1
    exact ⟨x, y, _, congrArg Host.Outcome.next hs, hx, hy, rfl, hmod, hlo, hhi, hnow⟩
  case both => exact congrArg Host.Outcome.next (State.boundaryFirst_of_both hmod hdone).symm
  case stopped =>
    exact ⟨congrArg Host.Outcome.next (if_neg (by simp [hstop])), congrArg Host.Outcome.next (if_pos hstop)⟩
  case firstEdge => exact congrArg Host.Outcome.next (State.syncIn_of_selected hmode hsel (ClkGrp.syncEdge_first _ hlast))
  case secondEdge =>
    subst hd
    exact congrArg Host.Outcome.next
      (State.syncIn_of_selected hmode hsel (he.symm ▸ ClkGrp.syncEdge_second hlast hgrid hpos))
  case time =>
    have hlatch : s.timeRx ch v = { s with clk := { s.clk with timeRx := v, timeRxAt := s.now } } :=
      if_pos (Bool.and_eq_true_iff.mpr ⟨hheard, hsel⟩)
    exact congrArg Host.Outcome.next ((s.onFrame_of_heard _ hformat).trans hlatch)

end Sys2Proof.Machine
end

section
/-! Rails that go off, discharge and outcomes that wait for a processor (R25, R362 to R364, R367). -/

namespace Sys2Proof.Machine

/-- A rail whose time to go off has come (R362, R363, R367); the phases of a loop rail go off one PWM clock later (R225). -/
theorem State.turnOff_of_due {s : State} {n d st : Nat} (hdue : s.offDue n = some (d, st)) :
    s.turnOff n = if s.offNextClock n then (((s.reach d).railOff n st).dischargeAtOnce n).reach (d + 1)
      else ((s.reach d).railOff n st).dischargeAtOnce n := by
  simp [State.turnOff, hdue]

/-- A rail that is off counts as discharged once its discharge condition holds (R364). -/
theorem State.dischargedNow_of_cond {s : State} {n : Nat} (hoff : (s.rail n).on = false)
    (hnot : (s.rail n).discharged = false) (hcond : s.dischargeCond n = true) :
    s.dischargedNow n = (s.updRail n (fun r => { r with dischargedAt := s.now })).dischargeDone n := by
  simp [State.dischargedNow, hoff, hnot, hcond]

/-- A rail not discharged in time is recorded and taken as discharged (R364). -/
theorem State.dischargeTimesOut_of_charged {s : State} {n : Nat} (hoff : (s.rail n).on = false)
    (hnot : (s.rail n).discharged = false) :
    s.dischargeTimesOut n = (((s.reach (s.rail n).dischargeEnd).railReport n 0x0907 2 []).updRail n (fun r =>
      { r with lastCause := 8 })).dischargeDone n := by
  simp [State.dischargeTimesOut, hoff, hnot]

/-- The retries of a rail that is declared good and still good are cleared (R362). -/
theorem State.clearRetries_of_good {s : State} {n : Nat} (hdecl : (s.rail n).declared = true) (hgood : (s.rail n).good = true) :
    s.clearRetries n = (s.reach ((s.rail n).okSince + 500000000)).updRail n (fun r => { r with retries := 0 }) :=
  if_pos ⟨hdecl, hgood⟩

/-- An outcome that comes due while the processor of its tile recovers waits behind those that wait already; only the settle
count, which is hardware's, ends in time (R25, R370). -/
theorem State.railDue_of_recovering {s : State} {n : Nat} (i : Instr) (hrail : s.hasRail n = true)
    (hseq : s.sequenced n = true) (hact : s.seqActive = true) (hst : (s.tile (s.railTile n)).state = 1) :
    s.railDue n i = (if i = .railDeclaredGood n then s.settleDone n else s).updTile (s.railTile n) (fun ti =>
      { ti with waiting := ti.waiting ++ [.outcome i] }) := by
  simp [State.railDue, hrail, hseq, hact, hst]

/-- An external rail has no loop (R6). -/
theorem railLoop_of_lt {n : Nat} (h : n < 128) : railLoop n = none := if_neg (by omega)

/-- An external rail is discharged as it goes off exactly where GOOD_SOURCE is 0 (R364). -/
theorem State.emptyAtOnce_of_lt (s : State) {n : Nat} (h : n < 128) : s.emptyAtOnce n = (s.rr n 0 5 % 4 == 0) := by
  simp [State.emptyAtOnce, railLoop_of_lt h]

/-- What an external rail that is on loses as it goes off (R347, R364). -/
theorem State.railOff_of_lt {s : State} {n : Nat} (st : Nat) (hn : n < 128) (hon : (s.rail n).on = true) :
    s.railOff n st = s.updRail n (fun r =>
      { r with
        on := false, offAt := s.now, declared := false, settling := false, settled := false, good := false
        discharged := s.rr n 0 5 % 4 == 0
        dischargedAt := if s.rr n 0 5 % 4 = 0 then s.now else r.dischargedAt
        dischargeEnd := s.railEnd n s.now (s.rr n 1 6)
        status := st, dropEnds := [], dropDue := 0, badEnd := none, filtering := false }) := by
  simp [State.railOff, hon, railLoop_of_lt hn, s.emptyAtOnce_of_lt hn]

/-- Settles O36: a live rail's outcomes by what each operation does, a recovering tile's by what waits. -/
theorem railsDown : Obligations.RailsDown := by
  intro s n d st i
  refine ⟨fun hlive hdue => ?turnOff, fun hlive hoff hnot hcond => ?discharged, fun hlive hoff hnot => ?timeout,
    fun hdecl hgood => congrArg Host.Outcome.next (State.clearRetries_of_good hdecl hgood),
    fun hrail hseq hact hst => ?recovering, fun hn hon => State.railOff_of_lt st hn hon⟩
  case turnOff =>
    have h := (rail_due hlive (.railTurnOff n)).trans (State.turnOff_of_due hdue)
    exact ⟨fun hnow => congrArg Host.Outcome.next (h.trans (if_neg (Bool.eq_false_iff.mp hnow))),
      fun hlater => congrArg Host.Outcome.next (h.trans (if_pos hlater))⟩
  case discharged =>
    exact congrArg Host.Outcome.next
      ((rail_due hlive (.railDischarged n)).trans (State.dischargedNow_of_cond hoff hnot hcond))
  case timeout =>
    exact congrArg Host.Outcome.next
      ((rail_due hlive (.dischargeTimeout n)).trans (State.dischargeTimesOut_of_charged hoff hnot))
  case recovering =>
    have wait (j : Instr) := State.railDue_of_recovering j hrail hseq hact hst
    refine ⟨?outcomes, congrArg Host.Outcome.next ((wait (.railDeclaredGood n)).trans (by rw [if_pos rfl])), if_pos hst⟩
    rintro (rfl | rfl | rfl | rfl | rfl | rfl) <;> exact congrArg Host.Outcome.next ((wait _).trans (by rw [if_neg (by simp)]))

end Sys2Proof.Machine
end

section
/-! Bandgap, SRAM, SRDO and proof-test events (R29, R30, R449, R450, R453, R454, R457, R464, R486, R501). -/

namespace Sys2Proof.Machine

/-! ### Bandgap and SRAM -/

/-- A difference that is in range, or that belongs to a fault already begun, only leaves its marks (R449). -/
theorem State.bandgap_of_quiet {s : State} {t diff : Nat} (htile : s.hasTile t = true) (hmode : s.md.mode ≠ .reset)
    (hquiet : diff ≤ 150 ∨ (s.tile t).bandFault = true) :
    s.bandgap t diff = ({ s with diag := { s.diag with bandgap := Nat.max s.diag.bandgap diff } } : State).updTile t
      (fun ti => { ti with bandFault := decide (150 < diff) }) := by
  simp [State.bandgap, htile, hmode, hquiet]

/-- A drift that begins is a fault of severity 5 of the tile's loops; `s1` is the state with its marks (R449). -/
theorem State.bandgap_of_begins {s s1 : State} {t diff : Nat} (htile : s.hasTile t = true) (hmode : s.md.mode ≠ .reset)
    (hdiff : 150 < diff) (hnew : (s.tile t).bandFault = false)
    (h1 : s1 = ({ s with diag := { s.diag with bandgap := Nat.max s.diag.bandgap diff } } : State).updTile t
      (fun ti => { ti with bandFault := true })) :
    s.bandgap t diff = (s1.report t srcTelem 0x0803 5 t [0]).dangerous ((s1.report t srcTelem 0x0803 5 t [0]).loopsOn t) t
      0x0803 t false := by
  subst h1
  simp [State.bandgap, htile, hmode, hdiff, hnew]

/-- A corrected SRAM error counts and is recorded (R30). -/
theorem State.sramCorrected_of_tile {s : State} {t : Nat} (a : SramArea) (addr : Nat) (htile : s.hasTile t = true)
    (hmode : s.md.mode ≠ .reset) :
    s.sramCorrected t a addr =
      ({ s with diag := { s.diag with corrected := satAdd 32 s.diag.corrected 1 } } : State).report t srcSram 0x0209 1 t
        (areaCode a :: bytesLE 3 addr) := by
  simp [State.sramCorrected, htile, hmode, sramData]

/-- A double-bit error counts and is recorded, and then the reaction of its area follows (R30, R450). -/
theorem State.sramDetected_of_tile {s : State} {t : Nat} (a : SramArea) (addr : Nat) (htile : s.hasTile t = true)
    (hmode : s.md.mode ≠ .reset) :
    s.sramDetected t a addr =
      (({ s with diag := { s.diag with detected := satAdd 32 s.diag.detected 1 } } : State).report t srcSram 0x020A
        (areaSev a) t (areaCode a :: bytesLE 3 addr)).sramActs t a addr := by
  simp [State.sramDetected, htile, hmode, sramData]

/-! ### SRDOs -/

/-- CAN B ignores an FD frame (R486). -/
theorem State.onFrame_of_ignored (s : State) {c : CanChan} (g : State → State) (h : c = .b) : s.onFrame c .fd g = s :=
  if_pos ⟨h, rfl⟩

/-- A pair of frames that the channel of the SRDOs does not ignore is received (R486). -/
theorem exec_srdoReceived_of_heard {s : State} {g : CanFormat} (i normal inverted apart : Nat)
    (h : s.srdoChan = .b → g = .classical) :
    exec (.srdoReceived i g normal inverted apart) s = .next (s.srdoIn i normal inverted apart) :=
  congrArg Host.Outcome.next (s.onFrame_of_heard _ fun hb => by simp [h hb])

/-- A pair within SRVT whose second frame is the complement of the first is taken; `m` is 2 to the number of its bits
(R454, R501). -/
theorem State.srdoIn_of_valid {s : State} {i m normal inverted apart : Nat} (hrx : s.srdoRx i = true)
    (hm : m = 2 ^ (s.srdoEntries i).foldl (fun a e => a + e % 256) 0) (hapart : apart ≤ s.ob (0x1301 + i) 3)
    (hpair : normal % m + inverted % m + 1 = m) : s.srdoIn i normal inverted apart = s.srdoTake i normal := by
  subst hm
  simp [State.srdoIn, hrx, hapart, hpair]

/-- Any other pair loses the SRDO, as the end of its SCT does (R454). -/
theorem State.srdoIn_of_invalid {s : State} {i m normal inverted apart : Nat} (hrx : s.srdoRx i = true)
    (hm : m = 2 ^ (s.srdoEntries i).foldl (fun a e => a + e % 256) 0)
    (hbad : s.ob (0x1301 + i) 3 < apart ∨ normal % m + inverted % m + 1 ≠ m) :
    s.srdoIn i normal inverted apart = s.srdoLoss i := by
  subst hm
  have hnot : ¬ (apart ≤ s.ob (0x1301 + i) 3 ∧ _) := fun h => hbad.elim (fun hlate => absurd h.1 (by omega)) (· h.2)
  rw [State.srdoIn, if_pos hrx, State.srdoLoss, if_pos hrx]
  exact if_neg hnot

/-- A pair that does not map REQUEST_LOOPS only ends the loss; `s1` is the state without it (R454). -/
theorem State.srdoTake_of_other {s s1 : State} {i : Nat} (normal : Nat)
    (h1 : s1 = { s with srdo := { s.srdo with lost := clrBit s.srdo.lost i } })
    (hmap : (s.srdoEntries i).head? ≠ some 0x26010520) : s.srdoTake i normal = s1 := by
  subst h1
  simp [State.srdoTake, hmap]

/-- A pair that maps REQUEST_LOOPS sets it, and the requested loops go to their safe state; `s2` is the state with the request
set (R453, R454). -/
theorem State.srdoTake_of_request {s s1 s2 : State} {i normal : Nat}
    (h1 : s1 = { s with srdo := { s.srdo with lost := clrBit s.srdo.lost i } })
    (hmap : (s.srdoEntries i).head? = some 0x26010520)
    (h2 : s2 = { s1 with srdo := { s1.srdo with request := normal % 2 ^ 32 } }) :
    s.srdoTake i normal = if s.loopList.any (bit (normal % 2 ^ 32)) then
      s2.dangerous (s.notSafe5 (normal % 2 ^ 32)) 0 0x0000 0xFFFF false else s2 := by
  subst h1 h2
  exact if_pos hmap

/-- The loss of a receive SRDO with SRDO_LOSS_ACTION 0 is only kept; with 1 or 2 its loops go to their safe state, with 2
HOLD follows; `s1` is the state with the loss (R454). -/
theorem State.srdoLoss_of_rx {s s1 : State} {i : Nat} (hrx : s.srdoRx i = true)
    (h1 : s1 = { s with srdo := { s.srdo with lost := setBit s.srdo.lost i } }) :
    s.srdoLoss i = if s.ob 0x2600 7 = 0 then s1 else
      s1.dangerous (s.notSafe5 (s.ob 0x2600 1)) 0 srdoLossCause 0xFFFF (s.ob 0x2600 7 == 2) := by
  subst h1
  exact if_pos hrx

/-- A transmit SRDO sends its pair of frames at its refresh time, `s1` (R453, R501). -/
theorem State.srdoOut_of_tx {s s1 : State} {i : Nat} (htx : s.srdoTx i = true)
    (h1 : s1 = s.reach (s.srdo.sentAt.get 0 i + 500000 * s.ob (0x1301 + i) 2)) :
    s.srdoOut i = { s1 with
      srdo := { s1.srdo with sentAt := Tab.set 0 s1.srdo.sentAt i s1.now }
      net := { s1.net with
        sent := .srdo s.srdoChan (s1.srdoData i).1 (2 ^ (s1.srdoData i).2 - 1 - (s1.srdoData i).1) :: s1.net.sent } } := by
  subst h1
  exact if_pos htx

/-- An SRDO that runs neither way receives, loses and sends nothing (R453). -/
theorem State.srdo_of_idle {s : State} {i : Nat} (hrx : s.srdoRx i = false) (htx : s.srdoTx i = false)
    (normal inverted apart : Nat) :
    s.srdoIn i normal inverted apart = s ∧ s.srdoLoss i = s ∧ s.srdoOut i = s := by
  simp [State.srdoIn, State.srdoLoss, State.srdoOut, hrx, htx]

/-- Settles O41, by what each operation does under its conditions. -/
theorem safetyEvents : Obligations.SafetyEvents := by
  intro s s1 s2 t diff addr i m normal inverted apart failed a g
  refine ⟨fun htile hmode h1 => ?bandgap, fun htile hmode => ?corrected, fun htile hmode h1 => ?detected,
    fun hchan => ?ignored, fun hrx hformat hm hapart hpair h1 => ?valid, fun hrx hformat hm h1 => ?lost,
    fun htx h1 => congrArg Host.Outcome.next (State.srdoOut_of_tx htx h1), fun hidle => ?idle, fun hproof => ?proofTest⟩
  case bandgap =>
    subst h1
    refine ⟨fun hin => ?_, fun hout hold => ?_, fun hout hnew => ?_⟩
    · have hf : decide (150 < diff) = false := decide_eq_false (by omega)
      have h := State.bandgap_of_quiet htile hmode (.inl hin)
      rw [hf] at h
      exact congrArg Host.Outcome.next h
    · have h := State.bandgap_of_quiet (diff := diff) htile hmode (.inr hold)
      rw [decide_eq_true hout] at h
      exact congrArg Host.Outcome.next h
    · exact congrArg Host.Outcome.next (State.bandgap_of_begins htile hmode hout hnew rfl)
  case corrected => exact congrArg Host.Outcome.next (State.sramCorrected_of_tile a addr htile hmode)
  case detected =>
    have h : exec (.sramErrorDetected t a addr) s = .next (s1.sramActs t a addr) :=
      congrArg Host.Outcome.next (h1 ▸ State.sramDetected_of_tile a addr htile hmode)
    refine ⟨?_, ?_, ?_, ?_, ?_, ?_, ?_⟩ <;> (rintro rfl; exact h)
  case ignored => exact congrArg Host.Outcome.next (s.onFrame_of_ignored _ hchan)
  case valid =>
    have take : exec (.srdoReceived i g normal inverted apart) s = .next (s.srdoTake i normal) :=
      (exec_srdoReceived_of_heard _ _ _ _ hformat).trans
        (congrArg Host.Outcome.next (State.srdoIn_of_valid hrx hm hapart hpair))
    rw [take]
    refine ⟨fun hmap => congrArg Host.Outcome.next (State.srdoTake_of_other normal h1 hmap), fun hmap h2 => ?_⟩
    have h := State.srdoTake_of_request h1 hmap h2
    exact ⟨fun hnone => congrArg Host.Outcome.next (h.trans (if_neg (Bool.eq_false_iff.mp hnone))),
      fun hsome => congrArg Host.Outcome.next (h.trans (if_pos hsome))⟩
  case lost =>
    have h := State.srdoLoss_of_rx hrx h1
    exact ⟨fun hbad => (exec_srdoReceived_of_heard _ _ _ _ hformat).trans
        (congrArg Host.Outcome.next (State.srdoIn_of_invalid hrx hm hbad)),
      fun hnone => congrArg Host.Outcome.next (h.trans (if_pos hnone)),
      fun hsome => congrArg Host.Outcome.next (h.trans (if_neg hsome))⟩
  case idle =>
    obtain ⟨hin, hloss, hout⟩ := State.srdo_of_idle hidle.1 hidle.2 normal inverted apart
    exact ⟨(exec_srdoReceived_of_heard _ _ _ _ fun _ => rfl).trans (congrArg Host.Outcome.next hin),
      congrArg Host.Outcome.next hloss, congrArg Host.Outcome.next hout⟩
  case proofTest => exact congrArg Host.Outcome.next (if_pos hproof)

end Sys2Proof.Machine
end

section
/-! Reset, the supplies, the PLL and the power-up (R44, R63, R95, R99, R101, R110, R486, R546). -/

namespace Sys2Proof.Machine

/-! ### Resets and excursions -/

/-- An excursion of 5 µs or more resets the part (R546). -/
theorem State.excursion_of_long (s : State) {ns : Nat} (h : 5000 ≤ ns) : s.excursion ns = s.afterReset 0 true := by
  simp [State.excursion, h, Nat.not_lt.mpr h]

/-- An excursion of less than 1 µs changes nothing (R546). -/
theorem State.excursion_of_short (s : State) {ns : Nat} (h : ns < 1000) : s.excursion ns = s := by
  have hlong : ¬ 5000 ≤ ns := by omega
  simp [State.excursion, hlong, Nat.not_le.mpr h]

/-- A Reset Node outside RUN and HOLD resets the part (R100, R110). -/
theorem State.nmtResetNode_of_stopped {s : State} {c : CanChan} (hheard : s.nmtHeard c = true) (hrun : s.md.mode ≠ .run)
    (hhold : s.md.mode ≠ .hold) : s.nmtResetNode c = s.afterReset 2 false := by
  simp [State.nmtResetNode, hheard, hrun, hhold]

/-- A Reset Node in RUN or HOLD is a recorded Reset Communication on both channels (R110). -/
theorem State.nmtResetNode_of_running {s : State} {c : CanChan} (hheard : s.nmtHeard c = true)
    (hmode : s.md.mode = .run ∨ s.md.mode = .hold) :
    s.nmtResetNode c = ((s.resetComm .a).resetComm .b).report 0 srcMode 0x0006 2 0xFFFF [chanCode (canChan c)] := by
  simp [State.nmtResetNode, hheard, hmode]

/-- A PLL of the part that does not lock before the part leaves RESET fails its tile (R63). -/
theorem State.pllTimeout_of_reset {s : State} {t : Nat} (htile : s.hasTile t = true) (hmode : s.md.mode = .reset) :
    s.pllTimeout t =
      { s with
        tiles := s.tiles.upd {} t (fun ti => { ti with state := 2, failCause := 1 })
        clk := { s.clk with pllLocked := clrBit s.clk.pllLocked t } } := by
  simp [State.pllTimeout, htile, hmode]

/-! ### What calibration, records and a change of mode leave alone -/

/-- Modes, clock and objects, with the part that gives the objects their defaults: what a power-up is judged by. -/
def State.control (s : State) : Part × ModeGrp × ClkGrp × ObjGrp := (s.part, s.md, s.clk, s.obj)

@[simp] theorem State.report_control (s : State) (t src code sev inst : Nat) (data : List Nat) :
    (s.report t src code sev inst data).control = s.control := by
  unfold State.report
  split <;> rfl

@[simp] theorem State.plausStop_control (s : State) (l : Nat) : (s.plausStop l).control = s.control := by
  unfold State.plausStop
  dsimp only
  split <;> rfl

@[simp] theorem State.noSetRecord_control (s : State) (n : Nat) : (s.noSetRecord n).control = s.control := by
  unfold State.noSetRecord
  split
  · rfl
  · exact State.report_control ..

@[simp] theorem State.keepCal_control (s : State) (t : Nat) : (s.keepCal t).control = s.control := by
  rw [State.keepCal, foldl_inv State.control]
  exact fun _ _ => rfl

@[simp] theorem State.calTile_control (rs : List CalResult) (s : State) (t : Nat) :
    (State.calTile rs s t).control = s.control := by
  unfold State.calTile
  dsimp only
  split
  · exact State.keepCal_control ..
  · exact State.report_control ..

/-- Calibration leaves modes, clock and objects; its time is passed before it ends (R314, R316). -/
@[simp] theorem State.calFinish_control (s : State) (rs : List CalResult) : (s.calFinish rs).control = s.control := by
  rw [State.calFinish, foldl_inv State.control State.restartTables (fun _ _ => rfl),
    foldl_inv State.control _ (State.calTile_control rs)]
  rfl

/-- A change of mode changes mode, cause and substate alone among modes, clock and objects (R91, R112). -/
theorem State.enterMode_control {s : State} {p : Part} {g : ModeGrp} {c : ClkGrp} {o : ObjGrp} (m : Mode) (cause sub : Nat)
    (h : s.control = (p, g, c, o)) :
    (s.enterMode m cause sub).control = (p, { g with mode := m, lastCause := cause, substate := sub }, c, o) := by
  have hplaus : (if s.md.mode = .run then (s.loopList.filter s.enabled).foldl State.plausStop s else s).control =
      s.control := by
    split
    · exact foldl_inv State.control _ (fun _ _ => State.plausStop_control ..) _ _
    · rfl
  refine (State.report_control ..).trans ?_
  simp only [State.control, Prod.mk.injEq] at h hplaus
  obtain ⟨rfl, rfl, rfl, rfl⟩ := h
  obtain ⟨hpart, -, hclk, hobj⟩ := hplaus
  simp only [State.control, hpart, hclk, hobj]

/-! ### The power-up (R95) -/

/-- With tile 0 locked and trained and TEST low, a power-up after POR goes through all its steps (R95). -/
theorem State.powerUp_of_lives {s : State} {i : PowerUpIn} (hmode : s.md.mode = .reset) (hpor : s.md.lastCause = 0)
    (hfactory : s.md.factoryTest = false) (htest : i.test = false) (hlives : s.lives i 0 = true)
    (htrain : bit i.trainFailed 0 = false) : s.powerUp i = (s.powerUpLoad i).powerUpEnd i := by
  simp [State.powerUp, hmode, hpor, hfactory, htest, hlives, htrain]

/-- Loading ends with the four frames of step 6 of R284 over and device time running (R95, R284). -/
theorem State.powerUpLoad_clk (s : State) (i : PowerUpIn) :
    (s.powerUpLoad i).now = 4 * ticksPerFrame ∧ (s.powerUpLoad i).clk.running = true := by
  constructor
  · simp [State.powerUpLoad, now_ite, foldl_now]
  · obtain ⟨x, n, hx, hrun⟩ : ∃ x n, s.powerUpLoad i = State.noSetRecord x n ∧ x.clk.running = true := ⟨_, _, rfl, rfl⟩
    rw [hx, ← hrun]
    exact congrArg (·.2.2.1.running) (State.noSetRecord_control x n)

/-- With AUTO_MODE 0 the power-up stays in the mode that it has entered (R101). -/
theorem State.autoMode_of_zero {s : State} (h : s.ob 0x2000 4 = 0) : s.autoMode = s := by
  simp [State.autoMode, h]

/-- Where no comparator is beyond its threshold, the first evaluation changes nothing (R571). -/
@[simp] theorem State.firstLook_nil (s : State) : s.firstLook [] = s := rfl

/-- Step 6: a calibration that begins now ends `n` clocks later (R95, R314). -/
theorem State.calibrated_control (s : State) (n : Nat) (rs : List CalResult) :
    ((({ s with cal := { s.cal with startedAt := s.now } } : State).reach (s.now + n)).calFinish rs).control =
      (s.part, s.md, { s.clk with time := s.now + n }, s.obj) := by
  rw [State.calFinish_control]
  simp [State.control]

/-- The marks of the entry of CONFIGURE: the time that the power-up took, VIN's spell, and the frames and samples that are
over (R95, R108). -/
theorem State.entered_control {s : State} {p : Part} {g : ModeGrp} {c : ClkGrp} {o : ObjGrp} (up : Nat)
    (h : s.control = (p, g, c, o)) :
    ({ s with
      md := { s.md with powerupTime := up, vinGoodSince := s.now }
      clk := { s.clk with frameDone := s.now / ticksPerFrame, sampleDone := s.now / ticksPerSample } } : State).control =
      (p, { g with powerupTime := up, vinGoodSince := c.time },
        { c with frameDone := c.time / ticksPerFrame, sampleDone := c.time / ticksPerSample }, o) := by
  simp only [State.control, Prod.mk.injEq] at h
  obtain ⟨rfl, rfl, rfl, rfl⟩ := h
  rfl

/-- What calibration and the entry of CONFIGURE leave of modes, clock and objects, before the comparators and AUTO_MODE:
1,300,000 clocks have passed (R95, R101, R314). -/
theorem State.powerUpEnd_enters (s : State) (i : PowerUpIn) :
    ∃ x : State, s.powerUpEnd i = (x.firstLook i.compActive).autoMode ∧
      x.control = (s.part,
        { s.md with
          mode := .configure, lastCause := 3, substate := 0, powerupTime := i.upTime10us
          vinGoodSince := s.now + 1300000 },
        { s.clk with
          time := s.now + 1300000, frameDone := (s.now + 1300000) / ticksPerFrame
          sampleDone := (s.now + 1300000) / ticksPerSample }, s.obj) := by
  have hsafe (y : State) : (if y.pins.safeIn then y else y.report 0 srcSafety 0x0C01 5 0xFFFF []).control = y.control := by
    split
    · rfl
    · exact State.report_control ..
  have henter := State.enterMode_control .configure 3 0 ((hsafe _).trans (s.calibrated_control 1300000 i.cal))
  exact ⟨_, rfl, State.entered_control i.upTime10us henter⟩

/-- With AUTO_MODE 0 and no comparator beyond its threshold the power-up ends in CONFIGURE (R95, R101). -/
theorem State.powerUpEnd_of_manual {s : State} {i : PowerUpIn} (hactive : i.compActive = []) (hauto : s.ob 0x2000 4 = 0) :
    (s.powerUpEnd i).md.mode = .configure ∧ (s.powerUpEnd i).md.lastCause = 3 ∧
      (s.powerUpEnd i).md.powerupTime = i.upTime10us ∧ (s.powerUpEnd i).now = s.now + 1300000 ∧
      (s.powerUpEnd i).clk.running = s.clk.running := by
  obtain ⟨x, hx, hcontrol⟩ := s.powerUpEnd_enters i
  simp only [State.control, Prod.mk.injEq] at hcontrol
  obtain ⟨hpart, hmd, hclk, hobj⟩ := hcontrol
  have hob : x.ob 0x2000 4 = 0 := by
    rw [← hauto, State.ob, State.ob, State.T, State.T, hpart, hobj]
  rw [hx, hactive, State.firstLook_nil, State.autoMode_of_zero hob]
  exact ⟨by rw [hmd], by rw [hmd], by rw [hmd], by rw [State.now, hclk], by rw [hclk]⟩

/-- Settles O7: resets by what a reset leaves, the power-up by what its loading and its end leave of mode and clock. -/
theorem resetsAndPowerUp : Obligations.ResetsAndPowerUp := by
  intro s supply ns t c f i
  refine ⟨⟨_, rfl, afterReset_resets s 1 false⟩, fun hlong => ?longExcursion,
    fun hshort => congrArg Host.Outcome.next (s.excursion_of_short hshort), fun hheard hformat hrun hhold => ?resetNode,
    fun hheard hformat hmode => ?resetNodeRunning, fun hc hf => ?ignored,
    fun htile hmode => congrArg Host.Outcome.next (State.pllTimeout_of_reset htile hmode),
    fun hmode hpor hfactory htest hlives htrain hactive hauto => ?powerUp⟩
  case longExcursion =>
    exact ⟨_, congrArg Host.Outcome.next (s.excursion_of_long hlong), afterReset_resets s 0 true⟩
  case resetNode =>
    exact ⟨_, congrArg Host.Outcome.next
        ((s.onFrame_of_heard _ hformat).trans (State.nmtResetNode_of_stopped hheard hrun hhold)),
      afterReset_resets s 2 false⟩
  case resetNodeRunning =>
    exact congrArg Host.Outcome.next
      ((s.onFrame_of_heard _ hformat).trans (State.nmtResetNode_of_running hheard hmode))
  case ignored =>
    subst hf
    exact congrArg Host.Outcome.next (s.onFrame_of_ignored _ hc)
  case powerUp =>
    obtain ⟨hnow, hrunning⟩ := s.powerUpLoad_clk i
    obtain ⟨hconfigure, hcause, htime, hend, hkept⟩ := State.powerUpEnd_of_manual hactive hauto
    have hup := State.powerUp_of_lives hmode hpor hfactory htest hlives htrain
    have hfixed := hup ▸ State.powerUp_fixed s i
    exact ⟨_, congrArg Host.Outcome.next hup, hconfigure, hcause, htime, hnow ▸ hend, hkept.trans hrunning,
      fixed_part hfixed, congrArg (·.2.1) hfixed⟩

end Sys2Proof.Machine
end

section
/-! START, the pre-start checks, VIN and the waiting restart (R46, R104, R106 to R108, R318, R319, R427). -/

namespace Sys2Proof.Machine

/-! ### START -/

/-- A START edge in STANDBY with SAFE_IN# high begins the pre-start checks (R46, R104). -/
theorem State.startEdge_of_standby {s : State} (hmode : s.md.mode = .standby) (hsafe : s.pins.safeIn = true)
    (hfree : s.startBusy = false) :
    s.startEdge = ({ s with pins := { s.pins with start := true } } : State).beginStart .startEdge := by
  simp [State.startEdge, hmode, hsafe, hfree]

/-- A START edge with SAFE_IN# low, or while the checks or RUN go on, is ignored with a record (R46, R104). -/
theorem State.startEdge_of_ignored {s : State} (hmode : s.md.mode ≠ .reset)
    (hignored : s.pins.safeIn = false ∨ s.startBusy = true) :
    s.startEdge = ({ s with pins := { s.pins with start := true } } : State).report 0 srcMode 0x0003 0 0xFFFF [1] := by
  simp [State.startEdge, hmode, hignored, State.triggerRecord]

/-- A low START in RUN is a stop where 0x2000:05 is 1 (R106). -/
theorem State.startLow_of_run {s : State} (hmode : s.md.mode = .run) (hstop : s.ob 0x2000 5 = 1) :
    s.startLow = ({ s with pins := { s.pins with start := false } } : State).requestDown .stop := by
  simp [State.startLow, hmode, hstop, State.requestStopSeq]

/-- A low START in STANDBY cancels a waiting restart where 0x2000:05 is 1 (R106, R108). -/
theorem State.startLow_of_waiting {s : State} (hmode : s.md.mode = .standby) (hwait : s.md.restartWait = true)
    (hstop : s.ob 0x2000 5 = 1) :
    s.startLow = ({ s with pins := { s.pins with start := false } } : State).cancelRestart := by
  simp [State.startLow, hmode, hwait, hstop]

/-! ### The pre-start checks -/

/-- A running open-wire set ends 250,000 clocks after it began; `s3` is the state with its findings and its comparators
unmasked (R318, R319). -/
theorem State.endOpenWire_of_running {s s3 : State} {set : Nat} (readings : List OpenReading) (active : List Nat)
    (hset : s.md.openWireSet = set) (hrun : set ≠ 0)
    (h3 : s3 = ({ (s.reach (s.md.checkAt + 250000)).reportOpen set readings with
      md := { ((s.reach (s.md.checkAt + 250000)).reportOpen set readings).md with openWireSet := 0 } } : State).unmask active) :
    s.endOpenWire readings active = if set = 1 then (if s3.md.starting.isSome then s3.beginOpenWire 2 else s3)
      else s3.tileList.foldl State.restartTables s3 := by
  subst hset h3
  simp [State.endOpenWire, hrun]

/-- Checks that have passed lead to RUN (R104). -/
theorem State.endStart_of_passed {s : State} {why : RunTrigger} (hwhy : s.md.starting = some why)
    (hmode : s.md.mode = .standby) (hset : s.md.openWireSet = 0) (hpass : s.startResultNow = 0) :
    s.endStart = ({ s with md := { s.md with
      startResult := 0, starting := none, substate := if s.md.restartWait then 5 else 0
      restartWait := false } } : State).enterRun why.cause := by
  simp [State.endStart, hwhy, hmode, hset, hpass]

/-- Checks of another trigger than a request that have failed leave STANDBY and a record of the bits (R104). -/
theorem State.endStart_of_failed {s : State} {why : RunTrigger} (hwhy : s.md.starting = some why) (hother : why ≠ .request)
    (hmode : s.md.mode = .standby) (hset : s.md.openWireSet = 0) (hfail : s.startResultNow ≠ 0) :
    s.endStart = ({ s with md := { s.md with
      startResult := s.startResultNow, starting := none
      substate := if s.md.restartWait then 5 else 0 } } : State).report 0 srcMode 0x0002 3 0xFFFF [s.startResultNow] := by
  simp [State.endStart, hwhy, hother, hmode, hset, hfail]

/-! ### VIN, PFAIL and restart -/

/-- A level of VIN from VIN_FAIL on is only taken (R107). -/
theorem State.vinFalls_of_above {s : State} {mv : Nat} (h : s.ob 0x2000 8 ≤ mv) :
    s.vinFalls mv = { s with pins := { s.pins with vin := mv } } := by
  simp [State.vinFalls, Nat.not_lt.mpr h]

/-- A level of VIN under VIN_FAIL is a loss of VIN, unless VIN_GOOD is 0 (R107). -/
theorem State.vinFalls_of_below {s : State} {mv : Nat} (hon : s.ob 0x2000 7 ≠ 0) (h : mv < s.ob 0x2000 8) :
    s.vinFalls mv = ({ s with pins := { s.pins with vin := mv } } : State).vinLost 2 := by
  simp [State.vinFalls, hon, h]

@[simp] theorem State.report_md (s : State) (t src code sev inst : Nat) (data : List Nat) :
    (s.report t src code sev inst data).md = s.md := by
  unfold State.report
  split <;> rfl

@[simp] theorem State.startStore_md (s : State) (cause : Nat) : (s.startStore cause).md = s.md := by
  unfold State.startStore
  split <;> rfl

/-- A loss of VIN triggers the power-fail store, is recorded with the mode, and begins the VIN_SETTLE count again; from RUN
the part goes down. `s1` is the state with the record and the new count (R107, R108, R427). -/
theorem State.vinLost_of_mode {s s1 : State} {m : Mode} {how : Nat} (hmode : s.md.mode = m) (hreset : m ≠ .reset)
    (hservice : m ≠ .service)
    (h1 : s1 = { (s.startStore how).report 0 srcMode 0x0005 3 0xFFFF [m.code, how] with
      md := { s.md with vinGoodSince := s.now } }) :
    s.vinLost how = if m = .run then s1.requestDown .vinLoss else s1 := by
  subst h1 hmode
  simp [State.vinLost, hreset, hservice]

/-- PFAIL is a loss of VIN too; `s1` as for a loss (R107, R427). -/
theorem State.pfailRises_of_mode {s s1 : State} {m : Mode} (hmode : s.md.mode = m) (hreset : m ≠ .reset)
    (hservice : m ≠ .service)
    (h1 : s1 = { (({ s with pins := { s.pins with pfail := true } } : State).startStore 1).report 0 srcMode 0x0005 3 0xFFFF
      [m.code, 1] with md := { s.md with vinGoodSince := s.now } }) :
    s.pfailRises = if m = .run then s1.requestDown .vinLoss else s1 :=
  State.vinLost_of_mode hmode hreset hservice h1

/-- VIN becomes good where it was not and reaches VIN_GOOD, which begins its spell (R107, R108). -/
theorem State.vinRises_of_begins {s : State} {mv : Nat} (hbad : s.vinOk = false) (hgood : s.ob 0x2000 7 ≤ mv) :
    s.vinRises mv = { s with
      pins := { s.pins with pfail := false, vin := mv }, md := { s.md with vinGoodSince := s.now } } :=
  if_pos ⟨hbad, decide_eq_true hgood⟩

/-- VIN that was good, or that stays under VIN_GOOD, begins no spell (R107, R108). -/
theorem State.vinRises_of_other {s : State} {mv : Nat} (h : ¬ (s.vinOk = false ∧ s.ob 0x2000 7 ≤ mv)) :
    s.vinRises mv = { s with pins := { s.pins with pfail := false, vin := mv } } :=
  if_neg fun hspell => h ⟨hspell.1, of_decide_eq_true hspell.2⟩

/-- A waiting restart with good VIN begins the checks at its instant (R108). -/
theorem State.restartNow_of_waiting {s : State} (hmode : s.md.mode = .standby) (hwait : s.md.restartWait = true)
    (hvin : s.vinOk = true) (hfree : s.startBusy = false) :
    s.restartNow = (s.reach s.restartAt).beginStart .restart := by
  simp [State.restartNow, hmode, hwait, hvin, hfree]

/-- Settles O15, by what each event does under its conditions. -/
theorem startsAndStops : Obligations.StartsAndStops := by
  intro s s3 why readings active mv
  refine ⟨fun hmode hsafe hfree => congrArg Host.Outcome.next (State.startEdge_of_standby hmode hsafe hfree),
    fun hmode hignored => congrArg Host.Outcome.next (State.startEdge_of_ignored hmode hignored),
    fun hset h3 hstart => ?senseSet, fun hset h3 => ?vmonSet,
    fun hwhy hmode hset hpass => congrArg Host.Outcome.next (State.endStart_of_passed hwhy hmode hset hpass),
    fun hwhy hother hmode hset hfail =>
      congrArg Host.Outcome.next (State.endStart_of_failed hwhy hother hmode hset hfail),
    fun hmode hstop => congrArg Host.Outcome.next (State.startLow_of_run hmode hstop),
    fun hmode hwait hstop => congrArg Host.Outcome.next (State.startLow_of_waiting hmode hwait hstop),
    fun habove => congrArg Host.Outcome.next (State.vinFalls_of_above habove),
    fun hmode hon hbelow => ?vinFails, fun hmode => ?pfailInRun, fun hmode => ?pfailInStandby, ?vinGood,
    fun hmode hwait hvin hfree => congrArg Host.Outcome.next (State.restartNow_of_waiting hmode hwait hvin hfree)⟩
  case senseSet =>
    have h := State.endOpenWire_of_running readings active hset (by decide) h3
    rw [if_pos rfl, if_pos (Option.isSome_iff_ne_none.mpr hstart)] at h
    exact congrArg Host.Outcome.next h
  case vmonSet => exact congrArg Host.Outcome.next (State.endOpenWire_of_running readings active hset (by decide) h3)
  case vinFails =>
    have h := (State.vinFalls_of_below hon hbelow).trans (State.vinLost_of_mode hmode (by decide) (by decide) rfl)
    exact congrArg Host.Outcome.next (h.trans (if_pos rfl))
  case pfailInRun =>
    have h := State.pfailRises_of_mode hmode (by decide) (by decide) rfl
    exact congrArg Host.Outcome.next (h.trans (if_pos rfl))
  case pfailInStandby =>
    have h := State.pfailRises_of_mode hmode (by decide) (by decide) rfl
    exact congrArg Host.Outcome.next (h.trans (if_neg (by decide)))
  case vinGood =>
    refine ⟨_, rfl, ?_⟩
    by_cases h : s.vinOk = false ∧ s.ob 0x2000 7 ≤ mv
    · rw [State.vinRises_of_begins h.1 h.2]
      exact ⟨rfl, rfl, by rw [if_pos ⟨h.1, decide_eq_true h.2⟩]⟩
    · rw [State.vinRises_of_other h]
      exact ⟨rfl, rfl, by rw [if_neg fun hspell => h ⟨hspell.1, of_decide_eq_true hspell.2⟩]⟩

end Sys2Proof.Machine
end

section
/-! Nonce, session, alarms, TAP, held requests and captures (R47, R81, R469, R471, R473, R474, R477, R478, R540). -/

namespace Sys2Proof.Machine

/-! ### Nonce and session -/

/-- A nonce can be used until 10 s after it was made (R469). -/
theorem State.expireNonce_of_some {s s1 : State} (hnonce : s.sec.nonce ≠ none)
    (h1 : s1 = s.reach (s.sec.nonceAt + 5000000000)) :
    s.expireNonce = { s1 with sec := { s1.sec with nonce := none } } := by
  subst h1
  exact if_neg (mt Option.isNone_iff_eq_none.mp hnonce)

/-- A session ends TIMEOUT after its last access (R471). -/
theorem State.expireSession_of_some {s s1 : State} (hsession : s.sec.session ≠ none)
    (h1 : s1 = s.reach (s.sec.accessAt + 500000000 * s.ob 0x2400 9)) :
    s.expireSession = { s1 with sec := { s1.sec with session := none, tags := [] } } := by
  subst h1
  exact if_neg (mt Option.isNone_iff_eq_none.mp hsession)

/-! ### Alarms -/

/-- Source 3 without a fuse whose copies disagree and source 4 on a part without FIELD do not fire (R473). -/
theorem exec_securityAlarm_of_idle {s : State} {src fuses : Nat}
    (h : (src = 3 ∧ fuses = 0) ∨ (src = 4 ∧ s.sec.field = false)) : exec (.securityAlarm src fuses) s = .next s := by
  rcases h with ⟨rfl, rfl⟩ | ⟨rfl, hfield⟩
  · rfl
  · simp [exec, execSecurityAlarm, hfield]

/-- A fuse whose copies disagree counts as blown (R475, R476). -/
theorem State.fuseDisagrees_counts (s : State) (fuses : Nat) :
    (fuses.testBit 0 = true → (s.fuseDisagrees fuses).sec.field = true) ∧
      (fuses.testBit 1 = true → (s.fuseDisagrees fuses).sec.provision = true) := by
  constructor <;> intro h <;> simp [State.fuseDisagrees, SecGrp.field, SecGrp.provision, h, flipCopy_ne_zero]

/-- What a source that fires does outside RESET: first, for source 3, the copies that disagree are marked, then the alarm
acts (R473, R474). -/
theorem exec_securityAlarm_of_fires {s : State} {src fuses : Nat} (hsrc : src < 6) (hmode : s.md.mode ≠ .reset)
    (hfield : src = 4 → s.sec.field = true) (hfuses : src = 3 → fuses ≠ 0) :
    exec (.securityAlarm src fuses) s = .next ((if src = 3 then s.fuseDisagrees fuses else s).alarmActs src) := by
  by_cases h3 : src = 3
  · subst h3
    have hmode' : (s.fuseDisagrees fuses).md.mode ≠ .reset := hmode
    simp [exec, execSecurityAlarm, hfuses rfl, State.alarm, hmode']
  · have hfire : src < 6 ∧ (src = 4 → s.sec.field = true) := ⟨hsrc, hfield⟩
    simp only [exec, execSecurityAlarm, State.alarm, if_neg h3, if_pos hfire, if_neg hmode]

/-- The reaction to an alarm by its policy, from the state `s1` with the source and its record on: none, the lock, or the
erasure of the keys (R474). -/
theorem State.alarmActs_of_policy {s s1 : State} {src p : Nat} (hp : s.ob 0x2403 (src + 1) = p)
    (h1 : s1 = ({ s with
      sec := { s.sec with fired := setBit s.sec.fired src, lastSrc := src, lastAt := s.now } } : State).report 0 srcSec
        0x0D02 6 src [p]) :
    s.alarmActs src = if p = 0 then s1 else if p = 1 then s1.lock else s1.erase := by
  subst hp h1
  rfl

/-- The erasure leaves no key and no session, and a locked part; objects, modes and events stay (R474). -/
theorem State.erase_effect (s : State) :
    s.erase.sec.keys = [] ∧ s.erase.sec.erased = true ∧ s.erase.sec.locked = true ∧ s.erase.sec.session = none ∧
      s.erase.obj = s.obj ∧ s.erase.md = s.md ∧ s.erase.ev = s.ev :=
  ⟨rfl, rfl, rfl, rfl, rfl, rfl, rfl⟩

/-! ### TAP -/

/-- On a FIELD-fused part a TAP instruction only fires source 4 (R47, R473). -/
theorem State.tapRuns_of_field {s : State} (i : TapInstr) (h : s.sec.field = true) : s.tapRuns i = s.alarm 4 := if_pos h

/-- On a part without FIELD the instruction is loaded and shifts out; DEBUG_HALT, and in SERVICE a processor halt, act
(R477, R478). -/
theorem State.tapRuns_of_open {s : State} (i : TapInstr) (h : s.sec.field = false) :
    s.tapRuns i = if i = .debugHalt then (s.tapLoads i).debugHalt
      else if i = .processorHalt ∧ s.md.mode = .service then
        { s.tapLoads i with
          tiles := (s.tapLoads i).tiles.updAll {} (s.tapLoads i).tileList (fun _ ti => { ti with procHalted := true }) }
      else s.tapLoads i := by
  cases i <;> simp [State.tapRuns, h]

/-- Outside SERVICE a debug halt has no effect, and a debug instruction returns zeros (R179, R477). -/
theorem State.debug_outside_service {s : State} (h : s.md.mode ≠ .service) :
    s.debugHalt = s ∧ ∀ j, j = .debugHalt ∨ j = .processorHalt ∨ j = .processorStep ∨ j = .memoryAccess →
      s.tapOut j = .zeros := by
  refine ⟨if_neg fun hact => h hact.1, ?_⟩
  rintro j (rfl | rfl | rfl | rfl) <;> exact if_neg h

/-! ### Held requests and captures -/

/-- The first held request is handled once no commit is in flight, or where it is not bound by one (R81). -/
theorem State.serveHeld_of_free {s : State} {h : HeldReq} {rest : List HeldReq} (hheld : s.obj.heldReqs = h :: rest)
    (hfree : s.obj.flight = none ∨ s.commitBound h = false) :
    s.serveHeld = ({ s with obj := { s.obj with heldReqs := rest } } : State).handle h := by
  have hgo : (s.obj.flight.isSome && s.commitBound h) = false := by
    rcases hfree with hflight | hbound
    · simp [hflight]
    · simp [hbound]
  simp [State.serveHeld, hheld, hgo]

/-- A triggered capture completes after 65,535 − P samples (R540). -/
theorem State.captureEnds_of_full {s : State} {t : Nat} (htile : s.hasTile t = true)
    (hst : (s.caps.get {} t).state = 2) (hfull : 65536 ≤ (s.caps.get {} t).after + (s.caps.get {} t).p) :
    s.captureEnds t = s.captureDone t (s.caps.get {} t).p := by
  simp [State.captureEnds, htile, hst, hfull]

/-- Settles O42, by what each operation does under its conditions. -/
theorem securityAndMonitorEvents : Obligations.SecurityAndMonitorEvents := by
  intro s s0 s1 src fuses t i h rest
  refine ⟨fun hnonce h1 => congrArg Host.Outcome.next (State.expireNonce_of_some hnonce h1),
    fun hsession h1 => congrArg Host.Outcome.next (State.expireSession_of_some hsession h1), exec_securityAlarm_of_idle,
    s.fuseDisagrees_counts fuses, fun hsrc hmode hfield hfuses h0 h1 => ?alarm,
    fun hfield => congrArg Host.Outcome.next (State.tapRuns_of_field i hfield), fun hfield h1 => ?tap,
    fun hheld hfree => congrArg Host.Outcome.next (State.serveHeld_of_free hheld hfree),
    fun htile hst hfull => congrArg Host.Outcome.next (State.captureEnds_of_full htile hst hfull)⟩
  case alarm =>
    have hfires := exec_securityAlarm_of_fires hsrc hmode hfield hfuses
    change s0 = if src = 3 then s.fuseDisagrees fuses else s at h0
    have hob : s0.ob 0x2403 (src + 1) = s.ob 0x2403 (src + 1) := by rw [h0]; split <;> rfl
    have hfired : s0.sec.fired = s.sec.fired := by rw [h0]; split <;> rfl
    have hnow : s0.now = s.now := by rw [h0]; split <;> rfl
    rw [← hfired, ← hnow] at h1
    rw [← h0, State.alarmActs_of_policy hob h1] at hfires
    refine ⟨fun hp => ?_, fun hp => ?_, fun hp => ⟨s1.erase, ?_, rfl, s1.erase_effect⟩⟩
    · rw [hfires, if_pos hp]
    · rw [hfires, if_neg (by omega), if_pos hp]
      rfl
    · rw [hfires, if_neg (by omega), if_neg (by omega)]
  case tap =>
    have hrun : exec (.tapInstruction i) s = .next (s.tapRuns i) := rfl
    have hload : s1 = s.tapLoads i := h1
    rw [hrun, State.tapRuns_of_open i hfield, ← hload]
    refine ⟨fun hdebug hproc => ?_, fun hdebug => ?_, fun hproc hmode => ?_, State.debug_outside_service⟩
    · rw [if_neg hdebug, if_neg (by tauto)]
    · rw [if_pos hdebug]
    · rw [if_neg (by simp [hproc]), if_pos ⟨hproc, hmode⟩]

end Sys2Proof.Machine
end

section
/-! Device time and the queue (R68, R78, R100). -/

namespace Sys2Proof.Machine

/-- Every command but those that reset the part answers a next state at the same or a later instant: the requests of the
dictionary and the frames of the networks by what carries them, the rest by their own operation. -/
theorem exec_later (c : Instr) (s : State) (hup : ∀ i, c ≠ .powerUp i) (hreset : c ≠ .resetAssertion)
    (hsupply : ∀ v d, c ≠ .supplyOutOfRange v d) (hnode : ∀ ch f, c ≠ .resetNode ch f) :
    ∃ t, exec c s = .next t ∧ s.now ≤ t.now := by
  cases c with
  | powerUp i => exact absurd rfl (hup i)
  | resetAssertion => exact absurd rfl hreset
  | supplyOutOfRange v d => exact absurd rfl (hsupply v d)
  | resetNode ch f => exact absurd rfl (hnode ch f)
  | commit | discard | target | phaseManual | trimLearnStart | trimLearnAbort | latchClear | alertClear | calibrationStart
  | seqFirstFailClear | view | position | recClear | faultAck | firstClear | storeRequest | configSave | configActive
  | configRestore | safeStateClear | srdoValid | proofTest | openSession | closeSession | sessionProof | sessionTag | keyWrite
  | rekey | errorHistoryClear | histogramClear | armCapture | disarmCapture =>
    exact ⟨_, rfl, State.writeAt_later _ _ _ _ _ _ _ (Nat.le_refl _)⟩
  | requestConfigure | requestStandby | requestStop | requestRun | holdClear | serviceEnter =>
    exact ⟨_, rfl, State.write_later _ _ _ _ _ _ (Nat.le_refl _)⟩
  | startRemoteNode | stopRemoteNode | enterPreOperational | resetCommunication | syncMessage | timeMessage | rpdoReceived
  | srdoReceived => exact ⟨_, rfl, State.onFrame_later _ _ _ _ (by simp) (Nat.le_refl _)⟩
  | _ => exact ⟨_, rfl, by simp [later_ite]⟩

/-- Settles O6: of the command's next state it is known that its instant is not earlier. -/
theorem timeNeverGoesBack : Obligations.TimeNeverGoesBack := by
  intro c s t hup hreset hsupply hnode ht
  obtain ⟨u, hu, hle⟩ := exec_later c s hup hreset hsupply hnode
  obtain rfl : u = t := Host.Outcome.next.inj (hu.symm.trans ht)
  exact hle

/-- On an empty queue a step idles. -/
theorem step_of_pending_nil {s : State} (h : s.pending = []) : step s = .next s.idle := by
  simp [step, h]

/-- Settles O1, by the two forms of the queue, and of the clock on an empty one. -/
theorem stepTakesFront : Obligations.StepTakesFront := by
  refine ⟨fun _ _ _ => rfl, fun s hqueue hrun => ?runs, fun s hqueue hstop => ?stands⟩
  case runs => exact (step_of_pending_nil hqueue).trans (congrArg Host.Outcome.next (if_pos hrun))
  case stands => exact (step_of_pending_nil hqueue).trans (congrArg Host.Outcome.next (if_neg (by simp [hstop])))

end Sys2Proof.Machine
end

section
/-! Commits, discards, object writes and the requests of the monitors (R75, R79, R80, R85, R489, R536, R538, R541). -/

namespace Sys2Proof.Machine

/-! ### What an admitted write does under its commit class -/

/-- A C value goes to its shadow register (R75). -/
theorem State.carryOut_of_shadow {r : Row} (s : State) (ch : Chan) (f : Fam) (i idx sub v w : Nat) (hcls : r.cls = .c) :
    s.carryOut ch f i idx sub v r w =
      ({ s with obj := { s.obj with
        pend := s.obj.pend.set none (okey idx sub) (some v), owed := s.obj.owed.set 0 (okey idx sub) 0 } }, .ok []) := by
  simp [State.carryOut, hcls]

/-- An X value goes to its block at once (R75). -/
theorem State.carryOut_of_block {s : State} {f : Fam} {i idx sub : Nat} {r : Row} (ch : Chan) (v w : Nat) (hcls : r.cls = .x)
    (hfree : s.laneBusy f i = false) (hpage : ¬ (f = .netCfg ∧ pairOf (okey idx sub) = some 19)) :
    s.carryOut ch f i idx sub v r w = (s.putX f i idx sub v, .ok []) := by
  simp [State.carryOut, hcls, hfree, hpage]

/-- An X value of pair 19 is answered once its page is written (R489). -/
theorem State.carryOut_of_paged {idx sub : Nat} {r : Row} (s : State) (ch : Chan) (i v w : Nat) (hcls : r.cls = .x)
    (hpage : pairOf (okey idx sub) = some 19) :
    s.carryOut ch .netCfg i idx sub v r w = ((s.putX .netCfg i idx sub v).whenKept 0 19 ch, .held) := by
  simp [State.carryOut, hcls, hpage, State.laneBusy]

/-- An L value other than a target has its live effect (R75). -/
theorem State.carryOut_of_live {s s2 : State} {ch : Chan} {f : Fam} {i idx sub v w : Nat} {r : Row} (hcls : r.cls = .l)
    (htarget : f ≠ .loopTarget) (hlive : s.live ch f i idx sub v w = (s2, none)) :
    s.carryOut ch f i idx sub v r w = (s2, .ok []) := by
  simp [State.carryOut, hcls, htarget, hlive]

/-- An admitted write is answered with what its carrying out answers (R492). -/
theorem State.Admits.write_of_carryOut {s s1 s2 : State} {ch : Chan} {idx sub len v : Nat} {f : Fam} {i : Nat} {r : Row}
    {a : Resp} (h : s.Admits s1 ch idx sub len v f i r) (hout : s1.carryOut ch f i idx sub v r 0 = (s2, a)) :
    s.write ch idx sub len v = s2.answer ch a := by
  rw [admits_write h, hout]

/-- An admitted write whose live effect refuses nothing is answered with success (R75, R492). -/
theorem State.Admits.write_of_live {s s1 s2 : State} {ch : Chan} {idx sub len v : Nat} {f : Fam} {i : Nat} {r : Row}
    (h : s.Admits s1 ch idx sub len v f i r) (hcls : r.cls = .l) (htarget : f ≠ .loopTarget)
    (hlive : s1.live ch f i idx sub v 0 = (s2, none)) : s.write ch idx sub len v = s2.answer ch (.ok []) :=
  h.write_of_carryOut (State.carryOut_of_live hcls htarget hlive)

/-- A command that is a write of an object on the part is that write. -/
theorem State.writeAt_of_ok {ok : Bool} (s : State) (ch : Chan) (idx sub len v : Nat) (h : ok = true) :
    s.writeAt ok ch idx sub len v = s.write ch idx sub len v := by
  simp [State.writeAt, h]

/-! ### Live effects -/

/-- A live object without an effect of its own is stored (R75). -/
theorem State.live_of_stored {s : State} {ch : Chan} {f : Fam} {i sub v w : Nat} (idx : Nat)
    (hdevice : s.liveDevice ch f sub v w = none) (hblock : s.liveBlock f i sub v = none) :
    s.live ch f i idx sub v w = (s.put idx sub v, none) := by
  simp [State.live, hdevice, hblock]

/-- A commit that no check refuses is scheduled for frame N + 2 (R80, R166, R206, R309). -/
theorem State.commitRequest_of_clear {s : State} (tag : Nat) (hfail : s.withShadow.commitFail = none)
    (htrim : s.trimPending = false) :
    s.commitRequest tag = ({ s with obj := { s.obj with
      tag := tag, schedFrame := s.frame + 2, result := 1
      flight := some { frame := s.frame + 2, named := s.pendingTiles } } }, none) := by
  simp [State.commitRequest, hfail, htrim]

/-- A capture is armed where its slot holds a loop (R538, R541). -/
theorem State.captureArm_of_slot {s : State} {t : Nat} (h : (s.anchoredAt t (s.ob (0x4D00 + t) 2)).isSome = true) :
    s.captureArm t = ({ s with caps := s.caps.set {} t { state := 1, slot := s.ob (0x4D00 + t) 2 } }, none) := by
  simp [State.captureArm, h, State.arm]

/-- An armed capture with a trigger code is disarmed without a capture (R541). -/
theorem State.captureDisarm_of_armed {s : State} {t : Nat} (harmed : (s.caps.get {} t).state = 1)
    (hcode : s.ob (0x4D00 + t) 3 ≠ 0) : s.captureDisarm t = { s with caps := s.caps.set {} t {} } := by
  simp [State.captureDisarm, harmed, hcode]

/-- Settles O14: each request is an admitted write, carried out under its commit class. -/
theorem commitAndMonitorRequestsComplete : Obligations.CommitAndMonitorRequestsComplete := by
  intro s s1 ch f i r t u idx sub len v tag
  refine ⟨fun htile hu h => ?clear, fun htile h hslot => ?arm, fun htile h harmed hcode => ?disarm,
    fun h hfail htrim => ?commit, fun h => ?discard, fun h hcls => ?shadow, fun h hcls hfree hpage => ?block,
    fun h hcls hpage => ?paged, fun h hcls htarget hdevice hblock => ?stored⟩
  case clear =>
    have hon : (s.hasTile t && decide (u < 16)) = true := by simp [htile, hu]
    have hw := s.writeAt_of_ok ch (0x4C00 + 16 * t + u) 0x0A 1 v hon
    exact congrArg Host.Outcome.next (hw.trans (h.write_of_live (admits_cls h rfl) (by decide) rfl))
  case arm =>
    have hw := s.writeAt_of_ok ch (0x4D00 + t) 1 1 1 htile
    exact congrArg Host.Outcome.next
      (hw.trans (h.write_of_live (admits_cls h rfl) (by decide) (State.captureArm_of_slot hslot)))
  case disarm =>
    have hw := s.writeAt_of_ok ch (0x4D00 + t) 1 1 0 htile
    have hlive : s1.live ch .capture t (0x4D00 + t) 1 0 0 = (s1.captureDisarm t, none) := rfl
    rw [State.captureDisarm_of_armed harmed hcode] at hlive
    exact congrArg Host.Outcome.next (hw.trans (h.write_of_live (admits_cls h rfl) (by decide) hlive))
  case commit =>
    exact congrArg Host.Outcome.next
      (h.write_of_live (admits_cls h rfl) (by decide) (State.commitRequest_of_clear tag hfail htrim))
  case discard => exact congrArg Host.Outcome.next (h.write_of_live (admits_cls h rfl) (by decide) rfl)
  case shadow => exact congrArg Host.Outcome.next (h.write_of_carryOut (s1.carryOut_of_shadow ch f i idx sub v 0 hcls))
  case block =>
    exact congrArg Host.Outcome.next (h.write_of_carryOut (State.carryOut_of_block ch v 0 hcls hfree hpage))
  case paged => exact congrArg Host.Outcome.next (h.write_of_carryOut (s1.carryOut_of_paged ch i v 0 hcls hpage))
  case stored =>
    exact congrArg Host.Outcome.next (h.write_of_live hcls htarget (State.live_of_stored idx hdevice hblock))

end Sys2Proof.Machine
end

section
/-! Polls of the lane, back-off, held settings and the lane supply (R75, R261, R264, R265, R273, R561). -/

namespace Sys2Proof.Machine

/-! ### A transaction by what the check of its answer leaves -/

/-- An answer that passes clears the count of failures (R265). -/
theorem State.transact_of_passes {s st : State} {t : Nat} {a rsp : Option Nat} (htile : s.hasTile t = true)
    (hon : s.laneOn t = true) (hidle : (s.lane t).backoff = false)
    (hans : (s.polled t).laneAnswer t a false = ⟨st, rsp, false, true⟩) :
    s.transact t a false = st.updLane t (fun ln => { ln with response := rsp, fails := 0 }) := by
  simp [poll_start a htile hon hidle, hans]

/-- An answer that fails, of which the check only writes on its lane, is one more failure; where no retry is left, the
retries are exhausted (R265). -/
theorem State.transact_of_fails {s : State} {t : Nat} {a rsp : Option Nat} {g : Lane → Lane} (htile : s.hasTile t = true)
    (hon : s.laneOn t = true) (hidle : (s.lane t).backoff = false)
    (hans : (s.polled t).laneAnswer t a false = ⟨(s.polled t).updLane t g, rsp, true, false⟩)
    (hg : ∀ ln, (g ln).fails = ln.fails) :
    s.transact t a false =
      let x := (s.polled t).updLane t (fun ln => { g ln with response := rsp, fails := (s.lane t).fails + 1 })
      if s.ob (0x5000 + t) 2 ≤ (s.lane t).fails then x.laneExhausted t ((s.lane t).fails + 1) else x := by
  simp [poll_start a htile hon hidle, hans, hg, polled_fails, updLane_updLane, ob_updLane, polled_ob]

/-! ### The check of an answer (R261, R264) -/

/-- A missing answer. -/
theorem State.laneAnswer_of_none (s : State) (t : Nat) (b : Bool) : s.laneAnswer t none b =
    ⟨s.updLane t (fun ln => { ln with missing := satAdd 32 ln.missing 1 }), none, true, false⟩ := rfl

/-- An answer with its preamble and a wrong CRC. -/
theorem State.laneAnswer_of_badCrc {w : Nat} (s : State) (t : Nat) (b : Bool) (hpre : field w 36 4 = 13)
    (hcrc : crc8 (field w 8 28) 28 ≠ w % 256) : s.laneAnswer t (some w) b =
      ⟨s.updLane t (fun ln => { ln with crcErrors := satAdd 32 ln.crcErrors 1 }), some (responseFrame 1 0 0), true,
        false⟩ := by
  simp [State.laneAnswer, hpre, hcrc]

/-- The load has nothing to say. -/
theorem State.laneAnswer_of_quiet {k seq : Nat} (s : State) (t : Nat) (hk : k < 4) (hseq : seq < 16) :
    s.laneAnswer t (some (requestFrame k 0x3F 0 seq)) false =
      ⟨s.laneLast t k 0x3F 0 (responseFrame 0 k 0), some (responseFrame 0 k 0), false, true⟩ := by
  obtain ⟨hpre, hcrc, hslot, hop, hpayload, -⟩ := request_fields k 0x3F 0 seq hk (by decide) (by decide) hseq
  simp [State.laneAnswer, hpre, hcrc, hslot, hop, hpayload]

/-- A POLL leaves the SEQ and the answer that the lane keeps of the last request (R264). -/
theorem State.polled_keeps_last (s : State) (t : Nat) :
    ((s.polled t).lane t).seqValid = (s.lane t).seqValid ∧ ((s.polled t).lane t).lastSeq = (s.lane t).lastSeq ∧
      ((s.polled t).lane t).stored = (s.lane t).stored := by
  rw [State.polled, State.lane_updLane]
  exact ⟨rfl, rfl, rfl⟩

/-- The load repeats its last request. -/
theorem State.laneAnswer_of_repeated {s : State} {t k op v seq : Nat} (hk : k < 4) (hop : op < 0x3F) (hv : v < 65536)
    (hseq : seq < 16) (hvalid : (s.lane t).seqValid = true) (hlast : (s.lane t).lastSeq = seq) :
    s.laneAnswer t (some (requestFrame k op v seq)) false =
      ⟨(s.updLane t (fun ln => { ln with dups := satAdd 32 ln.dups 1 })).laneLast t k op v (s.lane t).stored,
        some (s.lane t).stored, false, true⟩ := by
  obtain ⟨hpre, hcrc, hslot, hopcode, hpayload, hnumber⟩ := request_fields k op v seq hk (by omega) hv hseq
  simp [State.laneAnswer, hpre, hcrc, hslot, hopcode, hpayload, hnumber, hop.ne, hvalid, hlast]

/-! ### Back-off, held settings and the supply -/

/-- The end of a back-off (R265). -/
theorem State.backoffEnds_of_backoff {s : State} {t : Nat} (htile : s.hasTile t = true) (hback : (s.lane t).backoff = true) :
    s.backoffEnds t =
      (s.reach (s.lane t).backoffUntil).updLane t (fun ln => { ln with backoff := false, fails := 0 }) := by
  simp [State.backoffEnds, htile, hback]

/-- One held write of LANE_CFG is carried out at the end of the transaction, and answered where a client waits (R273). -/
theorem State.applyLaneCfg_of_one {s : State} {t sub w : Nat} {ch : Option Chan}
    (hheld : (s.lane t).heldCfg = [(ch, sub, w)]) :
    s.applyLaneCfg t =
      let x := ((s.reach (s.lane t).transEnd).updLane t (fun ln => { ln with heldCfg := [] })).putX .laneCfg t
        (0x5000 + t) sub w
      ch.elim x (x.answer · (.ok [])) := by
  simp only [State.applyLaneCfg, hheld, List.foldl]
  cases ch <;> rfl

/-- A supply of the lane outside the window of its strap (R49, R561). -/
theorem State.laneLevel_of_bad {s : State} {t mv : Nat} (htile : s.hasTile t = true) (hmode : s.md.mode ≠ .reset)
    (hfirst : (s.tile t).laneLevelFault = false) (hbad : vlaneGood (bit s.pins.lvsel t) mv = false) :
    s.laneLevel t mv = (((s.updTile t (fun ti => { ti with laneLevelFault := true })).laneStops t).dictOwns t).report t
      srcLane 0x0703 3 t [] := by
  simp [State.laneLevel, htile, hmode, hfirst, hbad]

/-- Settles O25, by the check of the answer, and what each operation does under its conditions. -/
theorem lanePollsComplete : Obligations.LanePollsComplete := by
  intro s t k seq op v
  refine ⟨fun htile hon hidle hk hseq => ?quiet, fun htile hon hidle hleft => ?missing,
    fun htile hon hidle hlast => ?exhausted, fun w htile hon hidle hleft hpre hcrc => ?badCrc,
    fun htile hon hidle hk hop hv hseq hvalid hlast => ?repeated,
    fun htile hback => congrArg Host.Outcome.next (State.backoffEnds_of_backoff htile hback),
    fun ch sub w x htile hheld hx => ?held,
    fun mv htile hmode hfirst hbad => congrArg Host.Outcome.next (State.laneLevel_of_bad htile hmode hfirst hbad)⟩
  case quiet =>
    exact congrArg Host.Outcome.next
      (State.transact_of_passes htile hon hidle ((s.polled t).laneAnswer_of_quiet t hk hseq))
  case missing =>
    have h := State.transact_of_fails htile hon hidle ((s.polled t).laneAnswer_of_none t false) fun _ => rfl
    exact congrArg Host.Outcome.next (h.trans (if_neg (by omega)))
  case exhausted =>
    have h := State.transact_of_fails htile hon hidle ((s.polled t).laneAnswer_of_none t false) fun _ => rfl
    exact congrArg Host.Outcome.next (h.trans (if_pos hlast))
  case badCrc =>
    have hans := (s.polled t).laneAnswer_of_badCrc t false hpre hcrc
    have h := State.transact_of_fails htile hon hidle hans fun _ => rfl
    exact congrArg Host.Outcome.next (h.trans (if_neg (by omega)))
  case repeated =>
    obtain ⟨hv1, hl1, hs1⟩ := s.polled_keeps_last t
    have hans := State.laneAnswer_of_repeated hk hop hv hseq (hv1.trans hvalid) (hl1.trans hlast)
    rw [hs1] at hans
    exact congrArg Host.Outcome.next (State.transact_of_passes htile hon hidle hans)
  case held =>
    have hrun : exec (.laneCfgHeldWrite t) s = .next (s.applyLaneCfg t) := congrArg Host.Outcome.next (if_pos htile)
    rw [hrun, State.applyLaneCfg_of_one hheld, hx]
    exact ⟨fun hch => by rw [hch]; rfl, fun c hch => by rw [hch]; rfl⟩

end Sys2Proof.Machine
end

section
/-! Frame slots: their values, hashes and losses (R82, R282, R287, R289, R292). -/

namespace Sys2Proof.Machine

/-! ### The hashes of a slot and the mismatch frame (R287) -/

/-- A slot whose hashes are the receiver's own notes no difference. -/
theorem State.compareHashes_of_equal {s : State} {r t : Nat} {hs : List Nat}
    (h : ∀ l ∈ s.sharedLoops r t, hs.getD (s.slotOf l t) 0 = s.link.hashes.get 0 (4 * r + s.slotOf l r)) :
    s.compareHashes r t hs = s := by
  unfold State.compareHashes
  generalize s.sharedLoops r t = ls at h
  induction ls with
  | nil => rfl
  | cons l ls ih =>
    rw [List.forall_mem_cons] at h
    rw [List.foldl_cons, if_neg (not_not.mpr h.1), ih h.2]

/-- The first difference of a frame is noted with its receiver and its sender. -/
theorem State.hashDiffers_of_first {s : State} {l : Nat} (r t : Nat) (h : (s.loop l).pr.differ = none) :
    ((s.hashDiffers l r t).loop l).pr.differ = some (r, 2 ^ t) := by
  simp [State.hashDiffers, h]

/-- A difference makes a mismatch frame once every needed slot has arrived, all good. -/
theorem State.hashLook_of_differ {s : State} {l : Nat} {d : Nat × Nat} (hdiffer : (s.loop l).pr.differ = some d)
    (hin : s.slotsIn l = true) (hgood : s.slotsBad l = false) : s.hashLook l = s.mismatch l d.1 d.2 := by
  simp [State.hashLook, hdiffer, hin, hgood]

/-- Without a difference, with a slot to come or with a bad one, the frame is no mismatch frame. -/
theorem State.hashLook_of_none {s : State} {l : Nat}
    (h : (s.loop l).pr.differ = none ∨ s.slotsIn l = false ∨ s.slotsBad l = true) : s.hashLook l = s := by
  unfold State.hashLook
  split
  · next d hd =>
    rcases h with hnone | hin | hbad
    · exact absurd (hnone.symm.trans hd) (by simp)
    · simp [hin]
    · simp [hbad]
  · rfl

/-- The first mismatch frame is recorded with severity 2. -/
theorem State.mismatch_of_first {s : State} {l : Nat} (r b : Nat) (h : (s.loop l).pr.mismatch = 0) :
    s.mismatch l r b =
      ({ s.updLoop l (fun lp => { lp with pr := { lp.pr with mismatch := 1 } }) with
        link := { s.link with hashMismatch := satAdd 32 s.link.hashMismatch 1 } } : State).report r srcPort 0x0204 2 l [b] := by
  simp [State.mismatch, h]

/-- The next one in succession is a replica mismatch. -/
theorem State.mismatch_of_next {s : State} {l : Nat} (r b : Nat) (h : (s.loop l).pr.mismatch ≠ 0) :
    s.mismatch l r b =
      (({ s.updLoop l (fun lp => { lp with pr := { lp.pr with mismatch := (s.loop l).pr.mismatch + 1 } }) with
        link := { s.link with hashMismatch := satAdd 32 s.link.hashMismatch 1 } } : State).report r srcPort 0x0205 5 l
          [b]).dangerous [l] r 0x0205 l false := by
  simp [State.mismatch, h]

/-! ### A frame slot by its CRC (R282, R289, R290) -/

/-- On a pair that carries traffic a slot is used 1,028 ns after its boundary, and seen once (R282). -/
theorem State.frameSlot_of_pairUp {s s0 : State} {r t : Nat} {look : State → State} (bs : List Nat)
    (hup : s.pairUp r t = true)
    (h0 : s0 = { s.reach (s.frame * ticksPerFrame + 514) with
      link := { s.link with slotSeen := setBit s.link.slotSeen (8 * r + t) } })
    (hlook : look = fun x =>
      if bit s.link.slotSeen (8 * r + t) = true then x else (s.sharedLoops r t).foldl State.hashLook x) :
    s.frameSlot r t bs =
      look (if frameCrcOk bs then s0.frameSlotGood r t (frameFields bs) else s0.frameSlotBad r t) := by
  subst h0 hlook
  exact if_pos hup

/-- A slot whose CRC passes and whose DEVICE_TIME is the receiver's (R282, R292). -/
theorem State.frameSlotGood_of_time {s s1 : State} {r t : Nat} {f : FrameSlot}
    (h1 : s1 = { s with link := { s.link with badFrame := s.link.badFrame.set 0 (8 * r + t) 0 } })
    (htime : f.deviceTime = s.frame * ticksPerFrame) :
    s.frameSlotGood r t f =
      let x := (s1.compareHashes r t f.hashes).commitSeen r t f
      (if f.commitMiss then x.missSeen r t else x).takeValues r t f := by
  subst h1
  simp [State.frameSlotGood, htime]

/-- A slot whose CRC passes and whose DEVICE_TIME differs (R292). -/
theorem State.frameSlotGood_of_otherTime {s s1 : State} {r t : Nat} {f : FrameSlot}
    (h1 : s1 = { s with link := { s.link with badFrame := s.link.badFrame.set 0 (8 * r + t) 0 } })
    (htime : f.deviceTime ≠ s.frame * ticksPerFrame) :
    s.frameSlotGood r t f =
      let x := ((s1.timeWrong r t).compareHashes r t f.hashes).commitSeen r t f
      (if f.commitMiss then x.missSeen r t else x).takeValues r t f := by
  subst h1
  simp [State.frameSlotGood, htime]

/-- A corrupted slot is counted and loses the slots of the loops shared; the next one in succession is the loss of the port
(R289, R290). -/
theorem State.frameSlotBad_cases {s s1 : State} {r t : Nat}
    (h1 : s1 = { s with link := { s.link with
      frameErrors := satAdd 32 s.link.frameErrors 1
      badFrame := s.link.badFrame.set 0 (8 * r + t) (s.link.badFrame.get 0 (8 * r + t) + 1)
      slotBad := setBit s.link.slotBad (8 * r + t) } }) :
    s.frameSlotBad r t =
      let x := ((s.sharedLoops r t).foldl (fun x m => (x.slotLost m r t 2).slotGone m t) s1).missCommit r t
      if s.link.badFrame.get 0 (8 * r + t) = 0 then x else x.portLost r t := by
  subst h1
  by_cases hfirst : s.link.badFrame.get 0 (8 * r + t) = 0
  · have hone : ¬ 2 ≤ s.link.badFrame.get 0 (8 * r + t) + 1 := by omega
    exact (if_neg hone).trans (if_pos hfirst).symm
  · have hmore : 2 ≤ s.link.badFrame.get 0 (8 * r + t) + 1 := by omega
    exact (if_pos hmore).trans (if_neg hfirst).symm

/-- Settles O27, by the CRC and DEVICE_TIME of the slot, and by what each operation on hashes does. -/
theorem linkFrameSlots : Obligations.LinkFrameSlots := by
  intro s s0 s1 r t l bs f look hup h0 hlook
  have hslot := State.frameSlot_of_pairUp bs hup h0 hlook
  subst h0
  refine ⟨fun h1 hcrc hf htime hmiss hsame => ?same, fun h1 hcrc hf htime hmiss => ?otherTime,
    fun h1 hcrc hf htime hmiss => ?missed, fun h1 hcrc hfirst => ?corrupted, fun h1 hcrc hmore => ?lost,
    fun _ => State.hashDiffers_of_first r t, fun _ => State.hashLook_of_differ, State.hashLook_of_none,
    State.mismatch_of_first r, State.mismatch_of_next r⟩
  all_goals refine congrArg Host.Outcome.next (hslot.trans (congrArg look ?_))
  case same =>
    have hequal : s1.compareHashes r t f.hashes = s1 := by
      subst h1
      exact State.compareHashes_of_equal hsame
    rw [if_pos hcrc, ← hf, State.frameSlotGood_of_time h1 htime, hequal, hmiss]
    rfl
  case otherTime =>
    rw [if_pos hcrc, ← hf, State.frameSlotGood_of_otherTime h1 htime, hmiss]
    rfl
  case missed =>
    rw [if_pos hcrc, ← hf, State.frameSlotGood_of_time h1 htime, hmiss]
    rfl
  case corrupted =>
    rw [if_neg (by simp [hcrc]), State.frameSlotBad_cases h1]
    exact if_pos hfirst
  case lost =>
    rw [if_neg (by simp [hcrc]), State.frameSlotBad_cases h1]
    exact if_neg hmore

end Sys2Proof.Machine
end

section
/-! The mode requests, HOLD_CLEAR and SERVICE_ENTER (R101 to R106, R114). -/

namespace Sys2Proof.Machine

/-! ### What the operations on loops, rails and records leave of the course of the part -/

/-- Modes, clock and sequence: the course that the part takes. -/
def State.course (s : State) : ModeGrp × ClkGrp × SeqGrp := (s.md, s.clk, s.seq)

@[simp] theorem State.report_course (s : State) (t src code sev inst : Nat) (data : List Nat) :
    (s.report t src code sev inst data).course = s.course := by
  unfold State.report
  split <;> rfl

@[simp] theorem State.loopReport_course (s : State) (src : Nat → Nat) (l code sev : Nat) (data : List Nat) :
    (s.loopReport src l code sev data).course = s.course := State.report_course ..

@[simp] theorem State.passEntries_course (n : Nat) (s : State) (t at_ : Nat) :
    (State.passEntries n s t at_).course = s.course := by
  induction n generalizing s with
  | zero => rfl
  | succ n ih =>
    unfold State.passEntries
    dsimp only
    split
    · rfl
    · split
      · rfl
      · exact ih _

@[simp] theorem State.triggerOne_course (s : State) (t kind at_ : Nat) (here : Nat → Bool) (v : Nat) :
    (s.triggerOne t kind at_ here v).course = s.course := by
  unfold State.triggerOne
  dsimp only
  split <;> rfl

@[simp] theorem State.triggerTap_course (s : State) (t i at_ : Nat) : (s.triggerTap t i at_).course = s.course := by
  refine (foldl_inv State.course _ (fun _ _ => State.triggerOne_course ..) _ _).trans ?_
  exact (State.passEntries_course ..).trans (State.passEntries_course ..)

@[simp] theorem State.tap_course (s : State) (p ev at_ : Nat) : (s.tap p ev at_).course = s.course := by
  refine foldl_inv State.course _ (fun x i => ?_) _ _
  dsimp only
  split
  · exact State.triggerTap_course ..
  · rfl

@[simp] theorem State.flushTaps_course (s : State) (p : Nat) : (s.flushTaps p).course = s.course := by
  have h := foldl_inv State.course (fun x e => x.tap e.2.1 e.2.2 (e.1 / 32)) (fun _ _ => State.tap_course ..)
    (s.tapsDue (p / 16)) s
  simpa [State.flushTaps, State.flushTile, State.course] using h

@[simp] theorem State.phasesOffAt_course (s : State) (ps : List Nat) (at_ : Nat) :
    (s.phasesOffAt ps at_).course = s.course :=
  foldl_inv State.course _ State.flushTaps_course _ _

@[simp] theorem State.abortLearn_course (s : State) (l : Nat) : (s.abortLearn l).course = s.course := by
  unfold State.abortLearn
  split
  · exact State.loopReport_course ..
  · rfl

@[simp] theorem State.plausStop_course (s : State) (l : Nat) : (s.plausStop l).course = s.course := by
  unfold State.plausStop
  dsimp only
  split <;> rfl

@[simp] theorem State.levelRecord_course (s : State) (l : Nat) (old new : Int) (n : Nat) :
    (s.levelRecord l old new n).course = s.course := by
  unfold State.levelRecord
  split
  · rfl
  · exact State.loopReport_course ..

@[simp] theorem State.endBurst_course (s : State) (l cause : Nat) : (s.endBurst l cause).course = s.course := by
  unfold State.endBurst
  split
  · rfl
  · exact (State.loopReport_course ..).trans (State.levelRecord_course ..)

@[simp] theorem State.loopOffAt_course (s : State) (l st at_ : Nat) : (s.loopOffAt l st at_).course = s.course :=
  (State.phasesOffAt_course ..).trans ((State.plausStop_course ..).trans (State.abortLearn_course ..))

@[simp] theorem State.softStop_course (s : State) (l : Nat) : (s.softStop l).course = s.course := by
  have hrecord (c : Prop) [Decidable c] (data : List Nat) :
      (if c then s else s.loopReport srcTrans l 0x0408 1 data).course = s.course := by
    split
    · rfl
    · exact State.loopReport_course ..
  unfold State.softStop
  dsimp only
  split
  · rfl
  · split
    · exact (State.loopOffAt_course ..).trans (hrecord ..)
    · have hstopped (x : State) : (((x.abortLearn l).plausStop l).endBurst l 5).course = x.course :=
        (State.endBurst_course ..).trans ((State.plausStop_course ..).trans (State.abortLearn_course ..))
      simp only [State.course, Prod.mk.injEq] at hstopped hrecord
      simp [State.course, State.noteEdges, State.noteEdgesAt, hstopped, hrecord]

@[simp] theorem State.endHiccup_course (s : State) (n : Nat) : (s.endHiccup n).course = s.course := by
  unfold State.endHiccup
  split
  · split <;> rfl
  · rfl

@[simp] theorem State.railOff_course (s : State) (n st : Nat) : (s.railOff n st).course = s.course := by
  unfold State.railOff
  dsimp only
  split
  · split
    · exact (State.softStop_course ..).trans (State.endHiccup_course ..)
    · rfl
  · rfl

@[simp] theorem State.loopCleared_course (s : State) (l : Nat) : (s.loopCleared l).course = s.course := by
  unfold State.loopCleared
  dsimp only
  split <;> rfl

/-- The rest of a sequence that is over: its direction is 0; modes and clock stay (R105). -/
theorem State.seqRest_course (s : State) :
    s.seqRest.md = s.md ∧ s.seqRest.clk = s.clk ∧ s.seqRest.seq.dir = 0 := by
  have hoff (x : State) (ns : List Nat) : (ns.foldl (fun s n => s.railOff n 0) x).course = x.course :=
    foldl_inv State.course _ (fun _ _ => State.railOff_course ..) _ _
  unfold State.seqRest
  dsimp only
  exact ⟨congrArg (·.1) (hoff ..), congrArg (·.2.1) (hoff ..), congrArg (·.2.2.dir) (hoff ..)⟩

/-- A change of mode writes mode, cause and substate (R91, R112). -/
theorem State.enterMode_course (s : State) (m : Mode) (cause sub : Nat) :
    (s.enterMode m cause sub).course =
      ({ s.md with mode := m, lastCause := cause, substate := sub }, s.clk, s.seq) := by
  have hplaus : (if s.md.mode = .run then (s.loopList.filter s.enabled).foldl State.plausStop s else s).course =
      s.course := by
    split
    · exact foldl_inv State.course _ State.plausStop_course _ _
    · rfl
  exact (State.report_course ..).trans (congrArg (fun c => (_, c.2)) hplaus)

/-! ### The requests -/

/-- REQUEST = 1 in STANDBY outside the pre-start checks (R101, R108). -/
theorem State.modeRequest_configure {s : State} (hmode : s.md.mode = .standby) (hfree : s.md.starting = none) :
    s.modeRequest 1 =
      (({ s with md := { s.md with reqResult := 0, checkDetail := 0, lastReq := 1, restartWait := false } } : State).enterMode
        .configure 4 0, none) := by
  simp [State.modeRequest, State.toConfigure, State.reqAccepted, hmode, hfree]

/-- REQUEST = 2 in CONFIGURE where the entry check passes (R102). -/
theorem State.modeRequest_standby {s : State} (hmode : s.md.mode = .configure) (hpass : s.entryFail = none) :
    s.modeRequest 2 =
      (({ s with md := { s.md with reqResult := 0, checkDetail := 0, lastReq := 2 } } : State).enterMode .standby 4 0,
        none) := by
  simp [State.modeRequest, State.toStandby, State.reqAccepted, hmode, hpass]

/-- REQUEST = 2 in RUN (R106). -/
theorem State.modeRequest_stop {s : State} (hmode : s.md.mode = .run) :
    s.modeRequest 2 =
      (({ s with md := { s.md with reqResult := 0, checkDetail := 0, lastReq := 2 } } : State).requestDown .stop, none) := by
  simp [State.modeRequest, State.stopRequest, State.requestStopSeq, State.reqAccepted, hmode]

/-- REQUEST = 3 in STANDBY where nothing runs yet; a waiting restart goes on waiting (R104, R108). -/
theorem State.modeRequest_run {s : State} (hmode : s.md.mode = .standby) (hfree : s.md.starting = none)
    (hproof : s.md.proofRunning = false) :
    s.modeRequest 3 =
      (({ s with md := { s.md with
        reqResult := 0, checkDetail := 0, lastReq := 3, starting := some .request, startCal := s.cal.state == 1
        substate := 1 } } : State).beginOpenWire 1, none) := by
  have hidle : s.startBusy = false := by simp [State.startBusy, hmode, hfree, hproof]
  have hwait : (s.md.restartWait && RunTrigger.request != .restart) = s.md.restartWait := Bool.and_true _
  simp [State.modeRequest, State.runRequest, State.beginStart, State.reqAccepted, hmode, hidle, hwait]

/-- The clear of a torn-down HOLD without a cause: CONFIGURE with the sequence at rest (R105). -/
theorem State.clearHold_of_clear {s : State} (hmode : s.md.mode = .hold) (hdown : s.md.tornDown = true)
    (hcause : s.anyCause = false) :
    ∃ t, s.clearHold = (t, none) ∧ t.md.mode = .configure ∧ t.md.lastCause = 12 ∧ t.md.tornDown = false ∧
      t.md.downCause = none ∧ t.seq.dir = 0 ∧ t.clk = s.clk := by
  have hcleared (x : State) : (s.loopList.foldl State.loopCleared x).course = x.course :=
    foldl_inv State.course _ State.loopCleared_course _ _
  have hrest := State.seqRest_course
  have henter := State.enterMode_course
  have hreport := State.report_course
  simp only [State.course, Prod.mk.injEq] at hcleared henter hreport
  refine ⟨_, by simp only [State.clearHold, hmode, hdown, hcause]; rfl, ?_⟩
  simp [hreport, henter, hrest, hcleared, State.reqAnswer]

/-- SERVICE from CONFIGURE on a part without FIELD (R101). -/
theorem State.enterService_of_configure {s : State} (hmode : s.md.mode = .configure) (hfield : s.sec.field = false) :
    s.enterService =
      ((({ s with md := { s.md with reqResult := 0, checkDetail := 0 } } : State).enterMode .service 4 0).startManual,
        none) := by
  simp [State.enterService, State.reqAnswer, hmode, hfield]

/-- An admitted write of DEV_MODE_REQ that its own conditions let through is answered with success (R114). -/
theorem State.Admits.write_modeReq {s s1 t : State} {ch : Chan} {sub v i : Nat} {r : Row}
    (h : s.Admits s1 ch 0x2001 sub 1 v .devModeReq i r) (hcls : (Fam.devModeReq.row sub).map (·.cls) = some .l)
    (hlive : s1.live ch .devModeReq i 0x2001 sub v 0 = (t, none)) :
    s.write ch 0x2001 sub 1 v = t.answer ch (.ok []) :=
  h.write_of_live (admits_cls h hcls) (by decide) hlive

/-- Settles O8: each request is an admitted write of DEV_MODE_REQ, whose effect is that of its own condition. -/
theorem modeRequestsComplete : Obligations.ModeRequestsComplete := by
  intro s s1 ch i r
  refine ⟨fun h hmode hfree => ?configure, fun h hmode hpass => ?standby, fun h hmode => ?stop,
    fun h hmode hfree hproof => ?run, fun h hmode hdown hcause => ?holdClear, fun h hmode hfield => ?service⟩
  case configure =>
    exact congrArg Host.Outcome.next (h.write_modeReq rfl (State.modeRequest_configure hmode hfree))
  case standby => exact congrArg Host.Outcome.next (h.write_modeReq rfl (State.modeRequest_standby hmode hpass))
  case stop => exact congrArg Host.Outcome.next (h.write_modeReq rfl (State.modeRequest_stop hmode))
  case run => exact congrArg Host.Outcome.next (h.write_modeReq rfl (State.modeRequest_run hmode hfree hproof))
  case holdClear =>
    obtain ⟨t, ht, hafter⟩ := State.clearHold_of_clear hmode hdown hcause
    exact ⟨t, congrArg Host.Outcome.next (h.write_modeReq rfl ht), ht, hafter⟩
  case service =>
    exact congrArg Host.Outcome.next (h.write_modeReq rfl (State.enterService_of_configure hmode hfield))

end Sys2Proof.Machine
end

section
/-! Targets, manual duties, trim learning, latches and alerts (R93, R140, R206, R208, R240, R268). -/

namespace Sys2Proof.Machine

/-- A target waits for its loop sample, which answers it (R140). -/
theorem State.carryOut_of_target {r : Row} (s : State) (ch : Chan) (l idx sub v w : Nat) (hcls : r.cls = .l) :
    s.carryOut ch .loopTarget l idx sub v r w = (s.newTarget l v (.dict (some ch)), .held) := by
  simp [State.carryOut, hcls]

/-- Two changes of a phase that agree on the phase as it stands. -/
theorem State.updPhase_congr {s : State} {p : Nat} {f g : Phase → Phase} (h : f (s.phase p) = g (s.phase p)) :
    s.updPhase p f = s.updPhase p g := by
  rw [State.updPhase, State.updPhase, upd_congr _ _ _ f g h]

/-- A write of an object leaves the phases alone. -/
@[simp] theorem State.phase_put (s : State) (idx sub v p : Nat) : (s.put idx sub v).phase p = s.phase p := rfl

/-- A manual duty that acts: 0 stops the phase at its next carrier zero, or at once where it waits for the reload of its
counter; another keeps a phase that is on switching and starts one that is off (R93, R179). -/
theorem State.manualWrite_of_manual {s : State} {p : Nat} (v : Nat) (h : s.manual p = true) :
    s.manualWrite p v = (s.put (phaseIdx p 7) 1 v).updPhase p (fun ph =>
      if v = 0 then (if ph.reload then ph.off else ph.stopFrom_ s.now)
      else if ph.on then { ph with stopping := false }
      else { ph.start s.now ((s.put (phaseIdx p 7) 1 v).phaseNow p) 0 with frozen := s.md.halted }) := by
  unfold State.manualWrite
  rw [if_pos h]
  dsimp only
  split
  · next hv =>
    split
    · next hreload => exact State.updPhase_congr (by simp [hv, hreload])
    · next hreload => exact State.updPhase_congr (by simp [hv, hreload])
  · split
    · next hon => exact State.updPhase_congr (by simp [hon])
    · next hon => exact State.updPhase_congr (by simp [hon])

/-- Trim learning starts where every condition holds (R206). -/
theorem State.learnStart_of_mayLearn {s : State} {l : Nat} (h : s.mayLearn l = true) :
    s.learnStart l = (s.startLearn l, none) := if_pos h

/-- An abort of trim learning restores the trims and records the iterations made (R208). -/
theorem State.abortLearn_of_learning {s : State} {l : Nat} (h : s.learning l = true) :
    s.abortLearn l = ((s.restoreTrims l).updLoop l (fun lp =>
      { lp with pp := { lp.pp with learn := 4, learnNo := false } })).loopReport srcReg l 0x030A 1
        [4, (s.loop l).pp.learnIter] := if_pos h

/-- A latched-off loop is cleared (R240). -/
theorem State.clearLatch_of_latched {s : State} {l : Nat} (h : (s.loop l).state = 6) :
    s.clearLatch l = (s.loopCleared l, none) := if_pos h

/-- A clear of alerts takes the bits of its mask from the latch of its loop, and leaves the other loops (R268). -/
theorem State.clearAlerts_latch (s : State) (l mask : Nat) :
    (∀ b, b < 16 → bit ((s.clearAlerts l mask).loop l).ln.latch b = (bit (s.loop l).ln.latch b && !bit mask b)) ∧
      ∀ m, m ≠ l → (s.clearAlerts l mask).loop m = s.loop m := by
  refine ⟨fun b hb => ?_, fun m hm => State.loop_updLoop_other s _ hm⟩
  simp only [State.clearAlerts, State.loop_updLoop, bit_bitmap]
  rw [Bool.eq_iff_iff]
  simp [mem_bitsOf, hb]

/-- Settles O9: each command is an admitted write, whose effect is that of its own condition. -/
theorem loopRequestsComplete : Obligations.LoopRequestsComplete := by
  intro s s1 ch r l p v
  refine ⟨fun hloop h => ?target, fun hphase h hmanual => ?manual, fun hloop h hmay => ?learn,
    fun hloop h hlearning => ?abort, fun hloop h hlatched => ?latch, fun hloop h => ?alerts⟩
  case target =>
    have hw := s.writeAt_of_ok ch (loopIdx l 1) 1 2 v hloop
    have hout := s1.carryOut_of_target ch l (loopIdx l 1) 1 v 0 (admits_cls h rfl)
    exact congrArg Host.Outcome.next (hw.trans (h.write_of_carryOut hout))
  case manual =>
    have hw := s.writeAt_of_ok ch (phaseIdx p 7) 1 2 v hphase
    have hlive : s1.live ch .phaseManual p (phaseIdx p 7) 1 v 0 = (s1.manualWrite p v, none) := rfl
    rw [State.manualWrite_of_manual v hmanual] at hlive
    exact congrArg Host.Outcome.next (hw.trans (h.write_of_live (admits_cls h rfl) (by decide) hlive))
  case learn =>
    have hw := s.writeAt_of_ok ch (loopIdx l 0x10) 1 1 1 hloop
    exact congrArg Host.Outcome.next
      (hw.trans (h.write_of_live (admits_cls h rfl) (by decide) (State.learnStart_of_mayLearn hmay)))
  case abort =>
    have hw := s.writeAt_of_ok ch (loopIdx l 0x10) 1 1 2 hloop
    have hlive : s1.live ch .loopTrimLearn l (loopIdx l 0x10) 1 2 0 = (s1.abortLearn l, none) := rfl
    rw [State.abortLearn_of_learning hlearning] at hlive
    exact congrArg Host.Outcome.next (hw.trans (h.write_of_live (admits_cls h rfl) (by decide) hlive))
  case latch =>
    have hw := s.writeAt_of_ok ch (loopIdx l 0xE) 6 1 v hloop
    have hstate := congrArg Loop.state (loopCleared_at s1 l (.inl hlatched))
    exact ⟨_, congrArg Host.Outcome.next
        (hw.trans (h.write_of_live (admits_cls h rfl) (by decide) (State.clearLatch_of_latched hlatched))),
      rfl, hstate, loopCleared_other s1 l⟩
  case alerts =>
    have hw := s.writeAt_of_ok ch (0x5010 + l) 9 2 v hloop
    obtain ⟨hlatch, hother⟩ := s1.clearAlerts_latch l v
    exact ⟨_, congrArg Host.Outcome.next (hw.trans (h.write_of_live (admits_cls h rfl) (by decide) rfl)), rfl, hlatch,
      hother⟩

end Sys2Proof.Machine
end

section
/-! NMT commands and Reset Communication (R101, R110, R111, R471, R486, R513). -/

namespace Sys2Proof.Machine

/-! ### Start, Stop and Enter Pre-operational -/

/-- Start where NMT_START is not 1 sets OPERATIONAL alone (R110). -/
theorem State.nmtStart_of_off {s : State} {c : CanChan} (hheard : s.nmtHeard c = true) (hoff : s.ob 0x2000 6 ≠ 1) :
    s.nmtStart c = { s with net := s.net.setNmt c .operational } := by
  simp [State.nmtStart, hheard, hoff]

/-- Start with NMT_START 1, while no checks, RUN or proof test go on, begins the checks in STANDBY and is refused with a
record elsewhere; `s1` is the state with the channel operational (R101, R110). -/
theorem State.nmtStart_of_trigger {s s1 : State} {c : CanChan} (hheard : s.nmtHeard c = true) (hon : s.ob 0x2000 6 = 1)
    (hfree : s.startBusy = false) (h1 : s1 = { s with net := s.net.setNmt c .operational }) :
    s.nmtStart c = if s.md.mode = .standby then s1.beginStart .nmtStart
      else s1.report 0 srcMode 0x0003 1 0xFFFF [3] := by
  subst h1
  simp [State.nmtStart, hheard, hon, hfree, State.triggerRecord]

/-- Stop and Enter Pre-operational set the state of the channel (R110). -/
theorem State.nmtSet_of_heard {s : State} {c : CanChan} (m : Nmt) (hheard : s.nmtHeard c = true) :
    s.nmtSet c m = { s with net := s.net.setNmt c m } := if_pos hheard

/-! ### Reset Communication -/

/-- What Reset Communication touches (R110, R513). -/
theorem State.resetComm_frame (s : State) (c : CanChan) :
    s.resetComm c = { s with
      net := (s.resetComm c).net, sec := s.sec.leave c, obj := (s.resetComm c).obj, loops := (s.resetComm c).loops
      lanes := (s.resetComm c).lanes, cel := (s.resetComm c).cel } := rfl

/-- The requests held are those that no client of the channel waits for, and that no RPDO of the channel brought (R513). -/
theorem State.mem_heldReqs_resetComm (s : State) (c : CanChan) (h : HeldReq) :
    h ∈ (s.resetComm c).obj.heldReqs ↔ h ∈ s.obj.heldReqs ∧ (∀ ch, h.chan = some ch → chanBus ch ≠ canChan c) ∧
      ∀ n bs, h = .rpdo n bs → s.rpdoCan n ≠ c := by
  cases h <;> simp [State.resetComm, State.endTransfers, State.silence, HeldReq.chan]

/-- The boot-up message leaves the transfers. -/
@[simp] theorem NetGrp.bootUp_transfers (n : NetGrp) (c : CanChan) : (n.bootUp c).transfers = n.transfers := by
  cases c <;> simp only [NetGrp.bootUp] <;> split <;> rfl

@[simp] theorem NetGrp.setNmt_transfers (n : NetGrp) (c : CanChan) (m : Nmt) : (n.setNmt c m).transfers = n.transfers := by
  cases c <;> rfl

/-- Reset Communication leaves the transfers that the end of the channel's leaves. -/
theorem State.resetComm_transfers (s : State) (c : CanChan) :
    (s.resetComm c).net.transfers = (s.endTransfers c).net.transfers := by
  cases c <;> simp [State.resetComm]

/-- A number that a filter drops from a table reads as absent. -/
theorem get_filter_of_dropped {α : Type} (d : α) (f : Nat → Bool) {i : Nat} (h : f i = false) (t : Tab α) :
    Tab.get d (t.filter (fun e => f e.1)) i = d := by
  induction t with
  | nil => rfl
  | cons e t ih =>
    rw [List.filter_cons]
    split
    · next hkept =>
      have hi : i ≠ e.1 := fun hi => by simp [← hi, h] at hkept
      simpa [Tab.get, hi] using ih
    · exact ih

/-- A client whose requests end without an answer has no transfer open (R513). -/
theorem State.silence_transferOf (s : State) {mine : Chan → Bool} {ch : Chan} (h : mine ch = true) :
    (s.silence mine).transferOf ch = none := by
  have dropped (k : Nat) (hk : (if h : k < 4 then mine (.canA ⟨k, h⟩) else mine .canB) = true) :
      (s.silence mine).net.transfers.get none k = none :=
    get_filter_of_dropped none (fun k => !(if h : k < 4 then mine (.canA ⟨k, h⟩) else mine .canB)) (by simp [hk]) _
  cases ch with
  | canA k => exact dropped k.val (by simpa using h)
  | canB => exact dropped 4 (by simpa using h)
  | spi => rfl

/-- After Reset Communication no client of the channel has a transfer open (R513). -/
theorem State.resetComm_transferOf (s : State) {c : CanChan} {ch : Chan} (h : chanBus ch = canChan c) :
    (s.resetComm c).transferOf ch = none := by
  have hsilent := s.silence_transferOf (mine := fun x => chanBus x == canChan c) (ch := ch) (by simp [h])
  rw [State.transferOf, State.resetComm_transfers]
  exact hsilent

/-- The session of a channel that is left closes (R471). -/
theorem SecGrp.leave_of_own {g : SecGrp} {c : CanChan} {slot ks : Nat} (h : g.session = some (canChan c, slot, ks)) :
    (g.leave c).session = none := by
  simp [SecGrp.leave, h]

/-- The session of another channel stays (R471). -/
theorem SecGrp.leave_of_other {g : SecGrp} {c : CanChan} {x : Chan × Nat × Nat} (h : g.session = some x)
    (hx : x.1 ≠ canChan c) : g.leave c = g := by
  simp [SecGrp.leave, h, hx]

/-- Settles O16, by what each command does on a channel that is heard. -/
theorem nmtCommands : Obligations.NmtCommands := by
  intro s c f hheard hformat
  have frame (g : State → State) {t : State} (h : g s = t) : Host.Outcome.next (s.onFrame c f g) =
      (.next t : Host.Outcome State Fault Refusal) := congrArg _ ((s.onFrame_of_heard g hformat).trans h)
  refine ⟨fun hmode hon hfree => ?start, fun hoff => frame _ (State.nmtStart_of_off hheard hoff),
    fun hmode hon hfree => ?refused, frame _ (State.nmtSet_of_heard .stopped hheard),
    frame _ (State.nmtSet_of_heard .preOperational hheard), frame _ (if_pos hheard), s.resetComm_frame c,
    s.mem_heldReqs_resetComm c, fun ch => s.resetComm_transferOf, fun slot ks => SecGrp.leave_of_own,
    fun x => SecGrp.leave_of_other⟩
  case start => exact frame _ ((State.nmtStart_of_trigger hheard hon hfree rfl).trans (if_pos hmode))
  case refused => exact frame _ ((State.nmtStart_of_trigger hheard hon hfree rfl).trans (if_neg hmode))

end Sys2Proof.Machine
end

section
/-! Edge decision, carrier zero, loop boundary and read-back (R93, R136, R158, R177, R193, R194, R294). -/

namespace Sys2Proof.Machine

/-! ### Edge decisions (R136) -/

/-- An edge that is still to come is frozen at its decision point. -/
theorem State.edgeDecision_of_undecided {s : State} {p : Nat} (hphase : s.hasPhase p = true) (hdriven : s.driven p = true)
    (hundecided : (s.phase p).decided = false) :
    s.edgeDecision p = (s.reach (s.decisionTime p (s.phase p) (s.dutyTimes p)).2).updPhase p (fun _ =>
      s.decideEdge p (s.decisionTime p (s.phase p) (s.dutyTimes p)).1) := by
  simp [State.edgeDecision, hphase, hdriven, hundecided]

/-- Once the edges of the period are frozen it is the turn of the next rising edge. -/
theorem State.edgeDecision_of_decided {s : State} {p : Nat} (hphase : s.hasPhase p = true) (hdriven : s.driven p = true)
    (hdecided : (s.phase p).decided = true) : s.edgeDecision p = s.freezeAhead p := by
  simp [State.edgeDecision, hphase, hdriven, hdecided]

/-- The next rising edge is frozen where its decision point comes before the carrier zero; `next` is the phase after that
zero. -/
theorem State.freezeAhead_of_before {s : State} {p : Nat} {next : Phase} {d : Nat × Nat}
    (hnext : next = (s.phase p).atZero (s.phase p).nextZero (s.phaseNow p) (s.phase p).offset none)
    (hdecided : (s.phase p).decided = true) (hahead : (s.phase p).ed.ahead = none) (hgoes : (s.phase p).stopping = false)
    (hd : s.decisionTime p next (s.dutyTimes p) = d) (hbefore : d.2 < (s.phase p).nextZero) :
    s.freezeAhead p = (s.reach d.2).updPhase p (fun ph =>
      { ph with ed := { ph.ed with ahead := some (s.commandOn p next d.1) } }) := by
  subst hnext hd
  simp [State.freezeAhead, hdecided, hahead, hgoes, hbefore]

/-! ### Carrier zeros and loop carrier boundaries (R93, R158, R193, R194, R294) -/

/-- The carrier zero that is passed does not lie in the past (R158). -/
theorem Phase.le_zeroAfter (ph : Phase) (now : Nat) : now ≤ ph.zeroAfter now := by
  unfold Phase.zeroAfter
  dsimp only
  split
  · next h => exact h
  · exact Nat.le_add_right ..

/-- The state at the coming carrier zero of a phase, before its events reach the taps: the next rising edge is frozen where it
is due before (R136, R158). -/
def State.atNextZero (s : State) (p : Nat) : State :=
  (if s.driven p = true ∧ s.now < (s.phase p).zeroAfter s.now then s.freezeAhead p else s).reach
    ((s.phase p).zeroAfter s.now)

/-- A phase that switches goes through its carrier zero: it goes off where it is stopping by then, or takes the settings that
are active after the zero has reached its taps (R93, R158, R194). -/
theorem State.carrierZero_of_on {s : State} {p z : Nat} {u : State} (hphase : s.hasPhase p = true)
    (hon : (s.phase p).on = true) (hunfrozen : (s.phase p).frozen = false) (hcounting : (s.phase p).reload = false)
    (hunhalted : s.md.halted = false) (hz : z = (s.phase p).zeroAfter s.now) (hu : u = s.atNextZero p) :
    s.carrierZero p =
      if (s.phase p).stopping = true ∧ (s.phase p).stopFrom ≤ z then
        let v := ((u.noteEdges [p] u.ballsLive).flushTaps p).phasesSwapped [p]
        (v.updPhase p (fun ph => ({ ph with cfg := v.phaseNow p } : Phase).off)).burstZero p z
      else
        let v := (((u.noteEdges [p] (fun _ => false)).flushTaps p).tap p 0 z).phasesSwapped [p]
        (v.updPhase p (fun ph => v.zeroed p ph z (v.phaseNow p) ((v.newOffset p (v.phaseNow p)).getD ph.offset)
          (v.newOffset p (v.phaseNow p)))).burstZero p z := by
  subst hz hu
  by_cases hstops : (s.phase p).stopping = true ∧ (s.phase p).stopFrom ≤ (s.phase p).zeroAfter s.now
  · simp [State.carrierZero, State.atNextZero, hphase, hon, hunfrozen, hcounting, hunhalted, hstops]
  · simp [State.carrierZero, State.atNextZero, hphase, hon, hunfrozen, hcounting, hunhalted, hstops]

/-- A carrier boundary of a loop while device time runs (R193, R194, R294). -/
theorem State.carrierBoundary_of_running {s : State} {l : Nat} (hloop : s.hasLoop l = true) (hrun : s.clk.running = true) :
    s.carrierBoundary l =
      let b := nextCongruent s.now (s.spreadBase l) (s.period l)
      let u := (s.reach b).syncOut l b
      if u.enabled l then u.applyDue l else u := by
  simp [State.carrierBoundary, hloop, hrun]

/-! ### Read-back (R177) -/

/-- A read-back of a phase that switches: `s1` is the state at its instant. -/
theorem State.readback_of_on {s s1 : State} {p : Nat} {h w : Option Bool} (hphase : s.hasPhase p = true)
    (hon : (s.phase p).on = true) (hseen : (s.phase p).zeroSeen = true) (hunfrozen : (s.phase p).frozen = false)
    (hcounting : (s.phase p).reload = false) (hunhalted : s.md.halted = false) (h1 : s1 = s.reach (s.readbackAt p)) :
    s.readback p h w =
      if differs (s1.balls p).1 h || differs (s1.balls p).2 w then
        let s2 := s1.updPhase p (fun ph => { ph with ct := { ph.ct with badNow := true } })
        if (s.phase p).ct.badLast && !(s.phase p).ct.stuck then s2.outputStuck p (if differs (s1.balls p).1 h then 0 else 1)
        else s2
      else s1 := by
  subst h1
  simp [State.readback, hphase, hon, hseen, hunfrozen, hcounting, hunhalted]

/-- Settles O17, by what each operation does to a phase that switches. -/
theorem carrierCommands : Obligations.CarrierCommands := by
  intro s p l v d h w
  refine ⟨fun hphase hdriven hundecided hd => ?edge,
    fun hphase hdriven hdecided => congrArg Host.Outcome.next (State.edgeDecision_of_decided hphase hdriven hdecided),
    State.freezeAhead_of_before rfl, fun hphase hon hunfrozen hcounting hunhalted => ?zero, fun hloop hrun => ?boundary,
    fun hphase hon hseen hunfrozen hcounting hunhalted hhigh hlow => ?agrees,
    fun hphase hon hseen hunfrozen hcounting hunhalted hhigh hfirst => ?noted,
    fun hphase hon hseen hunfrozen hcounting hunhalted hlast hnew u hu => ?stuck⟩
  case edge =>
    refine ⟨_, congrArg Host.Outcome.next (State.edgeDecision_of_undecided hphase hdriven hundecided), ?_⟩
    rw [← hd]
    exact ⟨rfl, State.phase_updPhase .., fun q hq => State.phase_updPhase_other _ _ hq, rfl⟩
  case zero =>
    have hzero := State.carrierZero_of_on hphase hon hunfrozen hcounting hunhalted rfl rfl
    refine ⟨_, _, rfl, (s.phase p).le_zeroAfter s.now, rfl, fun hstops hby hv => ?_, fun hgoes hv => ?_⟩
    · subst hv
      exact congrArg Host.Outcome.next (hzero.trans (if_pos ⟨hstops, hby⟩))
    · subst hv
      have hnot : ¬ ((s.phase p).stopping = true ∧ (s.phase p).stopFrom ≤ (s.phase p).zeroAfter s.now) := by
        rintro ⟨hstops, hby⟩
        rcases hgoes with hgoes | hlater
        · simp [hgoes] at hstops
        · omega
      exact congrArg Host.Outcome.next (hzero.trans (if_neg hnot))
  case boundary => exact ⟨_, _, rfl, rfl, congrArg Host.Outcome.next (State.carrierBoundary_of_running hloop hrun)⟩
  case agrees =>
    have hread := State.readback_of_on (h := h) (w := w) hphase hon hseen hunfrozen hcounting hunhalted rfl
    exact congrArg Host.Outcome.next (hread.trans (if_neg (by simp [hhigh, hlow])))
  case noted =>
    have hread := State.readback_of_on (h := h) (w := w) hphase hon hseen hunfrozen hcounting hunhalted rfl
    exact congrArg Host.Outcome.next ((hread.trans (if_pos (by simp [hhigh]))).trans (if_neg (by simp [hfirst])))
  case stuck =>
    have hread := State.readback_of_on (h := h) (w := w) hphase hon hseen hunfrozen hcounting hunhalted rfl
    have hsecond : ((s.phase p).ct.badLast && !(s.phase p).ct.stuck) = true := by simp [hlast, hnew]
    have hfault (hbad : (differs ((s.reach (s.readbackAt p)).balls p).1 h ||
        differs ((s.reach (s.readbackAt p)).balls p).2 w) = true) :
        s.readback p h w = u.outputStuck p (if differs ((s.reach (s.readbackAt p)).balls p).1 h then 0 else 1) :=
      hu ▸ (hread.trans (if_pos hbad)).trans (if_pos hsecond)
    refine ⟨fun hhigh => ?_, fun hhigh hlow => ?_⟩
    · exact congrArg Host.Outcome.next ((hfault (by simp [hhigh])).trans (by rw [if_pos hhigh]))
    · exact congrArg Host.Outcome.next ((hfault (by simp [hlow])).trans (by rw [if_neg (by simp [hhigh])]))

end Sys2Proof.Machine
end

section
/-! The compensator and the reference of a loop (R123 to R125, R139). -/

namespace Sys2Proof.Machine

/-! ### Rounding -/

/-- A whole number is within a rounded-down quotient exactly when its product is within the number divided. -/
theorem le_floorDiv_iff {m n d : Int} (hd : 0 < d) : m ≤ floorDiv n d ↔ m * d ≤ n := by
  rw [floorDiv, Int.fdiv_eq_ediv_of_nonneg n hd.le, Int.le_ediv_iff_mul_le hd]

/-- The rounded quotient is a nearest number, the upper one of a tie. -/
theorem roundUp_bounds (n : Nat) {d : Nat} (hd : 0 < d) :
    2 * (roundUp n d * d) ≤ 2 * n + d ∧ 2 * n < 2 * (roundUp n d * d) + d := by
  have hdiv : 2 * d * roundUp n d + (2 * n + d) % (2 * d) = 2 * n + d := Nat.div_add_mod ..
  have hrest : (2 * n + d) % (2 * d) < 2 * d := Nat.mod_lt _ (by omega)
  have hprod : 2 * d * roundUp n d = 2 * (roundUp n d * d) := by ring
  omega

/-! ### The clamp of u (R123, R124) -/

/-- u as the sum gives it, before the clamp (R123). -/
def LoopComp.freeU (c : LoopComp) (k : List Int) (e : Int) : Int := floorDiv (c.acc k e) (2 ^ 29)

/-- u before the clamp, folded from the quotient that `LoopComp.next` forms. -/
theorem LoopComp.floorDiv_acc (c : LoopComp) (k : List Int) (e : Int) : floorDiv (c.acc k e) (2 ^ 29) = c.freeU k e := rfl

/-- The sum is at `m` or above, in units of u, exactly when u before the clamp is. -/
theorem LoopComp.le_freeU_iff {c : LoopComp} {k : List Int} {e m : Int} : m ≤ c.freeU k e ↔ m * 2 ^ 29 ≤ c.acc k e :=
  le_floorDiv_iff (by norm_num)

/-- The sum is below `m`, in units of u, exactly when u before the clamp is. -/
theorem LoopComp.freeU_lt_iff {c : LoopComp} {k : List Int} {e m : Int} : c.freeU k e < m ↔ c.acc k e < m * 2 ^ 29 :=
  lt_iff_lt_of_le_iff_le le_freeU_iff

/-- What u before the clamp leaves of the sum is less than one unit of u. -/
theorem LoopComp.freeU_rest (c : LoopComp) (k : List Int) (e : Int) :
    0 ≤ c.acc k e - c.freeU k e * 2 ^ 29 ∧ c.acc k e - c.freeU k e * 2 ^ 29 < 2 ^ 29 := by
  have hlow : c.freeU k e * 2 ^ 29 ≤ c.acc k e := le_freeU_iff.mp le_rfl
  have hhigh : c.acc k e < (c.freeU k e + 1) * 2 ^ 29 := freeU_lt_iff.mp (Int.lt_add_one_of_le le_rfl)
  omega

section
variable {c : LoopComp} {k : List Int} {dmin dmax f : Nat} {e : Int} (hf : f = Nat.max 1 c.ff)
include hf

/-- u beyond its upper limit is clamped there. -/
theorem LoopComp.next_of_above (hroom : uMin dmin f ≤ uMax dmax f) (h : uMax dmax f < c.freeU k e) :
    (c.next k dmin dmax e).u1 = uMax dmax f ∧ (c.next k dmin dmax e).res = 0 ∧ (c.next k dmin dmax e).atMax = true := by
  subst hf
  simp [next, floorDiv_acc, h, not_lt.mpr hroom, -Int.reducePow]

/-- u beyond its lower limit is clamped there. -/
theorem LoopComp.next_of_below (hroom : uMin dmin f ≤ uMax dmax f) (h : c.freeU k e < uMin dmin f) :
    (c.next k dmin dmax e).u1 = uMin dmin f ∧ (c.next k dmin dmax e).res = 0 ∧ (c.next k dmin dmax e).atMin = true := by
  subst hf
  simp [next, floorDiv_acc, h, not_lt.mpr (h.le.trans hroom), -Int.reducePow]

/-- u within its limits stays, and the residue is what it leaves of the sum. -/
theorem LoopComp.next_of_between (hlow : uMin dmin f ≤ c.freeU k e) (hhigh : c.freeU k e ≤ uMax dmax f) :
    (c.next k dmin dmax e).u1 = c.freeU k e ∧
      (c.next k dmin dmax e).res = c.acc k e - c.freeU k e * 2 ^ 29 := by
  subst hf
  simp [next, floorDiv_acc, not_lt.mpr hlow, not_lt.mpr hhigh, -Int.reducePow]

/-- The clamped u lies within its limits, and the residue below one unit of u. -/
theorem LoopComp.next_bounds (hroom : uMin dmin f ≤ uMax dmax f) :
    (uMin dmin f ≤ (c.next k dmin dmax e).u1 ∧ (c.next k dmin dmax e).u1 ≤ uMax dmax f) ∧
      0 ≤ (c.next k dmin dmax e).res ∧ (c.next k dmin dmax e).res < 2 ^ 29 := by
  rcases lt_or_ge (uMax dmax f) (c.freeU k e) with habove | hhigh
  · obtain ⟨hu, hres, -⟩ := next_of_above hf hroom habove
    simp [hu, hres, hroom]
  rcases lt_or_ge (c.freeU k e) (uMin dmin f) with hbelow | hlow
  · obtain ⟨hu, hres, -⟩ := next_of_below hf hroom hbelow
    simp [hu, hres, hroom]
  · obtain ⟨hu, hres⟩ := next_of_between hf hlow hhigh
    rw [hu, hres]
    exact ⟨⟨hlow, hhigh⟩, c.freeU_rest k e⟩

end

/-- The duty command stays from DUTY_MIN to DUTY_MAX (R125). -/
theorem LoopComp.next_duty_bounds (c : LoopComp) (k : List Int) {dmin dmax : Nat} (e : Int) (h : dmin ≤ dmax) :
    dmin ≤ (c.next k dmin dmax e).duty ∧ (c.next k dmin dmax e).duty ≤ dmax := by
  simp only [next, clampI]
  omega

/-- After a sample that leaves no residue the next sum is formed from the histories alone. -/
theorem LoopComp.acc_next_of_res {c : LoopComp} {k : List Int} {dmin dmax : Nat} {e : Int}
    (h : (c.next k dmin dmax e).res = 0) (e1 : Int) :
    (c.next k dmin dmax e).acc k e1 =
      k.getD 0 0 * (c.next k dmin dmax e).u1 + k.getD 1 0 * c.u1 + k.getD 2 0 * c.u2 +
        (k.getD 3 0 * e1 + k.getD 4 0 * e + k.getD 5 0 * c.e1) * 2 ^ 18 := by
  rw [acc, h, add_zero]
  rfl

/-- Settles O48, by where u of the sum lies among the limits. -/
theorem antiWindup : Obligations.AntiWindup := by
  intro c k dmin dmax f e e1 hf hduty hroom n
  obtain ⟨⟨hmin, hmax⟩, hres⟩ := LoopComp.next_bounds (k := k) (e := e) hf hroom
  obtain ⟨hdmin, hdmax⟩ := c.next_duty_bounds k e hduty
  refine ⟨hmin, hmax, hdmin, hdmax, rfl, rfl, rfl, rfl, hres.1, hres.2, fun habove => ?above, fun hbelow => ?below,
    fun hlow hhigh => ?between⟩
  case above =>
    obtain ⟨hu, hres, hat⟩ := LoopComp.next_of_above hf hroom (Int.lt_of_add_one_le (LoopComp.le_freeU_iff.mpr habove))
    exact ⟨hu, hres, hat, hu ▸ LoopComp.acc_next_of_res hres e1⟩
  case below =>
    obtain ⟨hu, hres, hat⟩ := LoopComp.next_of_below hf hroom (LoopComp.freeU_lt_iff.mpr hbelow)
    exact ⟨hu, hres, hat, hu ▸ LoopComp.acc_next_of_res hres e1⟩
  case between =>
    obtain ⟨hu, hres⟩ := LoopComp.next_of_between hf (LoopComp.le_freeU_iff.mpr hlow)
      (Int.le_of_lt_add_one (LoopComp.freeU_lt_iff.mpr hhigh))
    rw [hu, hres]
    exact add_sub_cancel ..

/-! ### The reference (R139) -/

/-- A target that one step reaches is taken, from either side. -/
theorem stepRef_of_near {ref target step : Nat} (hup : target ≤ ref + step) (hdown : ref ≤ target + step) :
    stepRef ref target step = target := by
  rcases le_or_gt ref target with h | h
  · rw [stepRef, if_pos h, if_pos (by omega)]
  · rw [stepRef, if_neg (by omega), if_pos (by omega)]

/-- A target more than one step above. -/
theorem stepRef_of_above {ref target step : Nat} (h : ref + step < target) : stepRef ref target step = ref + step := by
  rw [stepRef, if_pos (by omega), if_neg (by omega)]

/-- A target more than one step below. -/
theorem stepRef_of_below {ref target step : Nat} (h : target + step < ref) : stepRef ref target step = ref - step := by
  rw [stepRef, if_neg (by omega), if_neg (by omega)]

/-- Settles O50: the rate by its rounding, a step by whether the target is within it. -/
theorem slewSteps : Obligations.SlewSteps := by
  refine ⟨fun rate => roundUp_bounds (rate * 4194304) (by norm_num), fun ref target step =>
    ⟨fun _ hnear => stepRef_of_near hnear (by omega), fun _ hnear => stepRef_of_near (by omega) hnear, stepRef_of_above,
      fun hfar => by rw [stepRef_of_below hfar]; omega, fun hle => ?rises, fun hle => ?falls⟩⟩
  case rises =>
    rcases le_or_gt target (ref + step) with hnear | hfar
    · rw [stepRef_of_near hnear (by omega)]; omega
    · rw [stepRef_of_above hfar]; omega
  case falls =>
    rcases le_or_gt ref (target + step) with hnear | hfar
    · rw [stepRef_of_near (by omega) hnear]; omega
    · rw [stepRef_of_below hfar]; omega

end Sys2Proof.Machine
end

section
/-! HALF of a phase and of a loop (R157, R158). -/

namespace Sys2Proof.Machine

/-- From 1 kHz on HALF is the quotient of R157 itself. -/
theorem halfOf_of_pos {freq : Nat} (hpos : 0 < freq) : halfOf freq = roundUp 250000 freq :=
  congrArg (roundUp 250000) (Nat.max_eq_left hpos)

/-- HALF is within one half of 250,000 / FREQ; a quotient that ends in one half gives the number above it (R157). -/
theorem halfOf_bounds {freq : Nat} (hpos : 0 < freq) :
    2 * 250000 < (2 * halfOf freq + 1) * freq ∧ (2 * halfOf freq - 1) * freq ≤ 2 * 250000 := by
  obtain ⟨hbelow, habove⟩ := roundUp_bounds 250000 hpos
  rw [halfOf_of_pos hpos, Nat.add_mul, Nat.sub_mul, Nat.mul_assoc]
  omega

/-- HALF over the settings of FREQ (R157). -/
theorem halfOf_range {freq : Nat} (hslow : 200 ≤ freq) (hfast : freq ≤ 4000) :
    63 ≤ halfOf freq ∧ halfOf freq ≤ 1250 := by
  obtain ⟨hbelow, habove⟩ := halfOf_bounds (Nat.lt_of_lt_of_le (by decide) hslow)
  have hmost : (2 * halfOf freq + 1) * freq ≤ (2 * halfOf freq + 1) * 4000 := Nat.mul_le_mul_left _ hfast
  have hleast : (2 * halfOf freq - 1) * 200 ≤ (2 * halfOf freq - 1) * freq := Nat.mul_le_mul_left _ hslow
  omega

/-- A phase of a loop takes HALF from the carrier frequency of its loop (R157). -/
theorem State.phaseNow_half_of_loop {s : State} {p l : Nat} (hloop : s.loopOf p = some l) :
    (s.phaseNow p).half = halfOf (s.obZero p (loopIdx l 3) 1) := by
  simp [State.phaseNow, hloop]

/-- A phase of no loop takes HALF from its own carrier frequency (R157). -/
theorem State.phaseNow_half_of_free {s : State} {p : Nat} (hfree : s.loopOf p = none) :
    (s.phaseNow p).half = halfOf (s.obZero p (phaseIdx p 0) 3) := by
  simp [State.phaseNow, hfree]

/-- While no commit is in flight a phase takes the active value that its tile holds (R72). -/
theorem State.obZero_of_settled {s : State} (p idx sub : Nat) (hsettled : s.obj.flight = none) :
    s.obZero p idx sub = s.obAt (p / 16) idx sub := by
  simp [State.obZero, hsettled]

/-- Without a move the next carrier zero comes one period after the last (R158). -/
theorem Phase.nextZero_of_still {ph : Phase} (hseen : ph.zeroSeen = true) (hstill : ph.move = 0) :
    ph.nextZero = ph.zeroAt + 2 * ph.cfg.half := by
  simp [Phase.nextZero, hseen, hstill]

/-- Settles O49, by the rounding of HALF and by what a phase takes it from. -/
theorem carrierHalf : Obligations.CarrierHalf :=
  ⟨fun _ => halfOf_bounds, fun _ => halfOf_range, rfl, rfl, fun _ _ _ => State.phaseNow_half_of_loop,
    fun _ _ => State.phaseNow_half_of_free, fun _ p idx sub => State.obZero_of_settled p idx sub, fun _ _ => rfl,
    fun _ => Phase.nextZero_of_still⟩

end Sys2Proof.Machine
end

section
/-! Truncations, trip inputs and the debug halt (R172 to R175, R179 to R181, R185, R221). -/

namespace Sys2Proof.Machine

/-! ### Over-current truncations (R174) -/

/-- A truncation of a phase that nothing holds off ends its pulse at the time `x` from which the comparator can end it. -/
theorem State.ocTruncate_of_high {s : State} {p x : Nat} (hphase : s.hasPhase p = true) (hunhalted : s.md.halted = false)
    (hunfrozen : (s.phase p).frozen = false) (hcounting : (s.phase p).reload = false) (huntripped : (s.phase p).tripOff = 0)
    (hunheld : (s.phase p).haltOff = false) (hhigh : s.highFrom p = some x) :
    s.ocTruncate p = (((s.reach x).noteEdges [p] (fun _ => true)).abortLearnOf p).cutPhase p true := by
  simp [State.ocTruncate, hphase, hunhalted, hunfrozen, hcounting, huntripped, hunheld, hhigh]

/-! ### TRIPn (R172, R173, R175) -/

/-- TRIPn takes its level, `a`; an inactive level ends the assertion, and an active one acts outside a blanking window. -/
theorem State.tripPin_of_input {s a : State} {t n : Nat} {level : Bool} (htile : s.hasTile t = true) (hn : n < 2)
    (ha : a = { s with pins := { s.pins with trip := s.pins.trip.set false (8 * t + n) level } }) :
    s.tripPin t n level = if a.tripLevel t n = false then
        { a with pins := { a.pins with tripSeen := a.pins.tripSeen.set false (8 * t + n) false } }
      else if a.blanked t (.trip n) = true then a else a.tripOn t n := by
  subst ha
  exact if_pos (by simp [htile, hn])

/-- TRIPn with action 0 is only seen (R175). -/
theorem State.tripOn_of_off {s : State} {t n : Nat} (htile : s.hasTile t = true) (hn : n < 2)
    (hoff : s.ob (0x3800 + 16 * t) (3 + n) = 0) :
    s.tripOn t n = { s with pins := { s.pins with tripSeen := s.pins.tripSeen.set false (8 * t + n) true } } := by
  simp [State.tripOn, htile, hn, hoff]

/-- TRIPn with an action acts on its phases from the state `u`, in which a new assertion has its record (R175). -/
theorem State.tripOn_of_action {s u0 u : State} {t n act : Nat} (htile : s.hasTile t = true) (hn : n < 2)
    (hmode : s.md.mode ≠ .reset) (hact : s.ob (0x3800 + 16 * t) (3 + n) = act) (hon : act ≠ 0)
    (hu0 : u0 = { s with pins := { s.pins with tripSeen := s.pins.tripSeen.set false (8 * t + n) true } })
    (hu : u = if s.pins.tripSeen.get false (8 * t + n) = true then u0
      else u0.report t (122 + n) 0x0506 2 (122 + n) [act]) :
    s.tripOn t n = if act = 1 then u.truncateAll (s.tripPhases t n)
      else if act = 2 then u.tripOffSet (s.tripPhases t n) n
      else u.enterSafeAll (u.loopsHolding (s.tripPhases t n)) 3 0x0506 := by
  subst hact hu hu0
  simp [State.tripOn, State.tripRecord, htile, hn, hmode, hon]

/-! ### SFLTk (R172, R173, R175, R180) -/

/-- SFLTk is asserted anew, `a`, and acts outside a blanking window. -/
theorem State.sfltPin_of_input {s a : State} {t k : Nat} (htile : s.hasTile t = true) (hk : k < 4)
    (ha : a = { s with pins := { s.pins with
      sflt := s.pins.sflt.set false (4 * t + k) true, sfltSeen := s.pins.sfltSeen.set false (4 * t + k) false } }) :
    s.sfltPin t k = if a.blanked t (.sflt k) = true then a else a.sfltOn t k := by
  subst ha
  exact if_pos (by simp [htile, hk])

/-- A new assertion of SFLTk is recorded, `u`, and acts: in a debug halt that takes trips it holds its phases off, otherwise
as its action says (R175, R180). -/
theorem State.sfltOn_of_new {s u : State} {t k act : Nat} (htile : s.hasTile t = true) (hk : k < 4)
    (hmode : s.md.mode ≠ .reset) (hnew : s.pins.sfltSeen.get false (4 * t + k) = false)
    (htrips : s.md.halted = true → s.obAt t 0x3880 1 ≠ 0) (hact : s.ob (0x3800 + 16 * t) 7 = act)
    (hu : u = ({ s with pins := { s.pins with sfltSeen := s.pins.sfltSeen.set false (4 * t + k) true } } : State).report t
      (118 + k) 0x0506 2 (118 + k) [act]) :
    s.sfltOn t k = if s.md.halted = true then
        { u with phases := u.phases.updAll {} (s.sfltPhases t k) (fun _ ph => { ph with haltOff := true }) }
      else if act = 1 then u.tripOffSet (s.sfltPhases t k) 2
      else if act = 2 then u.enterSafeAll (u.loopsHolding (s.sfltPhases t k)) 3 0x0506
      else u := by
  subst hact hu
  have hacts : ¬ (s.md.mode = .reset ∨ s.md.halted = true ∧ s.obAt t 0x3880 1 = 0) := by tauto
  simp [State.sfltOn, State.tripRecord, htile, hk, hacts, hnew]

/-! ### Releases and ends of windows (R173, R175, R221) -/

/-- A release of TRIPn ends its assertion and frees the phases that it held off (R175). -/
theorem State.tripReleased_of_trip {s : State} {t : Nat} (n : Nat) (htile : s.hasTile t = true) :
    s.tripReleased t (.trip n) = ({ s with pins := { s.pins with
      trip := s.pins.trip.set false (8 * t + n) (s.ob (0x3800 + 16 * t) (1 + n) == 1)
      tripSeen := s.pins.tripSeen.set false (8 * t + n) false } } : State).tripOffClear (s.tripPhases t n) n :=
  if_neg (by simp [htile])

/-- A release of SFLTk ends its assertion and frees the phases that it held off (R175). -/
theorem State.tripReleased_of_sflt {s : State} {t : Nat} (k : Nat) (htile : s.hasTile t = true) :
    s.tripReleased t (.sflt k) = ({ s with pins := { s.pins with
      sflt := s.pins.sflt.set false (4 * t + k) false
      sfltSeen := s.pins.sfltSeen.set false (4 * t + k) false } } : State).tripOffClear (s.sfltPhases t k) 2 :=
  if_neg (by simp [htile])

/-- A loop in a severity-3 safe state is cleared; with its rail on in RUN an off-time follows (R221). -/
theorem State.safeTripRelease_of_safe {s : State} {l : Nat} (hloop : s.hasLoop l = true) (hsafe : s.loopSafe l = true)
    (hsev : (s.loop l).pr.safeSev = 3) :
    s.safeTripRelease l = if (s.rail (128 + l)).on = true ∧ s.md.mode = .run then
      ((s.tripInputsEnd l).loopCleared l).tripOffTime l else (s.tripInputsEnd l).loopCleared l := by
  simp [State.safeTripRelease, hloop, hsafe, hsev]

/-- A blanking window ends at its own time, `a`, and a condition still present acts there (R173). -/
theorem State.windowEnds_of_tile {s a : State} {t : Nat} {i : TripInput} (present : Bool) (htile : s.hasTile t = true)
    (ha : a = s.reach ((s.openUntil t i s.now).getD s.now)) :
    s.windowEnds t i present = if present = true then a.tripActs t i else a := by
  subst ha
  exact if_pos htile

/-! ### Debug halt (R179, R181) -/

/-- A debug halt in SERVICE on a part without FIELD freezes the phases that switch, from the state `a` in which the edges up
to then have reached windows and taps (R179). -/
theorem State.debugHalt_of_service {s a : State} {ps : List Nat} (hmode : s.md.mode = .service)
    (hfield : s.sec.field = false) (hunhalted : s.md.halted = false)
    (hps : ps = s.phaseList.filter (fun q => (s.phase q).on))
    (ha : a = ps.foldl State.flushTaps (s.noteEdges ps (fun q => s.obAt (q / 16) 0x3880 2 == 1 && s.ballsLive q))) :
    s.debugHalt = { a with
      md := { a.md with halted := true }
      phases := a.phases.updAll {} ps (fun q ph =>
        { ph with
          frozen := true, haltBalls := some (a.balls q), haltCut := none, haltOff := a.obAt (q / 16) 0x3880 2 == 1 })
      tiles := a.tiles.updAll {} a.tileList (fun _ ti => { ti with procHalted := true }) } := by
  subst hps ha
  exact if_pos ⟨hmode, hfield, hunhalted⟩

/-- The end of a halt thaws every phase and lets the processors run; of the rest only the windows note edges (R181). -/
theorem State.haltEnd_of_halted {s : State} (hhalted : s.md.halted = true) :
    s.haltEnd = { s with
      windows := (s.noteEdges (s.phaseList.filter (fun p => (s.phase p).frozen)) s.ballsLive).windows
      md := { s.md with halted := false }
      phases := s.phases.updAll {} s.phaseList (fun _ ph => ph.thaw)
      tiles := s.tiles.updAll {} s.tileList (fun _ ti => { ti with procHalted := false }) } :=
  if_pos hhalted

/-- Settles O18, by the level, the window and the action of each input, and by what a release and a halt do. -/
theorem tripCommands : Obligations.TripCommands := by
  intro s a p t n k l x level ps
  refine ⟨fun hphase hunhalted hunfrozen hcounting huntripped hunheld hhigh => congrArg Host.Outcome.next
      (State.ocTruncate_of_high hphase hunhalted hunfrozen hcounting huntripped hunheld hhigh),
    fun htile hn ha => ?trip, fun htile hk ha => ?sflt, fun htile => ?released, fun hloop hsafe hsev hoff => ?railOff,
    fun hloop hsafe hsev hon hrun => ?railOn, fun htile i ha => ?window, fun hmode hfield hunhalted hps ha =>
      congrArg Host.Outcome.next (State.debugHalt_of_service hmode hfield hunhalted hps ha),
    fun hhalted => ⟨_, congrArg Host.Outcome.next (State.haltEnd_of_halted hhalted), rfl, rfl, rfl, rfl, rfl, rfl⟩⟩
  case trip =>
    have hpin := State.tripPin_of_input htile hn ha
    have acts (hlevel : a.tripLevel t n = true) (hopen : a.blanked t (.trip n) = false) {u : State}
        (hu : a.tripOn t n = u) : exec (.tripAssert t n level) s = .next u := by
      rw [if_neg (by simp [hlevel]), if_neg (by simp [hopen]), hu] at hpin
      exact congrArg Host.Outcome.next hpin
    have htile' : a.hasTile t = true := ha ▸ htile
    refine ⟨fun hlow => congrArg Host.Outcome.next (hpin.trans (if_pos hlow)), fun hlevel hblank => ?_,
      fun hlevel hopen hoff => acts hlevel hopen (State.tripOn_of_off htile' hn (ha ▸ hoff)),
      fun hlevel hopen hmode => ⟨_, _, rfl, rfl, ?_⟩⟩
    · rw [if_neg (by simp [hlevel]), if_pos hblank] at hpin
      exact congrArg Host.Outcome.next hpin
    · subst ha
      refine ⟨fun hact => ?_, fun hact => ?_, fun hact => ?_⟩
      all_goals
        rw [hact]
        exact acts hlevel hopen (State.tripOn_of_action htile' hn hmode hact (by decide) rfl rfl)
  case sflt =>
    have hpin := State.sfltPin_of_input htile hk ha
    refine ⟨fun hblank => congrArg Host.Outcome.next (hpin.trans (if_pos hblank)), fun hopen hmode => ⟨_, rfl, ?_⟩⟩
    rw [if_neg (by simp [hopen])] at hpin
    have hnew : a.pins.sfltSeen.get false (4 * t + k) = false := by
      rw [ha, Tab.get_set_same]
    subst ha
    have acts {act : Nat} (htrips : s.md.halted = true → s.obAt t 0x3880 1 ≠ 0)
        (hact : s.ob (0x3800 + 16 * t) 7 = act) :=
      hpin.trans (State.sfltOn_of_new htile hk hmode hnew htrips hact rfl)
    refine ⟨fun hunhalted hact => ?_, fun hunhalted hact => ?_, fun hunhalted hact => ?_,
      fun hhalted htrips => congrArg Host.Outcome.next ((acts (fun _ => htrips) rfl).trans (if_pos hhalted))⟩
    all_goals
      rw [hact]
      exact congrArg Host.Outcome.next ((acts (by simp [hunhalted]) hact).trans (if_neg (by simp [hunhalted])))
  case released =>
    exact ⟨congrArg Host.Outcome.next (State.tripReleased_of_trip n htile),
      congrArg Host.Outcome.next (State.tripReleased_of_sflt k htile)⟩
  case railOff =>
    have h := State.safeTripRelease_of_safe hloop hsafe hsev
    exact congrArg Host.Outcome.next (h.trans (if_neg (by simp [hoff])))
  case railOn =>
    have h := State.safeTripRelease_of_safe hloop hsafe hsev
    exact congrArg Host.Outcome.next (h.trans (if_pos ⟨hon, hrun⟩))
  case window =>
    exact ⟨congrArg Host.Outcome.next (State.windowEnds_of_tile false htile ha),
      congrArg Host.Outcome.next (State.windowEnds_of_tile true htile ha)⟩

end Sys2Proof.Machine
end

section
/-! SAFE_IN# (R173, R451). -/

namespace Sys2Proof.Machine

/-- SAFE_IN# going low outside RESET is recorded, `u`, and takes the loops of STATE 1 to 5 to their safe states, from RUN the
part to HOLD; `a` is the state in which the edges up to then have reached windows and taps (R451). -/
theorem State.safeLow_of_high {s a u : State} {ls ps : List Nat} (hhigh : s.pins.safeIn = true)
    (hmode : s.md.mode ≠ .reset) (hps : ps = s.phaseList.filter (fun p => (s.phase p).on))
    (ha : a = ps.foldl State.flushTaps (s.noteEdges ps s.ballsLive))
    (hu : u = ({ a with
      phases := a.phases.updAll {} ps (fun _ ph =>
        if ph.frozen then { ph with haltOff := true } else if ph.stopping then ph.off else ph)
      pins := { a.pins with safeIn := false } } : State).report 0 srcSafety 0x0C01 5 0xFFFF [])
    (hls : ls = u.loopList.filter (fun l =>
      u.enabled l && decide (1 ≤ (u.loop l).state) && decide ((u.loop l).state ≤ 5))) :
    s.safeLow = if s.md.mode = .run then (u.enterSafeAll ls 5 0x0C01).enterHold 0 0x0C01 0xFFFF
      else u.enterSafeAll ls 5 0x0C01 := by
  subst hps ha hu hls
  exact (if_neg (by simp [hhigh])).trans (if_neg hmode)

/-- SAFE_IN# going high: the phases of a manual duty that no halt freezes wait for their next carrier zero (R451). -/
theorem State.safeHigh_of_low {s : State} (hlow : s.pins.safeIn = false) :
    s.safeHigh = { s with
      pins := { s.pins with safeIn := true }
      phases := s.phases.updAll {} (s.phaseList.filter (fun p => s.manual p && (s.phase p).on))
        (fun _ ph => if ph.frozen then ph else ph.resume (32 * (s.now - ph.zeroAt))) } :=
  if_neg (by simp [hlow])

/-- Outside a blanking window a low level of SAFE_IN# acts (R173). -/
theorem exec_safeInLow_of_open {s : State} (hopen : s.blanked 0 .safeIn = false) :
    exec .safeInLow s = .next s.safeLow :=
  congrArg Host.Outcome.next (if_neg (by simp [hopen]))

/-- Settles O19, by the blanking window, the mode and the level of SAFE_IN#. -/
theorem safeInput : Obligations.SafeInput := by
  intro s a u ls ps
  refine ⟨fun hhigh hopen hmode hps ha hu hls => ?low, fun hblank => congrArg Host.Outcome.next (if_pos hblank),
    fun hlow => congrArg Host.Outcome.next (State.safeHigh_of_low hlow)⟩
  rw [exec_safeInLow_of_open hopen, State.safeLow_of_high hhigh hmode hps ha hu hls]
  exact ⟨fun hrun => congrArg Host.Outcome.next (if_pos hrun), fun hother => congrArg Host.Outcome.next (if_neg hother)⟩

end Sys2Proof.Machine
end

section
/-! Population, share, learning and burst (R198, R205, R207, R209, R210, R212, R213). -/

namespace Sys2Proof.Machine

/-! ### Shedding, share events, learning (R198, R205, R207) -/

/-- A dwell at its length in regulation decides the level `lam` that the settings under which it began give, with the count
of that level from the next frame boundary on (R198 step 2). -/
theorem State.dwellExpiry_of_length {s : State} {l : Nat} {lam : Int} (hloop : s.loopIs l = true)
    (hstate : (s.loop l).state = 2) (hlearn : s.learning l = false) (hpreview : (s.loop l).previewing = false)
    (hlevel : 0 ≤ (s.loop l).pp.level) (hdwell : 0 < (s.loop l).pp.dwell)
    (hlen : (s.loop l).pp.dwellCfg.len ≤ (s.loop l).pp.dwell) (htrig : (s.loop l).pp.trigFrame = false)
    (hlam : lam = (s.levelFor l (s.loop l).pp.dwellCfg.levels 0 (s.loop l).pp.dwellCfg.hyst).getD (-1)) :
    s.dwellExpiry l = (s.updLoop l (fun lp =>
      { lp with
        pp := { lp.pp.decide_ (s.decision l (s.dwellCap l lam) lp.pp.mark lp.pp.level ((s.frame + 1) * ticksPerFrame) true) with
          level := lam, dwell := 0, keep := false } })).levelRecord l (s.loop l).pp.level lam
      (s.capCount l (s.dwellCap l lam) (s.loop l).pp.mark) := by
  subst hlam
  exact if_pos (by simp [hloop, hstate, hlearn, hpreview, hlevel, hdwell, hlen, htrig])

/-- A share `e` that stands out of its limit for SHARE_DWELL is told once, by a record and latch 14 of the phase's loop
(R205). -/
theorem State.shareTells_of_dwelt {s : State} {l p : Nat} {e : Int} (hphase : s.hasPhase p = true)
    (howner : s.loopOf p = some l) (hshare : (s.phase p).tl.share = some e) (hmonitored : s.monitored l = true)
    (huntold : (s.phase p).tl.shareTold = false) (hrun : s.lo l 0x10 0xD ≤ (s.phase p).tl.shareRun) :
    s.shareTells p = ((s.updPhase p (fun ph => { ph with tl := { ph.tl with shareTold := true } })).report (p / 16) (p % 16)
      0x0601 2 p (two (ofInt 16 e))).latch l 14 := by
  simp [State.shareTells, hphase, howner, hshare, hmonitored, huntold, hrun]

/-- A learning iteration whose frames have passed ends (R207). -/
theorem State.learnEnds_of_length {s : State} {l : Nat} (hloop : s.loopIs l = true) (hlearn : s.learning l = true)
    (hlen : s.learnLength l ≤ (s.loop l).pp.learnFrames) : s.learnEnds l = s.learnIteration l :=
  if_pos (by simp [hloop, hlearn, hlen])

/-! ### Burst (R209, R210, R212, R213) -/

/-- A loop that fits a burst, has dwelt and is in no graver operation enters STATE 3 at the next carrier zero of its active
phase, with a record (R209). -/
theorem State.burstEnters_of_fit {s : State} {l : Nat} (hloop : s.loopIs l = true) (hfit : s.burstFit l = true)
    (hidle : (s.loop l).pp.burst = 0) (haction : (s.loop l).ac.action = 0) (hpreview : (s.loop l).previewing = false)
    (hdwell : s.lo l 0xD 4 ≤ (s.loop l).pp.burstDwell) :
    s.burstEnters l = ((((s.reach ((s.phase (s.burstPhase l)).zeroAfter s.now)).updLoop l (fun lp =>
      { lp with state := 3, pp := { lp.pp with shortSleeps := 0 } })).beginBurst l).loopReport srcReg l 0x0309 0
        [1, 0]).manageLoop l :=
  if_pos (by simp [hloop, hfit, hidle, haction, hpreview, hdwell])

/-- Device time once the end of the burst is reached and the edges up to then are with windows and taps. -/
theorem State.now_of_burstEnd (s : State) (l : Nat) (ps : List Nat) (live : Nat → Bool) :
    (ps.foldl State.flushTaps ((s.reach (s.burstEnd l)).noteEdges ps live)).now = Nat.max s.now (s.burstEnd l) := by
  rw [foldl_now _ State.flushTaps_now, State.noteEdges_now]
  rfl

/-- The zero that ends a burst begins sleep and counts the burst; the edges up to then reach windows and taps (R210). -/
theorem State.burstSleeps_of_burst {s : State} {l : Nat} (hloop : s.loopIs l = true) (hburst : (s.loop l).pp.burst = 1) :
    s.burstSleeps l = ((s.phasesOf l).foldl State.flushTaps ((s.reach (s.burstEnd l)).noteEdges (s.phasesOf l)
      (s.reach (s.burstEnd l)).ballsLive)).updLoop l (fun lp =>
        { lp with pp := { lp.pp with
          burst := 2, burstFrom := none, sleepAt := Nat.max s.now (s.burstEnd l)
          burstCount := wrapAdd 32 lp.pp.burstCount 1 } }) := by
  rw [← s.now_of_burstEnd l (s.phasesOf l) (s.reach (s.burstEnd l)).ballsLive]
  exact if_pos (by simp [hloop, hburst])

/-- The first wake of a sleeping loop ends its sleep: the next burst begins one loop sample after the sample that ungates the
slots, or later, and the sleep counts as short or breaks the run of short ones (R212, R213). -/
theorem State.wakeLoop_of_sleep {s : State} {l : Nat} (hsleep : (s.loop l).pp.burst = 2)
    (hunwoken : (s.loop l).pp.burstFrom = none) :
    s.wakeLoop l = s.updLoop l (fun lp =>
      { lp with
        pp := { lp.pp with
          burstFrom := some ((s.now / ticksPerSample + 2) * ticksPerSample)
          wakeAt := some s.now
          lastSleep := Nat.min ((s.now - (s.loop l).pp.sleepAt) / 50) 0xFFFF
          shortSleeps := if s.now - (s.loop l).pp.sleepAt < 50 * s.lo l 0xD 8 then satAdd 8 lp.pp.shortSleeps 1
            else 0 } }) :=
  if_pos ⟨hsleep, hunwoken⟩

/-- A wake of an enabled loop is that of its population (R212). -/
theorem exec_burstWake_of_loopIs {s : State} {l : Nat} (hloop : s.loopIs l = true) :
    exec (.burstWake l) s = .next (s.wakeLoop l) :=
  congrArg Host.Outcome.next (if_pos hloop)

/-- A cause that holds ends the burst operation, with the cause's code (R213). -/
theorem State.burstExits_of_holds {s : State} {l : Nat} {cause : BurstExitCause} (hloop : s.loopIs l = true)
    (hburst : (s.loop l).pp.burst ≠ 0) (hholds : s.exitHolds l cause = true) :
    s.burstExits l cause = s.endBurst l (exitCode cause) :=
  if_pos (by simp [hloop, hburst, hholds])

/-- Without a burst operation no cause ends one (R213). -/
theorem State.burstExits_of_idle {s : State} {l : Nat} (cause : BurstExitCause) (hidle : (s.loop l).pp.burst = 0) :
    s.burstExits l cause = s :=
  if_neg (by simp [hidle])

/-- A burst is forbidden where ALLOW or ENABLE is 0 (R213). -/
theorem State.exitHolds_forbidden_iff (s : State) (l : Nat) :
    s.exitHolds l .forbidden = true ↔ s.lo l 0xD 1 = 0 ∨ s.lo l 0xD 2 = 0 := by
  simp [State.exitHolds]

/-- Too many short sleeps end a burst operation (R213). -/
theorem State.exitHolds_shortSleeps_iff (s : State) (l : Nat) :
    s.exitHolds l .shortSleeps = true ↔ s.lo l 0xD 9 ≤ (s.loop l).pp.shortSleeps := by
  simp [State.exitHolds]

/-- Settles O20, by what each operation does under its conditions, and by the cause of a burst exit. -/
theorem populationAndBurst : Obligations.PopulationAndBurst := by
  intro s l p e cause
  refine ⟨fun hloop hstate hlearn hpreview hlevel hdwell hlen htrig => ⟨_, rfl, congrArg Host.Outcome.next
      (State.dwellExpiry_of_length hloop hstate hlearn hpreview hlevel hdwell hlen htrig rfl)⟩,
    fun hphase howner hshare hmonitored huntold hrun => congrArg Host.Outcome.next
      (State.shareTells_of_dwelt hphase howner hshare hmonitored huntold hrun),
    fun hloop hlearn hlen => congrArg Host.Outcome.next (State.learnEnds_of_length hloop hlearn hlen),
    fun hloop hfit hidle haction hpreview hdwell => ⟨_, rfl, congrArg Host.Outcome.next
      (State.burstEnters_of_fit hloop hfit hidle haction hpreview hdwell)⟩,
    fun hloop hburst => congrArg Host.Outcome.next (State.burstSleeps_of_burst hloop hburst),
    fun hloop hsleep hunwoken => (exec_burstWake_of_loopIs hloop).trans
      (congrArg Host.Outcome.next (State.wakeLoop_of_sleep hsleep hunwoken)),
    fun hloop hburst => ?exits, fun _ hidle => congrArg Host.Outcome.next (State.burstExits_of_idle cause hidle)⟩
  case exits =>
    have exits {c : BurstExitCause} (hholds : s.exitHolds l c = true) :
        exec (.burstExit l c) s = .next (s.endBurst l (exitCode c)) :=
      congrArg Host.Outcome.next (State.burstExits_of_holds hloop hburst hholds)
    exact ⟨exits rfl, exits rfl, fun hforbidden => exits ((s.exitHolds_forbidden_iff l).mpr hforbidden),
      fun hshort => exits ((s.exitHolds_shortSleeps_iff l).mpr hshort), exits rfl⟩

end Sys2Proof.Machine
end

section
/-! The soft-start hold, Canopy, overshoot and preview (R223, R226 to R236). -/

namespace Sys2Proof.Machine

/-! ### The soft-start hold and Canopy (R223, R226 to R231) -/

/-- The hold of a soft start above its target ends at the end of the on-ramp counted from the start (R223). -/
theorem State.holdTimeout_of_hold {s : State} {l : Nat} (hloop : s.loopIs l = true) (hstate : (s.loop l).state = 1)
    (hhold : (s.loop l).tg.holdAbove = true) :
    s.holdTimeout l = (s.reach ((s.loop l).tg.startAt + 500 * (s.loop l).tg.onRamp)).holdEnds l :=
  if_pos (by simp [hloop, hstate, hhold])

/-- A crossing of the undervoltage threshold is a trigger where bit 0 of LOOP_CANOPY:01 is set (R227). -/
theorem State.canopyCross_of_enabled {s : State} {l : Nat} (hloop : s.loopIs l = true)
    (henabled : bit (s.lo l 0xA 1) 0 = true) : s.canopyCross l = s.canopyTrigger l 1 (s.loop l).cp.u1 :=
  if_pos (by simp [hloop, henabled])

/-- A running action is released at the maximum time of the settings that it keeps (R230, R231). -/
theorem State.canopyTimeout_of_action {s : State} {l : Nat} {c : CanopyCfg} (hloop : s.loopIs l = true)
    (hcfg : (s.loop l).ac.actCfg = some c) (haction : (s.loop l).ac.action ≠ 0) :
    s.canopyTimeout l = (s.reach ((s.loop l).ac.actAt + c.maxTime)).releaseAction l := by
  simp [State.canopyTimeout, hloop, hcfg, haction]

/-! ### LPREV and preview (R234 to R236) -/

/-- An LPREV edge reaches the enabled loops that its tile anchors (R234). -/
theorem State.lprevEdge_of_tile {s : State} {t : Nat} (htile : s.hasTile t = true) (hmode : s.md.mode ≠ .reset) :
    s.lprevEdge t = (s.loopList.filter (fun m => s.enabled m && s.anchor m == t)).foldl State.lprev s :=
  if_pos (by simp [htile, hmode])

/-- An edge sooner than REARM after the last fired one is merged into it (R234). -/
theorem State.lprev_of_within {s : State} {l x : Nat} (hfire : (s.loop l).pv.lastFire = some x)
    (hwithin : s.now < x + 50 * s.lo l 0xB 8) :
    s.lprev l = ((s.updLoop l (fun lp =>
      { lp with pv := { lp.pv with merged := satAdd 32 lp.pv.merged 1 } })).loopReport srcTrans l 0x0406 0 []).latch l 4 := by
  simp [State.lprev, hfire, hwithin]

/-- The first edge fires the armed preview of a loop in regulation or burst operation (R234). -/
theorem State.lprev_of_armed {s : State} {l : Nat} {q : Preview} (hfresh : (s.loop l).pv.lastFire = none)
    (harmed : (s.loop l).pv.armed = some q) (hstate : (s.loop l).state = 2 ∨ (s.loop l).state = 3) :
    s.lprev l = s.firePreview l q := by
  simp [State.lprev, hfresh, harmed, hstate]

/-- The first edge without an armed preview is counted and reported as unarmed (R234). -/
theorem State.lprev_of_unarmed {s : State} {l : Nat} (hfresh : (s.loop l).pv.lastFire = none)
    (hunarmed : (s.loop l).pv.armed = none) :
    s.lprev l = ((s.updLoop l (fun lp =>
      { lp with pv := { lp.pv with unarmed := satAdd 32 lp.pv.unarmed 1 } })).loopReport srcTrans l 0x0405 2 []).latch l 3 := by
  simp [State.lprev, hfresh, hunarmed]

/-- The only preview fired is the next to apply while it is not applied (R235). -/
theorem nextApply_singleton {f : Fired} (hwaiting : f.applied = false) : nextApply [f] = some f := by
  simp [nextApply, hwaiting]

/-- The only preview fired is the next to end once it is applied (R235). -/
theorem nextEnd_singleton {f : Fired} (happlied : f.applied = true) : nextEnd [f] = some f := by
  simp [nextEnd, happlied]

/-- The only preview fired is in force from its own instant on; there is no earlier one that it ends (R235). -/
theorem State.applyPreview_of_single {s : State} {l : Nat} {f : Fired} (hloop : s.loopIs l = true)
    (hfired : (s.loop l).pv.fired = [f]) (hwaiting : f.applied = false) :
    s.applyPreview l = (s.reach f.applyAt).updLoop l (fun lp =>
      { lp with pv := { lp.pv with fired := [{ f with applied := true }] } }) := by
  simp [State.applyPreview, hfired, nextApply_singleton hwaiting, hloop]

/-- The only preview fired ends at its own instant and is consumed (R235). -/
theorem State.endPreview_of_single {s : State} {l : Nat} {f : Fired} (hloop : s.loopIs l = true)
    (hfired : (s.loop l).pv.fired = [f]) (happlied : f.applied = true) :
    s.endPreview l = ((s.reach f.endAt).updLoop l (fun lp =>
      { lp with pv := { lp.pv with fired := lp.pv.fired.filter (fun g => g != f) } })).consume l := by
  simp [State.endPreview, hfired, nextEnd_singleton happlied, hloop]

/-- Settles O21, by what each operation does under its conditions, and by what an LPREV edge meets in a loop. -/
theorem transientCommands : Obligations.TransientCommands := by
  intro s l t c f q
  exact ⟨fun hloop hstate hhold => congrArg Host.Outcome.next (State.holdTimeout_of_hold hloop hstate hhold),
    fun hreached => if_pos hreached, fun hshort => if_neg hshort,
    fun hloop henabled => congrArg Host.Outcome.next (State.canopyCross_of_enabled hloop henabled),
    fun hloop hcfg haction => congrArg Host.Outcome.next (State.canopyTimeout_of_action hloop hcfg haction),
    fun htile hmode => congrArg Host.Outcome.next (State.lprevEdge_of_tile htile hmode),
    fun _ hfire hwithin => State.lprev_of_within hfire hwithin,
    fun hfresh harmed hstate => State.lprev_of_armed hfresh harmed hstate,
    fun hfresh hunarmed => State.lprev_of_unarmed hfresh hunarmed,
    fun hloop hfired hwaiting => congrArg Host.Outcome.next (State.applyPreview_of_single hloop hfired hwaiting),
    fun hloop hfired happlied => congrArg Host.Outcome.next (State.endPreview_of_single hloop hfired happlied)⟩

end Sys2Proof.Machine
end

section
/-! Hiccup, over-temperature, undervoltage and low-side timers (R238 to R244, R441, R448). -/

namespace Sys2Proof.Machine

/-! ### Hiccup (R238 to R240) -/

/-- A phase of a loop in STATE 1 to 3 at its over-current count acts at the next PWM clock: with a hiccup, or a latch-off
where none is left, if that may begin on the loop, and otherwise in the queue of reactions (R238, R239). -/
theorem State.hiccupTriggers_of_count {s : State} {l p : Nat} (hphase : s.hasPhase p = true) (howner : s.loopOf p = some l)
    (hstate : (s.loop l).state = 1 ∨ (s.loop l).state = 2 ∨ (s.loop l).state = 3) (hunhalted : s.md.halted = false)
    (hcount : s.lo l 0xE 1 ≤ (s.phase p).ct.ocRun) :
    s.hiccupTriggers p = if (s.loop l).pr.inHiccup = true ∨
        s.admits (loopTarget l) (if s.lo l 0xE 3 ≤ (s.loop l).pr.hiccups then 5 else 3) = true then
      (s.reach (s.now + 1)).hiccup l p false
    else ((s.reach (s.now + 1)).loopReport srcProt l 0x0501 3 [(s.loop l).pr.hiccups, p]).queueReaction (loopTarget l) 3
      0x0501 := by
  simp [State.hiccupTriggers, howner, hphase, hstate, hunhalted, hcount, or_assoc]

/-- A target without a reaction in progress admits one of any severity (R388). -/
theorem State.admits_of_idle {s : State} {n : Nat} (sev : Nat) (hidle : (s.target n).cur = none) :
    s.admits n sev = true := by
  simp [State.admits, hidle]

/-- The off-time of a hiccup ends in a soft start (R239). -/
theorem State.offTimeEnds_of_hiccup {s : State} {l : Nat} (hloop : s.loopIs l = true) (hstate : (s.loop l).state = 4) :
    s.offTimeEnds l = (s.reach (s.loop l).pr.offUntil).softStart l :=
  if_pos (by simp [hloop, hstate])

/-- 1 s spent continuously in regulation or burst operation clears the count of hiccups (R239). -/
theorem State.hiccupsClear_of_clean {s : State} {l : Nat} (hloop : s.loopIs l = true)
    (hstate : (s.loop l).state = 2 ∨ (s.loop l).state = 3) :
    s.hiccupsClear l = (s.reach ((s.loop l).pr.cleanSince + 500000000)).updLoop l (fun lp =>
      { lp with pr := { lp.pr with hiccups := 0 } }) :=
  if_pos (by simp [hloop, hstate])

/-! ### Over-temperature, undervoltage, low sides (R244, R441, R448) -/

/-- A loop that is off through over-temperature, cool again and with its rail on, restarts in RUN (R244). -/
theorem State.otRestarts_of_cool {s : State} {l : Nat} (hloop : s.loopIs l = true)
    (hrestart : (s.loop l).pr.otRestart = true) (hcool : (s.loop l).pr.otState = 0) (hstate : (s.loop l).state = 0)
    (hrail : (s.rail (128 + l)).on = true) (hmode : s.md.mode = .run) :
    s.otRestarts l = (s.updLoop l (fun lp => { lp with pr := { lp.pr with otRestart := false } })).softStart l :=
  if_pos (by simp [hloop, hrestart, hcool, hstate, hrail, hmode])

/-- An undervoltage that has lasted UV_TIME in regulation or burst operation is reported once (R448). -/
theorem State.uvReports_of_condition {s : State} {l : Nat} (hloop : s.loopIs l = true) (hlow : (s.loop l).pr.uvCond = true)
    (huntold : (s.loop l).pr.uvReport = false) (hstate : (s.loop l).state = 2 ∨ (s.loop l).state = 3) :
    s.uvReports l = (((s.reach ((s.loop l).pr.uvSince + 8 * s.ob 0x2600 6)).updLoop l (fun lp =>
      { lp with pr := { lp.pr with uvReport := true } })).loopReport srcProt l 0x0508 3 (two (s.loop l).sn.sample)).latch l
        13 :=
  if_pos (by simp [hloop, hlow, huntold, hstate])

/-- The report ends after UV_TIME without the condition (R448). -/
theorem State.uvEnds_of_report {s : State} {l : Nat} (hloop : s.loopIs l = true) (htold : (s.loop l).pr.uvReport = true)
    (hgood : (s.loop l).pr.uvCond = false) :
    s.uvEnds l = (s.reach ((s.loop l).pr.uvSince + 8 * s.ob 0x2600 6)).updLoop l (fun lp =>
      { lp with pr := { lp.pr with uvReport := false } }) :=
  if_pos (by simp [hloop, htold, hgood])

/-- "Low sides on" ends once all of its spells together have lasted LS_DISCHARGE_MAX (R441). -/
theorem State.lowSidesTimeout_of_lowSides {s : State} {l : Nat} (hloop : s.loopIs l = true)
    (hstate : (s.loop l).state = 7) (hlow : (s.loop l).pr.lowSides = true) :
    s.lowSidesTimeout l =
      (s.reach ((s.loop l).pr.lowSince + (s.ob 0x2600 5 * 500000 - (s.loop l).pr.lowTotal))).updLoop l (fun lp =>
        { lp with pr := { lp.pr with
          lowSides := false, lowTotal := Nat.max lp.pr.lowTotal (s.ob 0x2600 5 * 500000) } }) :=
  if_pos (by simp [hloop, hstate, hlow])

/-- Settles O22: a trigger by whether a hiccup is left and may begin, each timer by what its end does. -/
theorem protectionTimers : Obligations.ProtectionTimers := by
  intro s l p
  have acts (hphase : s.hasPhase p = true) (howner : s.loopOf p = some l)
      (hstate : (s.loop l).state = 1 ∨ (s.loop l).state = 2 ∨ (s.loop l).state = 3) (hunhalted : s.md.halted = false)
      (hcount : s.lo l 0xE 1 ≤ (s.phase p).ct.ocRun) (hidle : (s.target (loopTarget l)).cur = none) :
      exec (.hiccupTrigger p) s = .next ((s.reach (s.now + 1)).hiccup l p false) :=
    congrArg Host.Outcome.next ((State.hiccupTriggers_of_count hphase howner hstate hunhalted hcount).trans
      (if_pos (.inr (State.admits_of_idle _ hidle))))
  refine ⟨fun hphase howner hstate hunhalted hcount hleft hidle => ?hiccup,
    fun hphase howner hstate hunhalted hcount hspent hidle => ?latchOff,
    fun hphase howner hstate hunhalted hcount hfirst hgraver => ?queued,
    fun hloop hstate => congrArg Host.Outcome.next (State.offTimeEnds_of_hiccup hloop hstate),
    fun hloop hstate => congrArg Host.Outcome.next (State.hiccupsClear_of_clean hloop hstate),
    fun hloop hrestart hcool hstate hrail hmode => congrArg Host.Outcome.next
      (State.otRestarts_of_cool hloop hrestart hcool hstate hrail hmode),
    fun hloop hlow huntold hstate => congrArg Host.Outcome.next (State.uvReports_of_condition hloop hlow huntold hstate),
    fun hloop htold hgood => congrArg Host.Outcome.next (State.uvEnds_of_report hloop htold hgood),
    fun hloop hstate hlow => congrArg Host.Outcome.next (State.lowSidesTimeout_of_lowSides hloop hstate hlow)⟩
  case hiccup =>
    exact (acts hphase howner hstate hunhalted hcount hidle).trans
      (congrArg Host.Outcome.next (if_neg (Nat.not_le.mpr hleft)))
  case latchOff =>
    exact (acts hphase howner hstate hunhalted hcount hidle).trans (congrArg Host.Outcome.next (if_pos hspent))
  case queued =>
    exact congrArg Host.Outcome.next ((State.hiccupTriggers_of_count hphase howner hstate hunhalted hcount).trans
      (if_neg (by simp [hfirst, hgraver])))

end Sys2Proof.Machine
end

section
/-! Lane frames: their CRC and their fields (R257 to R259). -/

namespace Sys2Proof.Machine

/-! ### The CRC of a framed body (R259) -/

/-- One bit of the CRC in shifts and masks. -/
theorem crc8Bit_eq_shift (crc : Nat) (b : Bool) :
    crc8Bit crc b =
      if ((crc >>> 7) &&& 1 == 1) != b then ((crc <<< 1) ^^^ 0x07) &&& 0xFF else (crc <<< 1) &&& 0xFF := by
  have htop : bit crc 7 = ((crc >>> 7) &&& 1 == 1) := by rw [bit, Nat.shiftRight_eq_div_pow, Nat.and_one_is_mod]
  have hbyte (n : Nat) : n &&& 0xFF = n % 256 := Nat.and_two_pow_sub_one_eq_mod n 8
  simp only [crc8Bit, htop, hbyte, Nat.shiftLeft_eq, pow_one]

/-- A word of a preamble, `n` bits of body and their CRC carries the CRC of its body. -/
theorem crc8_of_framed {w pre body n : Nat} (hbody : body < 2 ^ n) (hw : w = (pre * 2 ^ n + body) * 256 + crc8 body n) :
    w % 256 = crc8 (w / 256 % 2 ^ n) n := by
  have hcrc := crc8_lt body n
  have hlow : w % 256 = crc8 body n := by omega
  have hhigh : w / 256 = pre * 2 ^ n + body := by omega
  rw [hlow, hhigh, Nat.mul_add_mod', Nat.mod_eq_of_lt hbody]

/-! ### The bodies of the two frames (R257, R258) -/

/-- Bits 35:8 of a request: slot, opcode, payload and SEQ. -/
def requestBody (k op payload seq : Nat) : Nat :=
  k % 4 * 2 ^ 26 + op % 64 * 2 ^ 20 + payload % 65536 * 16 + seq % 16

/-- Bits 27:8 of a response: status, slot and payload. -/
def responseBody (status k payload : Nat) : Nat := status % 4 * 2 ^ 18 + k % 4 * 2 ^ 16 + payload % 65536

theorem requestBody_lt (k op payload seq : Nat) : requestBody k op payload seq < 2 ^ 28 := by
  unfold requestBody; omega

theorem responseBody_lt (status k payload : Nat) : responseBody status k payload < 2 ^ 20 := by
  unfold responseBody; omega

/-- A request is the preamble 0xD, its body and the CRC of its body. -/
theorem requestFrame_eq_framed (k op payload seq : Nat) :
    requestFrame k op payload seq =
      (13 * 2 ^ 28 + requestBody k op payload seq) * 256 + crc8 (requestBody k op payload seq) 28 := by
  simp only [requestFrame, requestBody]; omega

/-- A response is the preamble 0xB, its body and the CRC of its body. -/
theorem responseFrame_eq_framed (status k payload : Nat) :
    responseFrame status k payload =
      (11 * 2 ^ 20 + responseBody status k payload) * 256 + crc8 (responseBody status k payload) 20 := by
  simp only [responseFrame, responseBody]; omega

/-- Settles O45: a bit by shifts and masks, the whole by its last bit, and each frame because its body fits its bits. -/
theorem laneCrc : Obligations.LaneCrc :=
  ⟨fun crc b _ => crc8Bit_eq_shift crc b, fun _ => rfl, crc8_succ,
    fun k op payload seq =>
      crc8_of_framed (requestBody_lt k op payload seq) (requestFrame_eq_framed k op payload seq),
    fun status k payload => crc8_of_framed (responseBody_lt status k payload) (responseFrame_eq_framed status k payload)⟩

/-! ### Lengths and fields (R257, R258) -/

/-- A request has 40 bits. -/
theorem requestFrame_lt (k op payload seq : Nat) : requestFrame k op payload seq < 2 ^ 40 := by
  have hbody := requestBody_lt k op payload seq
  have hcrc := crc8_lt (requestBody k op payload seq) 28
  rw [requestFrame_eq_framed]
  omega

/-- A response has 32 bits. -/
theorem responseFrame_lt (status k payload : Nat) : responseFrame status k payload < 2 ^ 32 := by
  have hbody := responseBody_lt status k payload
  have hcrc := crc8_lt (responseBody status k payload) 20
  rw [responseFrame_eq_framed]
  omega

/-- The bits of a response above its CRC. -/
theorem responseFrame_div (status k payload : Nat) :
    responseFrame status k payload / 256 = 11 * 2 ^ 20 + responseBody status k payload := by
  have hcrc := crc8_lt (responseBody status k payload) 20
  rw [responseFrame_eq_framed]
  omega

/-- A field above the low byte is a field of what stands above that byte. -/
theorem field_add_eight (w i n : Nat) : field w (i + 8) n = field (w / 256) i n := by
  rw [field, field, Nat.div_div_eq_div_mul, Nat.pow_add, Nat.mul_comm]

/-- The fields that the load reads from a response frame (R258). -/
theorem response_fields {status k payload : Nat} (hstatus : status < 4) (hk : k < 4) (hpayload : payload < 65536) :
    field (responseFrame status k payload) 28 4 = 0xB ∧ field (responseFrame status k payload) 26 2 = status ∧
      field (responseFrame status k payload) 24 2 = k ∧ field (responseFrame status k payload) 8 16 = payload := by
  have hbody : responseBody status k payload = status * 2 ^ 18 + k * 2 ^ 16 + payload := by
    rw [responseBody, Nat.mod_eq_of_lt hstatus, Nat.mod_eq_of_lt hk, Nat.mod_eq_of_lt hpayload]
  have habove (i n : Nat) : field (responseFrame status k payload) (i + 8) n =
      field (11 * 2 ^ 20 + (status * 2 ^ 18 + k * 2 ^ 16 + payload)) i n := by
    rw [field_add_eight, responseFrame_div, hbody]
  refine ⟨(habove 20 4).trans ?_, (habove 18 2).trans ?_, (habove 16 2).trans ?_, (habove 0 16).trans ?_⟩
  all_goals
    unfold field
    omega

/-- Settles O46, by the length and the fields of each frame. -/
theorem laneFrameFields : Obligations.LaneFrameFields := by
  refine ⟨fun k op payload seq hk hop hpayload hseq => ?request, fun status k payload hstatus hk hpayload => ?response⟩
  case request =>
    obtain ⟨hpre, -, hslot, hopcode, hdata, hnumber⟩ := request_fields k op payload seq hk hop hpayload hseq
    exact ⟨requestFrame_lt k op payload seq, hpre, hslot, hopcode, hdata, hnumber⟩
  case response =>
    exact ⟨responseFrame_lt status k payload, response_fields hstatus hk hpayload⟩

end Sys2Proof.Machine
end

section
/-! The commands that a load sends on its lane and the part accepts (R262 to R269, R276). -/

namespace Sys2Proof.Machine

/-! ### An accepted command by what its opcode does and answers -/

/-- An accepted command that its answer does not count: its effect, and the answer read after it. -/
theorem State.LaneReady.laneCommand_of_uncounted {s x : State} {t k seq l op v ack : Nat} (h : s.LaneReady t k seq l op v)
    (hop : setOp op = false) (heffect : (s.polled t).laneSet t k l op v = x) (hack : x.laneAck l op v = ack) :
    s.laneCommand t k op seq v = x.laneDone t k op v seq (responseFrame 0 k ack) := by
  rw [lane_cmd h, lane_exec h, hop, heffect, hack]
  rfl

/-- An accepted command that ACCEPTED_SETS counts with its answer (R276). -/
theorem State.LaneReady.laneCommand_of_counted {s x : State} {t k seq l op v ack : Nat} (h : s.LaneReady t k seq l op v)
    (hop : setOp op = true) (heffect : (s.polled t).laneSet t k l op v = x) (hack : x.laneAck l op v = ack) :
    s.laneCommand t k op seq v = (x.countSet l).laneDone t k op v seq (responseFrame 0 k ack) := by
  rw [lane_cmd h, lane_exec h, hop, heffect, hack]
  rfl

/-- A write of ALLOW ends no burst where none runs, or where it allows one that ENABLE enables (R213). -/
theorem State.burstForbidden_of_allowed {s : State} {l v : Nat}
    (h : (s.loop l).pp.burst = 0 ∨ (v = 1 ∧ s.lo l 0xD 1 = 1)) :
    (s.put (loopIdx l 0xD) 2 v).burstForbidden l = s.put (loopIdx l 0xD) 2 v := by
  refine if_neg ?_
  rintro ⟨hburst, hoff⟩
  obtain hidle | ⟨rfl, henable⟩ := h
  · exact hburst hidle
  · have hkey : okey (loopIdx l 0xD) 1 ≠ okey (loopIdx l 0xD) 2 := by unfold okey; omega
    have hkept : (s.put (loopIdx l 0xD) 2 1).lo l 0xD 1 = 1 := (State.ob_put_other s 1 hkey).trans henable
    have hallow : (s.put (loopIdx l 0xD) 2 1).lo l 0xD 2 = 1 := State.ob_put ..
    omega

/-- Settles O23: each command by its effect and its answer, a write of ALLOW by whether it forbids a burst. -/
theorem laneSetsComplete : Obligations.LaneSetsComplete := by
  intro s t k seq l v
  have power (h : s.LaneReady t k seq l 0xA v) : exec (.setPowerState t k seq v) s =
      .next (((((s.polled t).put (loopIdx l 0xD) 2 v).burstForbidden l).countSet l).laneDone t k 0xA v seq
        (responseFrame 0 k v)) :=
    congrArg Host.Outcome.next (h.laneCommand_of_counted rfl rfl rfl)
  exact ⟨fun h => congrArg Host.Outcome.next (h.laneCommand_of_uncounted rfl rfl rfl),
    fun h => congrArg Host.Outcome.next (h.laneCommand_of_counted rfl rfl rfl),
    fun h => congrArg Host.Outcome.next (h.laneCommand_of_counted rfl rfl rfl),
    fun h => congrArg Host.Outcome.next (h.laneCommand_of_uncounted rfl rfl rfl),
    fun h hallowed => by rw [power h, State.burstForbidden_of_allowed (s := s.polled t) hallowed], power⟩

/-- What ACK_ALERT leaves of the latch is its answer (R266, R268). -/
theorem State.laneAck_clearAlerts (s : State) (l v : Nat) :
    (s.clearAlerts l v).laneAck l 0xB v = bitmap ((bitsOf (s.loop l).ln.latch 16).filter (fun b => !bit v b)) := by
  simp [State.laneAck, State.clearAlerts]

/-- The record of an answer on the loop of its slot (R276). -/
theorem State.laneLast_of_anchored {s : State} {t k l : Nat} (op v rsp : Nat) (h : s.anchoredAt t k = some l) :
    s.laneLast t k op v rsp = s.updLoop l (fun lp =>
      { lp with ln := { lp.ln with lastOpcode := op, lastPayload := v, lastStatus := field rsp 26 2 } }) := by
  simp [State.laneLast, h]

/-- Settles O24: the GET opcodes by their answers, ACK_ALERT by its effect, the record by the loop that is anchored. -/
theorem laneReadsComplete : Obligations.LaneReadsComplete := by
  intro s t k seq l v
  exact ⟨fun h => congrArg Host.Outcome.next (lane_exec' h (by decide)),
    fun h => congrArg Host.Outcome.next (lane_exec' h (by decide)),
    fun h => congrArg Host.Outcome.next (lane_exec' h (by decide)),
    fun h => congrArg Host.Outcome.next (lane_exec' h (by decide)),
    fun h => congrArg Host.Outcome.next (lane_exec' h (by decide)),
    fun h => congrArg Host.Outcome.next
      (h.laneCommand_of_uncounted rfl rfl ((s.polled t).laneAck_clearAlerts l v)),
    fun rsp op h => State.laneLast_of_anchored op v rsp h⟩

end Sys2Proof.Machine
end

section
/-! Sample slots as words: their fields and their CRC (R279). -/

namespace Sys2Proof.Machine

/-! ### Two's complement and flags -/

/-- A number of `n + 1` bits in two's complement is read back as it was written. -/
theorem toInt_ofInt {n : Nat} {v : Int} (hlo : -2 ^ n ≤ v) (hhi : v < 2 ^ n) : toInt (n + 1) (ofInt (n + 1) v) = v := by
  have hdouble : (2 : Int) ^ (n + 1) = 2 * 2 ^ n := by ring
  have hcast : ((2 ^ n : Nat) : Int) = 2 ^ n := by norm_cast
  rw [toInt, ofInt, Nat.add_sub_cancel]
  obtain hneg | hpos := lt_or_ge v 0
  · have hcode : v % 2 ^ (n + 1) = v + 2 ^ (n + 1) := by
      rw [← Int.add_emod_right, Int.emod_eq_of_lt (by omega) (by omega)]
    rw [hcode, if_pos (by omega)]
    omega
  · rw [Int.emod_eq_of_lt hpos (by omega), if_neg (by omega)]
    omega

/-- A number in two's complement fits its bits. -/
theorem ofInt_lt (bits : Nat) (v : Int) : ofInt bits v < 2 ^ bits := by
  have hpos : (0 : Int) < 2 ^ bits := by positivity
  have hlow := Int.emod_nonneg v hpos.ne'
  have hhigh := Int.emod_lt_of_pos v hpos
  have hcast : ((2 ^ bits : Nat) : Int) = 2 ^ bits := by norm_cast
  rw [ofInt]
  omega

/-- A flag is one bit. -/
theorem b2n_lt_two (b : Bool) : b2n b < 2 := by cases b <;> decide

/-- A flag is read back as it was written. -/
@[simp] theorem b2n_beq_one (b : Bool) : (b2n b == 1) = b := by cases b <;> rfl

/-- A bit is the field of its one place. -/
theorem bit_eq_field (w i : Nat) : bit w i = (field w i 1 == 1) := rfl

/-! ### The body of a slot and its CRC -/

/-- Bits 31:8 of a sample slot: ERROR, ACTION, WAKE, PREVIEW, P_TICK and the reserved bit (R279). -/
def SampleSlot.body (f : SampleSlot) : Nat :=
  ofInt 16 f.error * 256 + f.action % 4 * 64 + b2n f.wake * 32 + b2n f.preview * 16 + f.pTick % 8 * 2

/-- A sample slot is its body and the CRC of its body. -/
theorem SampleSlot.word_eq_framed (f : SampleSlot) : f.word = f.body * 256 + crc8 f.body 24 := rfl

/-- The body of a sample slot has 24 bits. -/
theorem SampleSlot.body_lt (f : SampleSlot) : f.body < 2 ^ 24 := by
  have herror := ofInt_lt 16 f.error
  have hwake := b2n_lt_two f.wake
  have hpreview := b2n_lt_two f.preview
  unfold SampleSlot.body
  omega

/-- The bits of a sample slot above its CRC. -/
theorem SampleSlot.word_div (f : SampleSlot) : f.word / 256 = f.body := by
  have hcrc := crc8_lt f.body 24
  rw [f.word_eq_framed]
  omega

/-- A sample slot has 32 bits. -/
theorem SampleSlot.word_lt (f : SampleSlot) : f.word < 2 ^ 32 := by
  have hbody := f.body_lt
  have hcrc := crc8_lt f.body 24
  rw [f.word_eq_framed]
  omega

/-- The CRC of a sample slot passes. -/
theorem SampleSlot.sampleCrcOk_word (f : SampleSlot) : sampleCrcOk f.word = true := by
  have hframed : f.word = (0 * 2 ^ 24 + f.body) * 256 + crc8 f.body 24 := by
    rw [Nat.zero_mul, Nat.zero_add, f.word_eq_framed]
  exact beq_iff_eq.mpr (crc8_of_framed f.body_lt hframed).symm

/-! ### Fields -/

/-- The places of a sample slot above its CRC hold its fields, and the reserved bit is 0 (R279). -/
theorem SampleSlot.word_fields {f : SampleSlot} (haction : f.action < 4) (htick : f.pTick < 8) :
    field f.word 16 16 = ofInt 16 f.error ∧ field f.word 14 2 = f.action ∧ field f.word 13 1 = b2n f.wake ∧
      field f.word 12 1 = b2n f.preview ∧ field f.word 9 3 = f.pTick ∧ field f.word 8 1 = 0 := by
  have hbody : f.body = ofInt 16 f.error * 256 + f.action * 64 + b2n f.wake * 32 + b2n f.preview * 16 + f.pTick * 2 := by
    rw [SampleSlot.body, Nat.mod_eq_of_lt haction, Nat.mod_eq_of_lt htick]
  have habove (i n : Nat) : field f.word (i + 8) n = field f.body i n := by rw [field_add_eight, f.word_div]
  have herror := ofInt_lt 16 f.error
  have hwake := b2n_lt_two f.wake
  have hpreview := b2n_lt_two f.preview
  refine ⟨(habove 8 16).trans ?_, (habove 6 2).trans ?_, (habove 5 1).trans ?_, (habove 4 1).trans ?_,
    (habove 1 3).trans ?_, (habove 0 1).trans ?_⟩
  all_goals
    rw [hbody, field]
    omega

/-- A receiver reads the fields that the sender wrote. -/
theorem SampleSlot.sampleFields_word {f : SampleSlot} (hlo : -32768 ≤ f.error) (hhi : f.error ≤ 32767)
    (haction : f.action < 4) (htick : f.pTick < 8) : sampleFields f.word = f := by
  obtain ⟨herror, hact, hwake, hpreview, hp, -⟩ := f.word_fields haction htick
  have hsigned : toInt 16 (ofInt 16 f.error) = f.error := toInt_ofInt (n := 15) (by omega) (by omega)
  simp only [sampleFields, bit_eq_field, herror, hact, hwake, hpreview, hp, hsigned, b2n_beq_one]

/-- Settles O47: the slot by its body and the CRC of its body, and the difference of two slots by what a receiver reads. -/
theorem sampleSlotFields : Obligations.SampleSlotFields := by
  intro f hlo hhi haction htick
  obtain ⟨-, -, -, -, -, hreserved⟩ := f.word_fields haction htick
  have hread := f.sampleFields_word hlo hhi haction htick
  refine ⟨hread, f.sampleCrcOk_word, f.word_lt, ?reserved, fun g hglo hghi hgaction hgtick hsame => ?differ⟩
  case reserved => rw [bit_eq_field, hreserved]; rfl
  case differ =>
    calc g = sampleFields g.word := (g.sampleFields_word hglo hghi hgaction hgtick).symm
      _ = sampleFields f.word := by rw [hsame]
      _ = f := hread

end Sys2Proof.Machine
end

section
/-! Sample slots and control bytes as a receiver takes them (R278 to R281, R288, R290). -/

namespace Sys2Proof.Machine

/-! ### Sample slots (R279, R280, R288) -/

/-- A slot of a loop in which the receiver takes part: delivered where its CRC passes, else counted and lost (R280, R288). -/
theorem State.sampleSlot_of_partakes {s s0 : State} {r t k l : Nat} (w : Nat) (hup : s.pairUp r t = true)
    (h0 : s0 = s.reach ((s.now + 1) / 8 * 8 + 6)) (hanchored : s.anchoredAt t k = some l)
    (hpart : s.partakes l r = true) :
    s.sampleSlot r t k w = if sampleCrcOk w then s0.deliver l r (sampleFields w) else
      ({ s0 with link := { s0.link with sampleErrors := satAdd 32 s0.link.sampleErrors 1 } } : State).sampleLost l r t := by
  subst h0
  have hthere : (s.reach ((s.now + 1) / 8 * 8 + 6)).anchoredAt t k = some l := hanchored
  have htakes : (s.reach ((s.now + 1) / 8 * 8 + 6)).partakes l r = true := hpart
  simp only [State.sampleSlot, hup, hthere, htakes, if_true]

/-- A slot of no loop, or of a loop in which the receiver takes no part, is ignored (R279). -/
theorem State.sampleSlot_of_ignored {s s0 : State} {r t k : Nat} (w : Nat) (hup : s.pairUp r t = true)
    (h0 : s0 = s.reach ((s.now + 1) / 8 * 8 + 6)) (hnone : ∀ l, s.anchoredAt t k = some l → s.partakes l r = false) :
    s.sampleSlot r t k w = s0 := by
  subst h0
  refine (if_pos hup).trans ?_
  dsimp only
  split
  · next l hl => exact if_neg (Bool.eq_false_iff.mp (hnone l hl))
  · rfl

/-- A slot that says what the tile already follows changes nothing (R280). -/
theorem State.deliver_of_followed {s : State} {l r : Nat} {f : SampleSlot} (haction : f.action = 0) (hwake : f.wake = false)
    (herror : (s.compOf l r).e1 = f.error) : s.deliver l r f = s := by
  have htaken (n : Nat) : s.takeError l r n f.error = s := by simp [State.takeError, herror]
  have hacted : s.takeAction l r 0 = s := rfl
  simp [State.deliver, htaken, haction, hwake, hacted]

/-- The first slot that a tile loses of a loop is recorded, and leaves the loop marked for the frame boundary (R288). -/
theorem State.slotLost_of_first {s : State} {l r : Nat} (from_ kind : Nat) (h : bit (s.loop l).pr.lostTiles r = false) :
    s.slotLost l r from_ kind = (s.report r srcPort 0x0203 5 l [from_, kind]).updLoop l (fun lp =>
      { lp with pr := { lp.pr with lostTiles := setBit lp.pr.lostTiles r } }) :=
  if_neg (Bool.eq_false_iff.mp h)

/-- The first lost slot stops the replica's compensator, its flags reach no phase, and a preview in it is missed (R288). -/
theorem State.sampleLost_of_first {s s2 : State} {l r : Nat} (t : Nat) (h : bit (s.loop l).pr.lostTiles r = false)
    (h2 : s2 = ((s.report r srcPort 0x0203 5 l [t, 1]).updLoop l (fun lp =>
      { lp with pr := { lp.pr with lostTiles := setBit lp.pr.lostTiles r } })).stopReplica l r) :
    s.sampleLost l r t = ({ s2 with
      phases := s2.phases.updAll {} (s2.tilePart l r) (fun _ ph => ph.missFlags s2.now (s2.loop l).ac.actEnd) } :
        State).missPreview l r := by
  rw [h2, ← State.slotLost_of_first t 1 h]
  rfl

/-! ### Control bytes (R281, R290) -/

/-- The bits of a field are those of the number that carries it. -/
theorem bit_field (v i : Nat) {k n : Nat} (hk : k < n) : bit (field v i n) k = bit v (i + k) := by
  rw [bit_eq_testBit, field, Nat.testBit_mod_two_pow, Nat.testBit_div_two_pow, decide_eq_true hk, Bool.true_and,
    bit_eq_testBit, Nat.add_comm]

/-- A byte without SAFE_REQ takes no loop to its safe state (R281). -/
theorem State.safeRequested_of_none {s : State} (r t : Nat) {b : Nat} (h : field b 4 4 = 0) : s.safeRequested r t b = s := by
  have hclear : ∀ k ∈ List.range 4, bit b (4 + k) = false := by
    intro k hk
    rw [← bit_field b 4 (List.mem_range.mp hk), h, bit_zero]
  unfold State.safeRequested
  generalize List.range 4 = ks at hclear
  induction ks with
  | nil => rfl
  | cons k ks ih =>
    rw [List.forall_mem_cons] at hclear
    rw [List.foldl_cons, hclear.1]
    cases s.heldAt t k <;> exact ih hclear.2

/-- A byte with odd parity and the number of its cycle clears the count of bad ones and stores its SAFE_REQ (R281). -/
theorem State.controlByte_of_good {s : State} {r t b : Nat} (hup : s.pairUp r t = true) (hparity : parityOk b = true)
    (hcycle : field b 1 2 = ((s.now + 7) / 8 + 3) % 4) :
    s.controlByte r t b =
      ({ s.reach ((s.now + 7) / 8 * 8) with
        link := { s.link with
          badControl := s.link.badControl.set 0 (8 * r + t) 0
          safeReq := s.link.safeReq.set 0 (8 * r + t) (b / 8) } } : State).safeRequested r t b := by
  have hnumber : (s.now + 7) / 8 * 8 / 8 = (s.now + 7) / 8 := Nat.mul_div_cancel _ (by decide)
  exact (if_pos hup).trans (if_pos (by simp [hparity, hcycle, hnumber]))

/-- One that fails is counted, and the third in succession is the loss of the port (R290). -/
theorem State.controlByte_of_bad {s s2 : State} {r t b : Nat} (hup : s.pairUp r t = true)
    (hbad : parityOk b = false ∨ field b 1 2 ≠ ((s.now + 7) / 8 + 3) % 4)
    (h2 : s2 = { s.reach ((s.now + 7) / 8 * 8) with
      link := { s.link with
        controlErrors := satAdd 32 s.link.controlErrors 1
        badControl := s.link.badControl.set 0 (8 * r + t) (s.link.badControl.get 0 (8 * r + t) + 1) } }) :
    s.controlByte r t b = if 3 ≤ s.link.badControl.get 0 (8 * r + t) + 1 then s2.portLost r t else s2 := by
  subst h2
  have hnumber : (s.now + 7) / 8 * 8 / 8 = (s.now + 7) / 8 := Nat.mul_div_cancel _ (by decide)
  refine (if_pos hup).trans (if_neg ?_)
  rcases hbad with hparity | hcycle
  · simp [hparity]
  · simp [hcycle, hnumber]

/-- Settles O26: a sample slot by the loop of its slot and by its CRC, a control byte by its parity and its number. -/
theorem linkSlots : Obligations.LinkSlots := by
  intro s s0 s2 r t k l w b f hup h0
  refine ⟨fun hanchored hpart hcrc => congrArg Host.Outcome.next
      ((State.sampleSlot_of_partakes w hup h0 hanchored hpart).trans (if_pos hcrc)),
    State.deliver_of_followed, fun hanchored hpart => ?outside, fun hnone => ?unanchored,
    fun hanchored hpart hcrc hfirst h2 => ?lost, fun hparity hcycle h2 => ?good, fun hbad h2 => ?bad⟩
  case outside =>
    refine congrArg Host.Outcome.next (State.sampleSlot_of_ignored w hup h0 fun m hm => ?_)
    rwa [← Option.some.inj (hanchored.symm.trans hm)]
  case unanchored =>
    refine congrArg Host.Outcome.next (State.sampleSlot_of_ignored w hup h0 fun m hm => ?_)
    exact absurd (hnone.symm.trans hm) (by simp)
  case lost =>
    have hslot := (State.sampleSlot_of_partakes w hup h0 hanchored hpart).trans (if_neg (Bool.eq_false_iff.mp hcrc))
    subst h0
    exact congrArg Host.Outcome.next (hslot.trans (State.sampleLost_of_first t hfirst h2))
  case good =>
    subst h2
    exact ⟨congrArg Host.Outcome.next (State.controlByte_of_good hup hparity hcycle),
      State.safeRequested_of_none r t⟩
  case bad =>
    have hbyte := State.controlByte_of_bad hup hbad h2
    exact ⟨fun hfew => congrArg Host.Outcome.next (hbyte.trans (if_neg (by omega))),
      fun hmany => congrArg Host.Outcome.next (hbyte.trans (if_pos (by omega)))⟩

end Sys2Proof.Machine
end

section
/-! Port loss and management traffic (R283, R290, R291). -/

namespace Sys2Proof.Machine

/-! ### Port loss (R290, R291) -/

/-- The loss of a port other than port 0 is declared once, with its record and the dangerous fault of the loops shared. -/
theorem State.portLost_of_up {s s1 : State} {r t : Nat} (hup : s.pairUp r t = true)
    (hfirst : bit s.link.pairLost (8 * r + t) = false) (ht : t ≠ 0)
    (h1 : s1 = ({ s with
      link := { s.link with
        pairLost := setBit s.link.pairLost (8 * r + t), lostAt := s.link.lostAt.set 0 (8 * r + t) s.now } } : State).report
          r srcPort 0x0206 5 t [r]) :
    s.portLost r t = s1.dangerous (s1.sharedLoops r t) r 0x0206 t false := by
  subst h1
  exact (if_pos (by simp [hup, hfirst])).trans (if_neg fun h => ht h.1)

/-- The decision on a port other than port 0: a failed tile where two receivers, or the only other one, have lost it or where
it does not answer, else a pair fault. -/
theorem State.decideLoss_of_other {s : State} {t : Nat} (answered : Bool) (hrun : s.clk.running = true)
    (htile : s.hasTile t = true) (ht : t ≠ 0) (hworks : (s.tile t).state ≠ 2) (hlost : 0 < (s.losers t).length) :
    s.decideLoss t answered = if 2 ≤ (s.losers t).length ∨ s.T = 2 then s.failTile t 4
      else if answered then s else s.failTile t 5 :=
  (if_pos (by simp [hrun, htile, hworks, hlost])).trans (if_neg ht)

/-- The decision on port 0, lost at two receivers or more but not at all. -/
theorem State.decideLoss_of_zero {s : State} (answered : Bool) (hrun : s.clk.running = true) (htile : s.hasTile 0 = true)
    (hworks : (s.tile 0).state ≠ 2) (hlost : 2 ≤ (s.losers 0).length) (hsome : (s.losers 0).length + 1 < s.T) :
    s.decideLoss 0 answered = s.failTile 0 4 := by
  have hpos : 0 < (s.losers 0).length := by omega
  exact ((if_pos (by simp [hrun, htile, hworks, hpos])).trans (if_pos rfl)).trans (if_pos ⟨hlost, hsome⟩)

/-! ### Management traffic (R283) -/

/-- Without a resend of its kind on its way, a packet with a credit is a new one. -/
theorem State.mgmtPacket_of_new {s : State} {r t : Nat} {response : Bool} (crcOk : Bool) (hup : s.pairUp r t = true)
    (hpath : bit s.link.mgmtFault (8 * r + t) = false)
    (hnone : (s.link.flying.get [] (8 * r + t)).find? (fun q => q.away && q.response == response) = none)
    (hcredit : s.link.creditsUsed.get 0 (8 * r + t) < creditsFor response) :
    s.mgmtPacket r t response crcOk = s.mgmtSend (8 * r + t) { response := response, sentAt := s.now } crcOk := by
  simp [State.mgmtPacket, hup, hpath, hnone, hcredit]

/-- The oldest resend of its kind that is on its way arrives with the credit that it holds. -/
theorem State.mgmtPacket_of_resend {s : State} {r t : Nat} {response : Bool} {q : Packet} (crcOk : Bool)
    (hup : s.pairUp r t = true) (hpath : bit s.link.mgmtFault (8 * r + t) = false)
    (hsome : (s.link.flying.get [] (8 * r + t)).find? (fun q => q.away && q.response == response) = some q) :
    s.mgmtPacket r t response crcOk = s.mgmtAgain (8 * r + t) q crcOk := by
  simp only [State.mgmtPacket, hup, hpath, hsome, Bool.not_false, Bool.and_self, if_true]

/-- The packet sent first is resent up to three times; after the third the path is faulty. -/
theorem State.mgmtTimeout_of_oldest {s s1 : State} {r t : Nat} {q : Packet} (hup : s.pairUp r t = true)
    (hpath : bit s.link.mgmtFault (8 * r + t) = false)
    (hsome : oldestPacket (s.link.flying.get [] (8 * r + t)) = some q) (h1 : s1 = s.reach (q.sentAt + 2500)) :
    s.mgmtTimeout t r = if q.resends < 3 then
      { s1 with
        link := { s1.link with
          flying := s1.link.flying.upd [] (8 * r + t) (·.replace q { q with
            resends := q.resends + 1, sentAt := s1.now, away := true })
          mgmtRetries := satAdd 32 s1.link.mgmtRetries 1 } }
      else ({ s1 with link := { s1.link with mgmtFault := setBit s1.link.mgmtFault (8 * r + t) } } : State).report t
        srcPort 0x0207 3 t [r] := by
  subst h1
  simp only [State.mgmtTimeout, hup, hpath, hsome, Bool.not_false, Bool.and_self, if_true]

/-- The first resend of a packet that was lost whole takes the packet's credit (log entry 142). -/
theorem State.mgmtTimeout_of_lostWhole {s : State} {r t : Nat} (hup : s.pairUp r t = true)
    (hpath : bit s.link.mgmtFault (8 * r + t) = false)
    (hnone : oldestPacket (s.link.flying.get [] (8 * r + t)) = none)
    (hcredit : s.link.creditsUsed.get 0 (8 * r + t) < 8) :
    (s.mgmtTimeout t r).link.mgmtRetries = satAdd 32 s.link.mgmtRetries 1 ∧
      (s.mgmtTimeout t r).link.creditsUsed = s.link.creditsUsed.upd 0 (8 * r + t) (· + 1) := by
  simp [State.mgmtTimeout, State.mgmtSend, hup, hpath, hnone, hcredit]

/-- A buffer that the receiver's processor frees returns its credit. -/
theorem State.mgmtCredit_of_buffered {s : State} {r t : Nat} (hup : s.pairUp r t = true) (hruns : s.procRuns r = true)
    (hheld : 0 < s.link.buffered.get 0 (8 * r + t)) :
    s.mgmtCredit t r = { s with
      link := { s.link with
        creditsUsed := s.link.creditsUsed.upd 0 (8 * r + t) (· - 1)
        buffered := s.link.buffered.upd 0 (8 * r + t) (· - 1) } } :=
  if_pos (by simp [hup, hruns, hheld])

/-- Settles O28: the decision by where the port is lost, a packet by whether it is a resend, a timeout by the oldest packet. -/
theorem linkPortsAndManagement : Obligations.LinkPortsAndManagement := by
  intro s s1 r t response
  refine ⟨fun hup hfirst ht h1 => congrArg Host.Outcome.next (State.portLost_of_up hup hfirst ht h1),
    fun hrun htile ht hworks => ?decision,
    fun hrun htile hworks hlost hsome => congrArg Host.Outcome.next
      (State.decideLoss_of_zero true hrun htile hworks hlost hsome),
    fun hup hpath hnone hcredit => ?newPacket, fun q hup hpath hsome => ?resend,
    fun q hup hpath hsome h1 => ?timeout,
    fun hup hpath hnone hcredit => ⟨_, rfl, State.mgmtTimeout_of_lostWhole hup hpath hnone hcredit⟩,
    fun hup hruns hheld => congrArg Host.Outcome.next (State.mgmtCredit_of_buffered hup hruns hheld)⟩
  case decision =>
    have decides (answered : Bool) (hlost : 0 < (s.losers t).length) :=
      State.decideLoss_of_other answered hrun htile ht hworks hlost
    refine ⟨fun htwo => congrArg Host.Outcome.next ?two, fun hone hpair => congrArg Host.Outcome.next ?pair,
      fun hone hmore => congrArg Host.Outcome.next ?answers, fun hone hmore => congrArg Host.Outcome.next ?silent⟩
    case two => exact (decides true (by omega)).trans (if_pos (.inl htwo))
    case pair => exact (decides true (by omega)).trans (if_pos (.inr hpair))
    case answers => exact (decides true (by omega)).trans (if_neg (by omega))
    case silent => exact (decides false (by omega)).trans (if_neg (by omega))
  case newPacket =>
    exact ⟨congrArg Host.Outcome.next (State.mgmtPacket_of_new true hup hpath hnone hcredit),
      congrArg Host.Outcome.next (State.mgmtPacket_of_new false hup hpath hnone hcredit)⟩
  case resend =>
    exact ⟨congrArg Host.Outcome.next (State.mgmtPacket_of_resend true hup hpath hsome),
      congrArg Host.Outcome.next (State.mgmtPacket_of_resend false hup hpath hsome)⟩
  case timeout =>
    have htimeout := State.mgmtTimeout_of_oldest hup hpath hsome h1
    exact ⟨fun hleft => congrArg Host.Outcome.next (htimeout.trans (if_pos hleft)),
      fun hspent => congrArg Host.Outcome.next (htimeout.trans (if_neg (Nat.not_lt.mpr hspent)))⟩

end Sys2Proof.Machine
end

section
/-! The order of the fuses along a run (R475). -/

namespace Sys2Proof.Machine

/-- A step whose front command keeps the order of the fuses keeps it, and a blown fuse blown. -/
theorem step_keeps_fuses (s : State) (h : ∀ c cs, s.pending = c :: cs → ¬ breaksFuseOrder c) :
    ∃ t, step s = .next t ∧ (s.fuseOrder → t.fuseOrder) ∧ (s.sec.provision = true → t.sec.provision = true) ∧
      (s.sec.field = true → t.sec.field = true) := by
  cases hqueue : s.pending with
  | nil =>
    have k : s.Keeps s.idle := .of_fixed s.idle_fixed
    exact ⟨s.idle, step_of_pending_nil hqueue, k.order, k.provision, k.field⟩
  | cons c cs =>
    obtain ⟨t, ht, -, -, -, -, hkeeps⟩ := everyCommandKeeps c { s with pending := cs }
    have k := hkeeps (h c cs hqueue)
    exact ⟨t, by simp only [step, hqueue, ht], k.order, k.provision, k.field⟩

/-- Settles O5: an empty queue leaves the fuses, and the front command keeps their order. -/
theorem fuseOrderInvariant : Obligations.FuseOrderInvariant := by
  intro s horder hfront
  obtain ⟨t, ht, hkeeps, hprovision, hfield⟩ := step_keeps_fuses s hfront
  exact ⟨t, ht, hkeeps horder, hprovision, hfield⟩

/-- Settles O3: right after reset FIELD is intact. -/
theorem fuseOrderAtReset : Obligations.FuseOrderAtReset := by
  intro hfield
  have hintact : State.reset.sec.field = false := rfl
  rw [hintact] at hfield
  cases hfield

end Sys2Proof.Machine
end

section
/-! Requests of events, Cellar and calibration (R314, R369, R390, R399, R401, R403, R421, R427, R438, R505). -/

namespace Sys2Proof.Machine

/-- A command that is an admitted write of a live object, whose effect refuses nothing, is answered with success
(R75, R492). -/
theorem State.Admits.next_of_live {s s1 s2 : State} {ch : Chan} {idx sub len v : Nat} {f : Fam} {i : Nat} {r : Row}
    (h : s.Admits s1 ch idx sub len v f i r) (hcls : (f.row sub).map (·.cls) = some .l) (htarget : f ≠ .loopTarget)
    (hlive : s1.live ch f i idx sub v 0 = (s2, none)) :
    (.next (s.write ch idx sub len v) : Out) = .next (s2.answer ch (.ok [])) :=
  congrArg Host.Outcome.next (h.write_of_live (admits_cls h hcls) htarget hlive)

/-! ### Events -/

/-- Settles O10: each command is an admitted write of a live object, whose effect refuses nothing. -/
theorem eventRequestsComplete : Obligations.EventRequestsComplete := by
  intro s s1 ch i r v
  refine ⟨fun h => ?view, fun h => ?position, fun h => ?recClear, fun h => ?acknowledge, fun h => ?firstFault,
    fun h => ?firstFail, fun h => ?history⟩
  case view => exact h.next_of_live rfl (by decide) rfl
  case position => exact h.next_of_live rfl (by decide) rfl
  case recClear => exact h.next_of_live rfl (by decide) rfl
  case acknowledge => exact h.next_of_live rfl (by decide) rfl
  case firstFault => exact h.next_of_live rfl (by decide) rfl
  case firstFail => exact h.next_of_live rfl (by decide) rfl
  case history => exact h.next_of_live rfl (by decide) rfl

/-! ### Cellar and calibration -/

/-- A store that is triggered while one runs merges with it (R427). -/
theorem State.startStore_of_busy {s : State} (cause : Nat) (h : s.cel.storeState ≠ 0) :
    s.startStore cause = { s with cel := { s.cel with storeMerged := satAdd 32 s.cel.storeMerged 1 } } := if_pos h

/-- A save starts where none waits or runs and every tile works (R421). -/
theorem State.saveRequest_of_idle {s : State} (n : Nat) (hwait : s.cel.saveState ≠ 1) (hrun : s.cel.saveState ≠ 2)
    (hworks : ∀ t ∈ s.tileList, (s.tile t).state = 0) :
    s.saveRequest n = ({ s with cel := { s.cel with saveState := 1, saveSet := n, progress := 0 } }, none) := by
  have hall : (s.tileList.any fun t => (s.tile t).state != 0) = false := by simpa using hworks
  simp [State.saveRequest, hwait, hrun, hall]

/-- A set is restored in CONFIGURE (R438). -/
theorem State.restoreRequest_of_configure {s : State} (n : Nat) (h : s.md.mode = .configure) :
    s.restoreRequest n = (s.restoreSet n, none) := if_pos h

/-- Calibration starts in CONFIGURE or STANDBY where neither the pre-start checks nor a calibration runs (R314). -/
theorem State.calStart_of_idle {s : State} (hmode : s.md.mode = .configure ∨ s.md.mode = .standby)
    (hfree : s.md.starting = none) (hidle : s.cal.state ≠ 1) :
    s.calStart = ({ s with cal := { s.cal with state := 1, startedAt := s.now, valid := false } }, none) :=
  if_pos ⟨hmode, by simp [hfree], hidle⟩

/-- Settles O11: each command is an admitted write of a live object, whose effect is that of its own condition. -/
theorem cellarRequestsComplete : Obligations.CellarRequestsComplete := by
  intro s s1 ch i r n v
  refine ⟨fun h _ => ?store, fun h hbusy => ?merged, fun h hwait hrun hworks => ?save, fun h => ?active,
    fun h hmode => ?restore, fun h hmode hfree hidle => ?calibration⟩
  case store => exact h.next_of_live rfl (by decide) rfl
  case merged =>
    have hlive : s1.live ch .cellarStore i 0x4801 1 v 0 = (s1.startStore 3, none) := rfl
    rw [State.startStore_of_busy 3 hbusy] at hlive
    exact h.next_of_live rfl (by decide) hlive
  case save => exact h.next_of_live rfl (by decide) (State.saveRequest_of_idle n hwait hrun hworks)
  case active => exact h.next_of_live rfl (by decide) rfl
  case restore => exact h.next_of_live rfl (by decide) (State.restoreRequest_of_configure n hmode)
  case calibration => exact h.next_of_live rfl (by decide) (State.calStart_of_idle hmode hfree hidle)

end Sys2Proof.Machine
end

section
/-! Requests of safety and security: safe-state clears, SRDOs, the proof test, sessions, keys and fuses (R444, R457, R468 to
R471, R475, R502). -/

namespace Sys2Proof.Machine

/-! ### Safe state and proof test -/

/-- A safe state whose cause is gone is cleared outside HOLD (R444, R463). -/
theorem State.clearSafe_of_gone {s : State} {l : Nat} (hmode : s.md.mode ≠ .hold) (hsafe : s.loopSafe l = true)
    (hclearable : (s.loop l).pr.resetOnly = false) (hgone : s.causePresent l (s.loop l).pr.cause = false)
    (hrequest : bit s.srdo.request l = false) (htrip : (s.loop l).pr.safeSev = 3 → s.tripInputActive l = false) :
    s.clearSafe l = (s.loopCleared l, none) := by
  have hinput : ¬ ((s.loop l).pr.safeSev = 3 ∧ s.tripInputActive l = true) := fun ⟨hsev, hactive⟩ => by
    simp [htrip hsev] at hactive
  simp [State.clearSafe, hmode, hsafe, hclearable, hgone, hrequest, hinput]

/-- The proof test starts in STANDBY where no commit is in flight and neither the pre-start checks nor a proof test runs
(R457). -/
theorem State.proofStart_of_idle {s : State} (hmode : s.md.mode = .standby) (hflight : s.obj.flight = none)
    (hfree : s.md.starting = none) (hproof : s.md.proofRunning = false) :
    s.proofStart = ({ s with md := { s.md with proofRunning := true, proofState := 1, checkAt := s.now } }, none) :=
  if_pos ⟨hmode, by simp [hflight], by simp [hfree], by simp [hproof]⟩

/-! ### Sessions (R469, R471) -/

/-- A nonce for a key slot that holds a key, on a part that is not locked and whose key area is good (R469). -/
theorem State.sessionOpen_of_key {s : State} {ch : Chan} {k : Nat} (hslot : k < 4) (hlocked : s.sec.locked = false)
    (hholder : ∀ x, s.sec.openNow = some x → x.1 = chanBus ch) (hkey : (s.sec.keys.get none k).isSome = true)
    (harea : s.keyAreaBad = false) :
    s.sessionOpen ch k =
      ({ s with
        sec := { s.sec with
          session := none, tags := [], nonce := some (Config.nonce s.diag.fresh % 2 ^ 64, chanBus ch, k), nonceAt := s.now }
        diag := { s.diag with fresh := s.diag.fresh + 1 } }, none) := by
  have hother : s.sec.openNow.any (fun x => x.1 != chanBus ch) = false := by
    cases hopen : s.sec.openNow with
    | none => rfl
    | some x => simp [hholder x hopen]
  have hsome : (s.sec.keys.get none k).isNone = false := by rw [Option.isNone_eq_false_iff]; exact hkey
  simp [State.sessionOpen, (show k ≠ 0xFF by omega), hlocked, hother, hsome, harea, State.endSession]

/-- The proof of the nonce, in time and on its channel, opens the session (R469). -/
theorem State.sessionProve_of_proof {s : State} {ch : Chan} {v np k ks : Nat} (hnonce : s.sec.nonce = some (np, chanBus ch, k))
    (htime : s.now < s.sec.nonceAt + 5000000000) (hks : ks = sessionKey ((s.sec.keys.get none k).getD 0) k np)
    (hproof : v = proofOf ks np) :
    s.sessionProve ch v =
      ({ s with
        sec := { s.sec with
          nonce := none, session := some (chanBus ch, k, ks), counter := 0, accessAt := s.now, failures := 0 } }, none) := by
  simp [State.sessionProve, hnonce, Nat.not_le.mpr htime, hproof, hks]

/-- Settles O12: each command is an admitted write, live but for SRDO_VALID, whose effect is that of its own condition. -/
theorem securityRequestsComplete : Obligations.SecurityRequestsComplete := by
  intro s s1 ch i r l k v np ks
  refine ⟨fun h hmode hsafe hclearable hgone hrequest htrip => ?clear, fun h => ?valid,
    fun h hmode hflight hfree hproof => ?proofTest, fun h hslot hlocked hholder hkey harea => ?openSession,
    fun h => ?closeSession, fun h hnonce htime hks hproof => ?prove, fun h => ?tag⟩
  case clear =>
    have hcleared := loopCleared_at s1 l (.inr (by simpa [State.loopSafe] using hsafe))
    exact ⟨_, h.next_of_live rfl (by decide) (State.clearSafe_of_gone hmode hsafe hclearable hgone hrequest htrip), rfl,
      congrArg Loop.state hcleared, congrArg (·.pr.safeSev) hcleared⟩
  case valid =>
    exact congrArg Host.Outcome.next
      (h.write_of_carryOut (State.carryOut_of_block ch v 0 (admits_cls h rfl) rfl (by simp)))
  case proofTest =>
    exact h.next_of_live rfl (by decide) (State.proofStart_of_idle hmode hflight hfree hproof)
  case openSession =>
    exact h.next_of_live rfl (by decide) (State.sessionOpen_of_key hslot hlocked hholder hkey harea)
  case closeSession => exact h.next_of_live rfl (by decide) rfl
  case prove =>
    exact h.next_of_live rfl (by decide) (State.sessionProve_of_proof hnonce htime hks hproof)
  case tag => exact h.next_of_live rfl (by decide) rfl

/-! ### Key slots and fuses (R468, R475) -/

/-- The holder of slot 0 has the rights of R468. -/
theorem State.needsAdmin_of_holder {s : State} {ch : Chan} {ks : Nat} (h : s.sec.session = some (chanBus ch, 0, ks)) :
    s.needsAdmin ch = none := by
  simp [State.needsAdmin, h]

/-- A slot is rekeyed by the holder of slot 0 with a wrapped key that unwraps; the session ends with its own slot's key
(R468). -/
theorem State.rekeySlot_of_holder {s : State} {ch : Chan} {v slot ks : Nat} {key : List Nat}
    (hholder : s.sec.session = some (chanBus ch, 0, ks)) (hslot : v % 256 = slot) (hlt : slot < 4)
    (hkey : aesUnwrap (bytesLE 16 ks) (bytesLE 24 (v / 256)) = some key) :
    s.rekeySlot ch v =
      (if slot = 0 then (s.setKey slot (ofBytesLE key)).endSession else s.setKey slot (ofBytesLE key), none) := by
  simp [State.rekeySlot, State.needsAdmin_of_holder hholder, hholder, hslot, (show ¬ 3 < slot by omega), hkey]

/-- A fuse all of whose copies read blown passes its verify read (R475). -/
theorem State.fuseVerified_of_all (s : State) (b : Nat) : s.fuseVerified b 7 = (s, none) := rfl

/-- A fuse none of whose copies reads blown fails its verify read (R475). -/
theorem State.fuseVerified_of_none (s : State) (b : Nat) :
    s.fuseVerified b 0 =
      ({ s with sec := { s.sec with integrity := setBit s.sec.integrity b } }, some 0x08000000) := rfl

/-- A fuse whose copies disagree fails its verify read and fires source 3 (R473, R475). -/
theorem State.fuseVerified_of_disagree (s : State) (b : Nat) {copies : Nat} (h : disagree copies = true) :
    s.fuseVerified b copies =
      (({ s with sec := { s.sec with integrity := setBit s.sec.integrity b } } : State).alarm 3, some 0x08000000) := by
  have hall : copies ≠ 7 := by rintro rfl; simp [disagree] at h
  simp [State.fuseVerified, hall, h]

/-- The part with these copies of PROVISION. -/
def State.withProvision (s : State) (copies : Nat) : State := { s with sec := { s.sec with provisionCopies := copies } }

/-- The part with these copies of FIELD. -/
def State.withField (s : State) (copies : Nat) : State := { s with sec := { s.sec with fieldCopies := copies } }

/-- PROVISION is blown in CONFIGURE by the holder of slot 0 on a part with a key in slot 0, and verified (R475). -/
theorem State.blowFuse_provision {s : State} {ch : Chan} {ks : Nat} (n : Nat)
    (hholder : s.sec.session = some (chanBus ch, 0, ks)) (hmode : s.md.mode = .configure)
    (hkey : (s.sec.keys.get none 0).isSome = true) :
    s.blowFuse ch 0x50 n =
      (s.withProvision (s.sec.provisionCopies ||| n % 8)).fuseVerified 1 (s.sec.provisionCopies ||| n % 8) := by
  have hsome : (s.sec.keys.get none 0).isNone = false := by rw [Option.isNone_eq_false_iff]; exact hkey
  simp [State.blowFuse, State.withProvision, State.needsAdmin_of_holder hholder, hmode, hsome]

/-- FIELD is blown in CONFIGURE by the holder of slot 0 once PROVISION is, and verified (R475). -/
theorem State.blowFuse_field {s : State} {ch : Chan} {ks : Nat} (n : Nat)
    (hholder : s.sec.session = some (chanBus ch, 0, ks)) (hmode : s.md.mode = .configure)
    (hprovision : s.sec.provision = true) :
    s.blowFuse ch 0xF1 n =
      (s.withField (s.sec.fieldCopies ||| n % 8)).fuseVerified 0 (s.sec.fieldCopies ||| n % 8) := by
  simp [State.blowFuse, State.withField, State.needsAdmin_of_holder hholder, hmode, hprovision]

/-- FIELD is not blown before PROVISION (R475). -/
theorem State.blowFuse_field_of_intact {s : State} {ch : Chan} {ks : Nat} (n : Nat)
    (hholder : s.sec.session = some (chanBus ch, 0, ks)) (hmode : s.md.mode = .configure)
    (hprovision : s.sec.provision = false) : s.blowFuse ch 0xF1 n = (s, some 0x08000000) := by
  simp [State.blowFuse, State.needsAdmin_of_holder hholder, hmode, hprovision]

/-- What a blow of a fuse answers: success, or the abort of its refusal. -/
def abortOr : Option Nat → Resp
  | none => .ok []
  | some a => .abort a

/-- An admitted write of FUSE_STATUS:03 has the effect and the answer of its blow (R475). -/
theorem State.Admits.fuseWrite_of_blow {s s1 s2 : State} {ch : Chan} {v n i : Nat} {r : Row} {a : Option Nat}
    (h : s.Admits s1 ch 0x2410 3 1 v .fuseStatus i r) (hblow : s1.blowFuse ch v n = (s2, a)) :
    (.next (s.fuseWrite ch v n) : Out) = .next (s2.answer ch (abortOr a)) := by
  have hcls : r.cls = .l := admits_cls h rfl
  have hlive : s1.live ch .fuseStatus i 0x2410 3 v n = (s2, a) := hblow
  have hout : s1.carryOut ch .fuseStatus i 0x2410 3 v r n = (s2, abortOr a) := by
    cases a <;> simp [State.carryOut, hcls, hlive, abortOr]
  rw [State.fuseWrite, admits_request h, hout]

/-- The answer of a blow by what the verify read finds of the copies `c`, which `g` writes; `b` is the fuse's bit in
FUSE_STATUS:04 (R475). -/
theorem State.Admits.fuseWrite_of_verify {s s1 : State} {ch : Chan} {v n i b c : Nat} {r : Row} {g : Nat → State}
    (h : s.Admits s1 ch 0x2410 3 1 v .fuseStatus i r) (hblow : s1.blowFuse ch v n = (g c).fuseVerified b c) :
    (c = 7 → (.next (s.fuseWrite ch v n) : Out) = .next ((g 7).answer ch (.ok []))) ∧
    (c = 0 → (.next (s.fuseWrite ch v n) : Out) =
      .next (({ g 0 with sec := { (g 0).sec with integrity := setBit (g 0).sec.integrity b } } : State).answer ch
        (.abort 0x08000000))) ∧
    (disagree c = true → (.next (s.fuseWrite ch v n) : Out) =
      .next ((({ g c with sec := { (g c).sec with integrity := setBit (g c).sec.integrity b } } : State).alarm 3).answer ch
        (.abort 0x08000000))) := by
  refine ⟨fun hall => ?_, fun hnone => ?_, fun hdis => ?_⟩
  · subst hall
    exact h.fuseWrite_of_blow (hblow.trans (State.fuseVerified_of_all ..))
  · subst hnone
    exact h.fuseWrite_of_blow (hblow.trans (State.fuseVerified_of_none ..))
  · exact h.fuseWrite_of_blow (hblow.trans (State.fuseVerified_of_disagree _ b hdis))

/-- Settles O13: keys by their slot, fuses by what the verify read finds of their copies. -/
theorem keyAndFuseRequestsComplete : Obligations.KeyAndFuseRequestsComplete := by
  intro s s1 ch i r k v slot ks n key
  refine ⟨fun hk h hcls => ?keyWrite, fun h hholder hslot hlt hkey => ?rekey, fun h hholder hmode hkey => ?provision,
    fun h hholder hmode hprovision => ?field, fun h hholder hmode hintact => ?early⟩
  case keyWrite =>
    have hw := s.writeAt_of_ok ch 0x2401 (k + 1) 16 v (decide_eq_true hk)
    exact congrArg Host.Outcome.next
      (hw.trans (h.write_of_carryOut (State.carryOut_of_block ch v 0 hcls rfl (by simp))))
  case rekey => exact h.next_of_live rfl (by decide) (State.rekeySlot_of_holder hholder hslot hlt hkey)
  case provision =>
    exact h.fuseWrite_of_verify (g := s1.withProvision) (State.blowFuse_provision n hholder hmode hkey)
  case field => exact h.fuseWrite_of_verify (g := s1.withField) (State.blowFuse_field n hholder hmode hprovision)
  case early => exact h.fuseWrite_of_blow (State.blowFuse_field_of_intact n hholder hmode hintact)

end Sys2Proof.Machine
end

section
/-! The calibration correction and the telemetry tables: triggers, timer, wait limit, results and staleness (R300, R302 to
R308, R310, R317). -/

namespace Sys2Proof.Machine

/-! ### The correction of a code (R317) -/

/-- Where the upper limit does not act, the quotient is at most the corrected code; where the lower one does not, at least. -/
theorem correctCode_bounds (gain c : Nat) (off : Int) :
    correctCode gain off c ≤ 4095 ∧
    (correctCode gain off c < 4095 → roundAway ((16 * (c : Int) - off) * gain) 524288 ≤ correctCode gain off c) ∧
    (0 < correctCode gain off c → (correctCode gain off c : Int) ≤ roundAway ((16 * (c : Int) - off) * gain) 524288) := by
  unfold correctCode clampI
  omega

/-- A code of 12 bits is corrected with the factors of its converter. -/
theorem State.corrected_of_factors {s : State} {t v code gain : Nat} {off : Int} {trims : List Nat} (hcode : code ≤ 4095)
    (hcal : (s.tile t).cal.get none v = some (gain, off, trims)) :
    s.corrected t v code = correctCode gain off code := by
  simp [State.corrected, hcal, code12, Nat.min_eq_left hcode]

/-- Without factors of its own a converter has the reset factors, which change no code. -/
theorem State.corrected_of_none {s : State} {t v code : Nat} (hcode : code ≤ 4095)
    (hcal : (s.tile t).cal.get none v = none) : s.corrected t v code = code := by
  simp [State.corrected, hcal, resetFactors, code12, Nat.min_eq_left hcode, correct_id code hcode]

/-- Settles O43: the limits and the rounding of a code, and where the correction stands. -/
theorem correctedCode : Obligations.CorrectedCode := by
  refine ⟨fun gain c off => ?bounds, fun s t v code gain off trims => State.corrected_of_factors,
    fun s t v code => State.corrected_of_none, fun s l c0 c1 c2 c3 cs => ?loopSample, fun s t v codes => rfl⟩
  case bounds =>
    obtain ⟨hle, hupper, hlower⟩ := correctCode_bounds gain c off
    obtain ⟨hfrom, hto⟩ := roundAway_bounds ((16 * (c : Int) - off) * gain) 524288 (by decide)
    exact ⟨hle, fun h => by have := hupper h; omega, fun h => by have := hlower h; omega⟩
  case loopSample => simp [State.convOf]

/-! ### Triggers (R302, R304) -/

/-- A trigger within the wait of an entry fixes its first sampling clock. -/
theorem State.triggerOne_of_waits {s : State} {t v k at_ : Nat} {here : Nat → Bool}
    (hwaits : ((s.tile t).seq v).first.isNone = true) (hrun : s.tablesRun t = true)
    (hkind : field (s.entryWord t v) 29 2 = k) (hhere : here v = true) (hfrom : 10 * (((s.tile t).seq v).last + 1) ≤ at_)
    (hlimit : clockAt at_ ≤ ((s.tile t).seq v).last + 1 + (s.entryNow t v).limit) :
    s.triggerOne t k at_ here v = s.updTile t (fun ti => ti.updSeq v (fun q =>
      { q with first := some (clockAt at_ + entryDelay (s.entryWord t v)) })) :=
  if_pos (by simp [hwaits, hrun, hhere, hfrom, hlimit, show field (s.entryNow t v).word 29 2 = k from hkind])

/-- A trigger before the wait of an entry or after its limit is none. -/
theorem State.triggerOne_of_outside {s : State} {t v k at_ : Nat} (here : Nat → Bool)
    (h : at_ < 10 * (((s.tile t).seq v).last + 1) ∨
      ((s.tile t).seq v).last + 1 + (s.entryNow t v).limit < clockAt at_) : s.triggerOne t k at_ here v = s := by
  refine if_neg fun htakes => ?_
  simp only [Bool.and_eq_true, decide_eq_true_eq] at htakes
  obtain ⟨⟨-, hfrom⟩, hlimit⟩ := htakes
  omega

/-- The least multiple of `p` from `now` on is less than `p` away. -/
theorem nextMultiple_bounds (now : Nat) {p : Nat} (hp : 0 < p) :
    now ≤ (now + p - 1) / p * p ∧ (now + p - 1) / p * p < now + p ∧ (now + p - 1) / p * p % p = 0 := by
  have hle := Nat.div_mul_le_self (now + p - 1) p
  have hlt := Nat.lt_div_mul_add (a := now + p - 1) hp
  exact ⟨by omega, by omega, Nat.mul_mod_left ..⟩

/-- The timer of running tables fires at the next clock of either converter. -/
theorem State.telemTimer_of_runs {s s0 s1 : State} {t at_ : Nat} (htile : s.hasTile t = true)
    (hrun : s.tablesRun t = true) (h0 : s0 = s.tablesNow t) (hat : at_ = Nat.min (s0.timerNext t 0) (s0.timerNext t 1))
    (h1 : s1 = (s0.reach at_).tablesNow t) :
    s.telemTimer t = s1.triggerAt t 2 at_ (fun v => s1.timerNext t v == at_) := by
  subst h1 hat h0
  exact if_pos (by simp [htile, hrun])

/-- At the limit of its wait an entry proceeds LATE, unless a trigger has come in the meantime. -/
theorem State.telemLimit_of_waits {s s0 s1 : State} {t v c : Nat} (htile : s.hasTile t = true) (hv : v < 2)
    (h0 : s0 = s.tablesNow t) (hrun : s0.tablesRun t = true) (hwaits : ((s0.tile t).seq v).first.isNone = true)
    (hkind : field (s0.entryWord t v) 29 2 ≠ 0) (hc : c = ((s0.tile t).seq v).last + 1 + (s0.entryNow t v).limit)
    (h1 : s1 = (s0.reach (10 * c)).tablesNow t) :
    s.telemLimit t v =
      if ((s1.tile t).seq v).first.isSome || ((s1.tile t).seq v).last != ((s0.tile t).seq v).last then s1
      else s1.updTile t (fun ti =>
        { ti.updSeq v (fun q => { q with first := some (c + entryDelay (s0.entryWord t v)), late := true }) with
          late := satAdd 32 ti.late 1 }) := by
  subst h1 hc h0
  exact (if_pos (by simp [htile, hv])).trans
    (if_pos (by simp [hrun, hwaits, show field ((s.tablesNow t).entryNow t v).word 29 2 ≠ 0 from hkind]))

/-! ### Results and staleness (R306, R307, R310) -/

/-- The result of a finished entry that waits to be written, from as many codes as the entry has samples. -/
theorem State.telemResult_of_done {s s0 s1 : State} {t v at_ : Nat} {codes : List Nat} {d : DoneEntry}
    {ds : List DoneEntry} (htile : s.hasTile t = true) (hv : v < 2) (h0 : s0 = s.tablesNow t)
    (hat : s0.resultTime t v = some at_) (h1 : s1 = (s0.reach at_).tablesNow t)
    (hdone : ((s1.tile t).seq v).done = d :: ds) (hcodes : codes.length = 2 ^ field d.word 8 4) :
    s.telemResult t v codes =
      (s1.updTile t (fun ti => ti.write v d (s1.sumOf t v codes))).useResult t v d.entry (field d.word 0 7) := by
  subst h1 h0
  simp [State.telemResult, htile, hv, hat, hdone, hcodes]

/-- The result of a finished entry is due 9 clocks after its last sampling clock. -/
theorem State.resultTime_of_done {s : State} {t v : Nat} {d : DoneEntry} {ds : List DoneEntry}
    (h : ((s.tile t).seq v).done = d :: ds) : s.resultTime t v = some (10 * (d.last + 9)) := by
  simp [State.resultTime, h]

/-- What a result writes: LATEST of its channel and RAW of its entry. -/
theorem Tile.write_values (ti : Tile) (v : Nat) (d : DoneEntry) {sum r : Nat}
    (hr : r = entryResultOf (field d.word 8 4) (field d.word 12 4) sum) :
    (ti.write v d sum).latest.get none (field d.word 0 7) = some (voltsOf (field d.word 12 4) r) ∧
    (ti.write v d sum).raw.get (0, 0, false, 0) (64 * v + d.entry) =
      (r, ((ti.raw.get (0, 0, false, 0) (64 * v + d.entry)).2.1 + 1) % 256, d.late, voltsOf (field d.word 12 4) r) := by
  subst hr
  simp [Tile.write]

/-- A channel that reaches 8 whole frames without a result is reported, and marked as reported. -/
theorem State.telemStale_of_due {s : State} {l c : Nat} (hloop : s.loopIs l = true)
    (hstale : (s.loop l).tl.stale.get 0 c = 9) :
    s.telemStale l c =
      (s.updLoop l (fun lp => { lp with tl := { lp.tl with stale := lp.tl.stale.set 0 c 10 } })).loopReport srcReg l 0x0307 3
        [c % 64] := if_pos (by simp [hloop, hstale])

/-- Settles O31: each event of the tables by its condition. -/
theorem telemetryCommands : Obligations.TelemetryCommands := by
  intro s s0 s1 t v l c k at_ codes d ds here
  refine ⟨State.triggerOne_of_waits, State.triggerOne_of_outside here,
    fun htile hv => congrArg Host.Outcome.next (if_pos (by simp [htile, hv])),
    nextMultiple_bounds s.now (Nat.mul_pos (by decide) (Nat.le_max_left ..)),
    fun htile hrun h0 hat h1 => congrArg Host.Outcome.next (State.telemTimer_of_runs htile hrun h0 hat h1),
    fun htile hv h0 hrun hwaits hkind hc h1 => ?limit,
    fun htile hv h0 hat h1 hdone hcodes => congrArg Host.Outcome.next
      (State.telemResult_of_done htile hv h0 hat h1 hdone hcodes),
    State.resultTime_of_done, fun ti sum r => ti.write_values v d,
    fun hloop hstale => congrArg Host.Outcome.next (State.telemStale_of_due hloop hstale)⟩
  case limit =>
    have hlimit := State.telemLimit_of_waits htile hv h0 hrun hwaits hkind hc h1
    refine ⟨fun ⟨hfirst, hlast⟩ => congrArg Host.Outcome.next (hlimit.trans (if_neg ?_)),
      fun hfirst => congrArg Host.Outcome.next (hlimit.trans (if_pos (by simp [hfirst])))⟩
    simp [Option.isNone_iff_eq_none.mp hfirst, hlast]

/-- The sum of as many corrected codes as an entry has samples (R306). -/
theorem State.sumOf_le (s : State) (t v : Nat) {codes : List Nat} {k : Nat} (h : codes.length = 2 ^ k) :
    s.sumOf t v codes ≤ 4095 * 2 ^ k := h ▸ sum_le s t (4 + v) codes

/-- Settles O44: RAW of the entry as its result writes it, and the range of a sum of corrected codes. -/
theorem resultOfAnEntry : Obligations.ResultOfAnEntry := by
  intro s s1 t v k sh at_ sum codes d ds htile hv hat h1 hdone hk hsh hle hcodes hsum
  subst hk hsh
  have hle' : sum ≤ 4095 * 2 ^ field d.word 8 4 := hsum ▸ s1.sumOf_le t v hcodes
  have htile' : (s.telemResult t v codes).tile t = (s1.tile t).write v d sum := by
    rw [hsum, h1]
    exact telem_tile s t v codes d ds at_ htile hv hat (h1 ▸ hdone) hcodes
  obtain ⟨-, hraw⟩ := (s1.tile t).write_values v d (sum := sum) rfl
  refine ⟨s.telemResult t v codes, rfl, ?_⟩
  simp only [htile', hraw, and_true]
  exact ⟨fun hlt => if_pos hlt, fun heq => if_neg (by omega), result_lt _ _ _ hle hle'⟩

end Sys2Proof.Machine
end

section
/-! Check conversions, the end of a calibration and plausibility (R303, R311, R312, R315, R316, R321); comparators and peaks
(R325, R327 to R333, R571). -/

namespace Sys2Proof.Machine

/-! ### Check conversions (R303, R311, R312) -/

/-- What converter `v` does at the check clock `m` of its tile: its own check, where that is due there. -/
def State.takeDue (s : State) (t v m : Nat) (next : Option (Nat × Nat)) (code loop : Nat) : State :=
  match next with
  | some e => if e.2 = m then s.checkTake t v e.1 code loop else s
  | none => s

theorem State.takeDue_of_due (s : State) (t v m n code loop : Nat) :
    s.takeDue t v m (some (n, m)) code loop = s.checkTake t v n code loop := if_pos rfl

theorem State.takeDue_of_other (s : State) {t v m n n' : Nat} (code loop : Nat) (h : n' ≠ m) :
    s.takeDue t v m (some (n, n')) code loop = s := if_neg h

/-- A check conversion of a running device is at the earlier of the next check clocks of its two converters. -/
theorem State.checkConv_of_min {s s0 : State} {t m : Nat} (c0 c1 l0 l1 : Nat) (htile : s.hasTile t = true)
    (hmode : s.md.mode ≠ .reset) (hcal : s.cal.state ≠ 1) (hrun : s.clk.running = true) (h0 : s0 = s.tablesNow t)
    (hm : (((s0.checkNext t 0).toList ++ (s0.checkNext t 1).toList).map (·.2)).min? = some m) :
    s.checkConv t c0 c1 l0 l1 =
      ((s0.reach (10 * m)).takeDue t 0 m (s0.checkNext t 0) c0 l0).takeDue t 1 m (s0.checkNext t 1) c1 l1 := by
  subst h0
  simp only [State.checkConv, htile, hrun, bne_iff_ne.mpr hmode, bne_iff_ne.mpr hcal, Bool.and_self, if_true, hm]
  rfl

/-- A converter that is not powered down takes its next check at its own clock 512·n (R303, R311). -/
theorem State.checkNext_of_up {s : State} {t v n : Nat} (hup : (s.tablesRun t && powersDown (s.entryWord t v)) = false)
    (hn : n = Nat.max ((s.tile t).seq v).check ((s.now + 5119) / 5120)) : s.checkNext t v = some (n, 512 * n) := by
  subst hn
  exact if_neg (by simp [hup])

/-- Position 2 of the cycle: the die temperature of the two codes of the same check. -/
theorem State.checkTake_die {s : State} {t v n c code : Nat} (loop : Nat) (hn : n % 4 = 2)
    (hdie : ((s.tile t).seq (1 - v)).die = some (n, c)) (hv : v < 2) :
    ((s.checkTake t v n code loop).tile t).dieTemp =
      if v = 0 then dieOf (s.corrected t 4 code) c else dieOf c (s.corrected t 5 code) := by
  obtain rfl | rfl : v = 0 ∨ v = 1 := by omega
  · have h1 : (s.tile t).seq1.die = some (n, c) := hdie
    simp [State.checkTake, hn, Tile.updSeq, Tile.seq, h1]
  · have h0 : (s.tile t).seq0.die = some (n, c) := hdie
    simp [State.checkTake, hn, Tile.updSeq, Tile.seq, h0]

/-- A first failure of a check of REF_B counts and is recorded (R312). -/
theorem State.checkOne_first {s : State} {t i : Nat} (n : Nat) (hbad : bit (s.tile t).refBad i = false)
    (hfault : bit (s.tile t).refFault i = false) :
    s.checkOne t n i 0 true =
      (s.updTile t (fun ti =>
        { ti with
          refBad := putBit ti.refBad i true, refFault := putBit ti.refFault i false
          refFails := satAdd 32 ti.refFails 1 })).report t srcTelem 0x0802 2 t [n, 0] := by
  simp [State.checkOne, hbad, hfault, b2n]

/-- A second failure in succession of a check of a sense pair is a converter fault (R312). -/
theorem State.checkOne_second {s s1 : State} {t n i : Nat} (hbad : bit (s.tile t).senseBad i = true)
    (hfault : bit (s.tile t).senseFault i = false)
    (h1 : s1 = (s.updTile t (fun ti =>
      { ti with
        senseBad := putBit ti.senseBad i true, senseFault := putBit ti.senseFault i true
        senseFails := satAdd 32 ti.senseFails 1 })).report t srcTelem 0x0803 5 t [n, 1]) :
    s.checkOne t n i 1 true = s1.dangerous (s1.loopsOn t) t 0x0803 t false := by
  subst h1
  simp [State.checkOne, hbad, hfault, b2n]

/-- A check that passes clears its bits (R312). -/
theorem State.checkOne_passes (s : State) (t n i kind : Nat) :
    s.checkOne t n i kind false = s.updTile t (fun ti =>
      if kind = 0 then
        { ti with
          refBad := putBit ti.refBad i false, refFault := putBit ti.refFault i false
          refFails := satAdd 32 ti.refFails 0 }
      else
        { ti with
          senseBad := putBit ti.senseBad i false, senseFault := putBit ti.senseFault i false
          senseFails := satAdd 32 ti.senseFails 0 }) := rfl

/-! ### Calibration and plausibility (R315, R316, R321) -/

/-- A list of results that all pass fails no converter (log entry 53). -/
theorem calFails_of_passes {rs : List CalResult} (h : ∀ r ∈ rs, calPasses r = true) (t c : Nat) :
    calFails rs t c = false := by
  unfold calFails
  split
  · next r hr => simp [h r (List.mem_of_find?_eq_some hr)]
  · rfl

/-- The end of a calibration counts a run, and is valid where every result passes (R316). -/
theorem State.calFinish_cal (s : State) (rs : List CalResult) :
    (s.calFinish rs).cal.runs = wrapAdd 32 s.cal.runs 1 ∧
      ((∀ r ∈ rs, calPasses r = true) →
        (s.calFinish rs).cal.state = 2 ∧ (s.calFinish rs).cal.valid = true ∧ (s.calFinish rs).cal.failed = 0) := by
  unfold State.calFinish
  simp only [foldl_cal State.restartTables (fun _ _ => rfl), foldl_cal (State.calTile rs) (calTile_cal rs)]
  refine ⟨trivial, fun hpass => ?_⟩
  have hnone (t : Nat) : (List.range 6).filter (calFails rs t) = [] := by simp [calFails_of_passes hpass]
  have hfailed : s.calTiles.flatMap (fun _ => ([] : List Nat)) = [] := by simp
  simp [hnone, hfailed, bitmap]

/-- A plausibility failure that has lasted PLAUS_TIME (R321). -/
theorem State.plausTimeout_of_due {s s1 : State} {l : Nat} (hloop : s.loopIs l = true) (hmay : s.plausible l = true)
    (hdue : (s.loop l).pr.plaus = 2)
    (h1 : s1 = (s.reach ((s.loop l).pr.plausSince + 500 * s.lo l 0x13 0xA)).updLoop l (fun lp =>
      { lp with pr := { lp.pr with plaus := 3 } })) :
    s.plausTimeout l = (s1.loopReport srcReg l 0x0805 5 [3]).dangerous [l] (s.anchor l) 0x0805 l false := by
  subst h1
  exact if_pos (by simp [hloop, hmay, hdue])

/-- Settles O32: the check clock by the order of the two converters, a check by its position, its outcome by those before. -/
theorem checkCommands : Obligations.CheckCommands := by
  intro s s0 s1 t v n m n1 m1 c0 c1 l0 l1 code loop i kind l rs
  refine ⟨fun htile hmode hcal hrun h0 hnext => ?clock, State.checkNext_of_up, fun h1 => ?position,
    State.checkOne_first n, State.checkOne_second, fun _ => s.checkOne_passes t n i kind, fun hcal => ?calibration,
    fun hloop hmay hdue h1 => congrArg Host.Outcome.next (State.plausTimeout_of_due hloop hmay hdue h1)⟩
  case clock =>
    have conv {m : Nat} := State.checkConv_of_min (m := m) c0 c1 l0 l1 htile hmode hcal hrun h0
    refine ⟨fun hboth => congrArg Host.Outcome.next ?both, fun hfirst => congrArg Host.Outcome.next ?first,
      fun hnext1 hlt => congrArg Host.Outcome.next ?second⟩
    case both =>
      rw [conv (m := m) (by simp [hnext, hboth]), hnext, hboth, State.takeDue_of_due, State.takeDue_of_due]
    case first =>
      rcases hfirst with hnone | ⟨hnext1, hlt⟩
      · rw [conv (m := m) (by simp [hnext, hnone]), hnext, hnone, State.takeDue_of_due]
        rfl
      · have hmin : min m m1 = m := Nat.min_eq_left hlt.le
        rw [conv (m := m) (by simp [hnext, hnext1, hmin]), hnext, hnext1, State.takeDue_of_due,
          State.takeDue_of_other _ _ _ hlt.ne']
    case second =>
      have hmin : min m m1 = m1 := Nat.min_eq_right hlt.le
      rw [conv (m := m1) (by simp [hnext, hnext1, hmin]), hnext, hnext1, State.takeDue_of_other _ _ _ hlt.ne',
        State.takeDue_of_due]
  case position =>
    subst h1
    exact ⟨fun hn => by simp only [State.checkTake, hn], fun hn => by simp only [State.checkTake, hn],
      State.checkTake_die loop, fun hn => by simp only [State.checkTake, hn]⟩
  case calibration =>
    obtain ⟨hruns, hpass⟩ := (s.reach (s.cal.startedAt + 1300000)).calFinish_cal rs
    exact ⟨_, congrArg Host.Outcome.next (if_pos hcal), rfl, hruns, hpass⟩

/-! ### Comparators (R327 to R333, R571) -/

/-- A comparator that may change its output activates; another one only notes that its input is beyond. -/
theorem State.compOn_of_tile {s : State} {t c : Nat} (htile : s.hasTile t = true) (hc : c < 56)
    (hmode : s.md.mode ≠ .reset) :
    s.compOn t c =
      if s.mayActivate t c then (s.activate t c).compActs t c else s.updComp t c (fun k => { k with beyond := true }) :=
  if_pos (by simp [htile, hc, hmode])

/-- An active comparator that follows its input is released; another one only notes that its input is not beyond. -/
theorem State.compOff_of_tile {s : State} {t c : Nat} (htile : s.hasTile t = true) (hc : c < 56)
    (hmode : s.md.mode ≠ .reset) :
    s.compOff t c =
      if (s.comp t c).output && !(s.comp t c).masked && !(s.comp t c).settling then s.release t c
      else s.updComp t c (fun k => { k with beyond := false }) :=
  if_pos (by simp [htile, hc, hmode])

/-- At the end of its settling time the output of a comparator follows its input again. -/
theorem State.compSettled_of_settling {s s1 : State} {t c : Nat} (beyond : Bool) (htile : s.hasTile t = true)
    (hc : c < 56) (hsettling : (s.comp t c).settling = true)
    (h1 : s1 = (s.reach (s.comp t c).settleUntil).updComp t c (fun k => { k with settling := false })) :
    s.compSettled t c beyond = if beyond then s1.compOn t c else s1.compOff t c := by
  subst h1
  exact if_pos (by simp [htile, hc, hsettling])

/-- Settles O33: a comparator by whether its output may change; a read of a peak is an admitted read. -/
theorem comparatorAndPeakCommands : Obligations.ComparatorAndPeakCommands := by
  intro s s1 t c l ch r
  refine ⟨fun htile hc hmode => ?comparator, fun hloop h => peak_req h hloop, fun hloop h => peak_req h hloop,
    fun hloop h => peak_req h hloop, fun hloop h => peak_req h hloop, fun hloop h => peak_req h hloop⟩
  have hon := State.compOn_of_tile htile hc hmode
  have hoff := State.compOff_of_tile htile hc hmode
  refine ⟨fun hmay => congrArg Host.Outcome.next (hon.trans (if_pos hmay)),
    fun hmay => congrArg Host.Outcome.next (hon.trans (if_neg (by simp [hmay]))),
    fun hout hmasked hsettling => congrArg Host.Outcome.next (hoff.trans (if_pos (by simp [hout, hmasked, hsettling]))),
    fun hstays => congrArg Host.Outcome.next (hoff.trans (if_neg ?_)), fun hsettling h1 => ?settled⟩
  · rcases hstays with h | h | h <;> simp [h]
  case settled =>
    exact ⟨congrArg Host.Outcome.next (State.compSettled_of_settling true htile hc hsettling h1),
      congrArg Host.Outcome.next (State.compSettled_of_settling false htile hc hsettling h1)⟩

end Sys2Proof.Machine
end

section
/-! Slots, sources and the queue of reactions (R381, R384, R389). -/

namespace Sys2Proof.Machine

/-! ### Slots (R381) -/

/-- What tells the entries of a slot from one another. -/
def Entry.key (e : Entry) : Nat × Nat := (e.code, e.inst)

theorem Entry.is_iff (e : Entry) (code inst : Nat) : e.is code inst = true ↔ e.code = code ∧ e.inst = inst := by
  simp [Entry.is]

/-- Some entry of a slot has this code and instance. -/
theorem any_is_iff (es : List Entry) (code inst : Nat) :
    es.any (fun e => e.is code inst) = true ↔ (code, inst) ∈ es.map Entry.key := by
  simp [Entry.key, Entry.is_iff]

/-- A report of a code and instance that are pending is a repeat. -/
theorem Slot.report_of_pending {sl : Slot} {n : Entry} (h : (n.code, n.inst) ∈ sl.entries.map Entry.key) :
    sl.report n =
      { sl with entries := sl.entries.map (fun e => if e.is n.code n.inst then e.again n.time else e) } :=
  if_pos ((any_is_iff ..).mpr h)

/-- Another report takes a free entry. -/
theorem Slot.report_of_free {sl : Slot} {n : Entry} (h : (n.code, n.inst) ∉ sl.entries.map Entry.key)
    (hfree : sl.entries.length < 4) : sl.report n = { sl with entries := sl.entries ++ [n] } :=
  (if_neg (mt (any_is_iff ..).mp h)).trans (if_pos hfree)

/-- With four entries busy it is lost. -/
theorem Slot.report_of_full {sl : Slot} {n : Entry} (h : (n.code, n.inst) ∉ sl.entries.map Entry.key)
    (hfull : ¬ sl.entries.length < 4) : sl.report n = { sl with lost := satAdd 16 sl.lost 1, lostLast := n.time } :=
  (if_neg (mt (any_is_iff ..).mp h)).trans (if_neg hfull)

/-- A repeat changes nothing of an entry but its count, delta and saturation. -/
theorem map_again {α : Type} (g : Entry → α) (hg : ∀ e t, g (e.again t) = g e) (es : List Entry) (n : Entry) :
    (es.map (fun e => if e.is n.code n.inst then e.again n.time else e)).map g = es.map g := by
  rw [List.map_map]
  refine List.map_congr_left fun e _ => ?_
  dsimp only [Function.comp_apply]
  split
  · exact hg e n.time
  · rfl

/-- A report leaves at most four entries, no two of one code and instance. -/
theorem Slot.report_bounded {sl : Slot} (n : Entry) (hlen : sl.entries.length ≤ 4)
    (hnodup : (sl.entries.map Entry.key).Nodup) :
    (sl.report n).entries.length ≤ 4 ∧ ((sl.report n).entries.map Entry.key).Nodup := by
  by_cases hpending : (n.code, n.inst) ∈ sl.entries.map Entry.key
  · rw [Slot.report_of_pending hpending]
    exact ⟨by simpa using hlen, by rw [map_again Entry.key fun _ _ => rfl]; exact hnodup⟩
  · by_cases hfree : sl.entries.length < 4
    · rw [Slot.report_of_free hpending hfree, List.map_append, List.nodup_append_comm]
      exact ⟨by simpa using hfree, List.nodup_cons.mpr ⟨hpending, hnodup⟩⟩
    · rw [Slot.report_of_full hpending hfree]
      exact ⟨hlen, hnodup⟩

/-- The entry in each place of a slot after a repeat: its own, or again the one it was. -/
theorem Slot.report_getElem_of_pending {sl : Slot} {n e : Entry} {i : Nat}
    (h : (n.code, n.inst) ∈ sl.entries.map Entry.key) (he : sl.entries[i]? = some e) :
    (sl.report n).entries[i]? = some (if e.is n.code n.inst then e.again n.time else e) := by
  rw [Slot.report_of_pending h]
  simp [he]

/-- The count, the delta and the saturation of a repeat. -/
theorem Entry.again_counts (e : Entry) (t : Nat) :
    (e.again t).rpt = Nat.min (e.rpt + 1) 65535 ∧ (e.again t).delta = Nat.min ((t - e.time) >>> 8) 0xFFFFFFFF ∧
      (65535 ≤ e.rpt + 1 ∨ 0xFFFFFFFF ≤ (t - e.time) >>> 8 → (e.again t).sat = true) := by
  rw [Nat.shiftRight_eq_div_pow]
  refine ⟨rfl, rfl, fun h => ?_⟩
  rcases h with h | h <;> simp [Entry.again, h]

/-- Settles O52: a report by whether its code and instance are pending, and by the entries that are free. -/
theorem reportSlot : Obligations.ReportSlot := by
  intro sl n hlen hnodup
  refine ⟨Slot.report_bounded n hlen hnodup, fun hpending => ?repeated, Slot.report_of_free,
    fun hnew hfull => Slot.report_of_full hnew (by omega)⟩
  have hrepeat := Slot.report_of_pending hpending
  refine ⟨by rw [hrepeat], by rw [hrepeat], ?_, fun i e he => ⟨fun hcode hinst => ?_, fun hother => ?_⟩⟩
  · rw [hrepeat]
    exact map_again _ (fun _ _ => rfl) _ _
  · have hsame := Slot.report_getElem_of_pending hpending he
    rw [if_pos ((e.is_iff ..).mpr ⟨hcode, hinst⟩)] at hsame
    exact ⟨_, hsame, e.again_counts n.time⟩
  · exact (Slot.report_getElem_of_pending hpending he).trans (congrArg some (if_neg (mt (e.is_iff ..).mp hother)))

/-! ### Sources (R384) -/

/-- A report of an enabled source, or of severity 3 and above, reaches its slot at the present time. -/
theorem State.report_ev_of_made {s : State} {t src sev : Nat} (code inst : Nat) (d : List Nat)
    (h : 3 ≤ sev ∨ s.sourceOn t src = true) :
    (s.report t src code sev inst d).ev =
      s.ev.report t src { code, inst, sev, data := d, time := s.now, pre := !s.clk.running } := by
  rw [State.report, if_neg fun ⟨hsev, hoff⟩ => h.elim (by omega) (by simp [hoff])]

/-- A report changes the slot of its source alone. -/
theorem EvGrp.report_slots (e : EvGrp) (t src : Nat) (n : Entry) :
    (e.report t src n).slots = e.slots.upd {} (256 * t + src) (fun sl => sl.report n) := rfl

/-- Settles O53: a report of severity 0 to 2 asks its source, and one that is made reaches the slot of its source alone. -/
theorem reportsOfASource : Obligations.ReportsOfASource := by
  intro s t src code sev inst d
  refine ⟨fun hsev hoff => if_pos ⟨hsev, hoff⟩, fun hmade => ?made⟩
  rw [State.report_ev_of_made code inst d hmade, EvGrp.report_slots]
  exact ⟨Tab.get_upd_same .., fun k hk => Tab.get_upd_other _ _ _ hk⟩

/-! ### The queue of reactions (R389) -/

/-- A queue of four without its last entry is ordered as before. -/
theorem dropLast_sorted {q : List Reaction} (h : (q.map (·.sev)).Pairwise (· ≥ ·)) :
    (q.dropLast.map (·.sev)).Pairwise (· ≥ ·) :=
  h.sublist ((List.dropLast_sublist q).map _)

/-- A queue with room takes a reaction as its severity stands. -/
theorem enqueue_of_room {q : List Reaction} (r : Reaction) (h : q.length < 4) : enqueue q r = insertReaction r q :=
  if_pos h

/-- A full queue merges it into its last entry. -/
theorem enqueue_of_full {q : List Reaction} {z : Reaction} (r : Reaction) (h : ¬ q.length < 4) (hz : q.getLast? = some z) :
    enqueue q r = insertReaction (if z.sev < r.sev then r else z) q.dropLast := by
  rw [enqueue, if_neg h, hz]

/-- Settles O56: a queue with room inserts the reaction, a full one the merged entry in place of its last. -/
theorem reactionQueue : Obligations.ReactionQueue := by
  intro q r hlen hsorted
  have merged {z : Reaction} (hfull : q.length = 4) (hz : q.getLast? = some z) := enqueue_of_full r (by omega) hz
  have length (x : Reaction) (hfull : q.length = 4) : (insertReaction x q.dropLast).length = 4 := by
    rw [insert_len, List.length_dropLast, hfull]
  have bounded : (enqueue q r).length ≤ 4 ∧ ((enqueue q r).map (·.sev)).Pairwise (· ≥ ·) := by
    by_cases hroom : q.length < 4
    · rw [enqueue_of_room r hroom, insert_len]
      exact ⟨hroom, insert_sorted r q hsorted⟩
    · have hfull : q.length = 4 := by omega
      have hne : q ≠ [] := by rintro rfl; simp at hfull
      rw [merged hfull (List.getLast?_eq_some_getLast hne)]
      exact ⟨(length _ hfull).le, insert_sorted _ _ (dropLast_sorted hsorted)⟩
  refine ⟨bounded.1, bounded.2, fun hroom => (enqueue_of_room r hroom).trans (insert_eq r q hsorted), fun z hfull hz => ?_⟩
  rw [merged hfull hz]
  exact ⟨length _ hfull, insert_perm ..⟩

end Sys2Proof.Machine
end

section
/-! Page pairs and tallies (R412 to R416, R423 to R425). -/

namespace Sys2Proof.Machine

/-! ### The layout of a copy (R412, R413) -/

/-- SEQ, TAG and DATA of a copy, which its CRC covers (R412). -/
def pageBody (place i sq : Nat) (bs : List Nat) : List Nat :=
  bytesLE 2 sq ++ bytesLE 2 (i % 1024 + freeCell (64 * place + 3) / 4 * 1024) ++ (bs ++ List.replicate 56 0).take 56

/-- A copy is its body and the CRC of it. -/
theorem pageBytes_eq (place i sq : Nat) (bs : List Nat) :
    pageBytes place i sq (some bs) = pageBody place i sq bs ++ bytesLE 4 (crc32c (pageBody place i sq bs)) := rfl

@[simp] theorem pageBody_length (place i sq : Nat) (bs : List Nat) : (pageBody place i sq bs).length = 60 := by
  simp [pageBody]

/-- The four parts of a copy with DATA `bs` (R412). -/
theorem pageBytes_layout {sq : Nat} (place i : Nat) (bs : List Nat) (hsq : sq < 65536) :
    (pageBytes place i sq (some bs)).length = 64 ∧ ofBytesLE ((pageBytes place i sq (some bs)).take 2) = sq ∧
    ofBytesLE (((pageBytes place i sq (some bs)).drop 2).take 2) % 1024 = i % 1024 ∧
    ((pageBytes place i sq (some bs)).drop 4).take 56 = (bs ++ List.replicate 56 0).take 56 ∧
    (pageBytes place i sq (some bs)).drop 60 = bytesLE 4 (crc32c ((pageBytes place i sq (some bs)).take 60)) := by
  have hlen := pageBody_length place i sq bs
  rw [pageBytes_eq]
  refine ⟨by simp, ?seq, ?tag, ?data, ?crc⟩
  case seq =>
    have htake : (pageBody place i sq bs ++ bytesLE 4 (crc32c (pageBody place i sq bs))).take 2 = bytesLE 2 sq := by
      simp [pageBody, List.append_assoc]
    rw [htake, ofBytesLE_bytesLE, Nat.mod_eq_of_lt (b := 256 ^ 2) hsq]
  case tag =>
    have htake : ((pageBody place i sq bs ++ bytesLE 4 (crc32c (pageBody place i sq bs))).drop 2).take 2 =
        bytesLE 2 (i % 1024 + freeCell (64 * place + 3) / 4 * 1024) := by
      simp [pageBody, List.append_assoc]
    rw [htake, ofBytesLE_bytesLE]
    omega
  case data =>
    have hdata : (pageBody place i sq bs).drop 4 = (bs ++ List.replicate 56 0).take 56 :=
      List.drop_left' (by simp)
    rw [List.drop_append_of_le_length (by omega), hdata]
    exact List.take_left' (by simp)
  case crc => rw [List.drop_left' hlen, List.take_left' hlen]

/-- A copy with a marginal cell or without a byte other than 0xFF does not pass (R413). -/
theorem copyPasses_of_marginal_or_blank {bs : List Nat} {m : Nat} (i : Nat) (h : m ≠ 0 ∨ ∀ b ∈ bs, b = 0xFF) :
    copyPasses i bs m = false := by
  rcases h with hm | hblank
  · simp [copyPasses, hm]
  · have hany : bs.any (· != 0xFF) = false := by simpa using hblank
    simp [copyPasses, hany]

/-- Copy X is newer than copy Y where its SEQ is 1 to 32,767 ahead (R414). -/
theorem newer_iff {x y : Nat} (hx : x < 65536) (hy : y < 65536) :
    newer x y = true ↔ 1 ≤ ((x : Int) - y) % 65536 ∧ ((x : Int) - y) % 65536 ≤ 32767 := by
  simp only [newer, Bool.and_eq_true, decide_eq_true_eq]
  omega

/-! ### Which copy a write replaces (R414) -/

/-- The newest valid copy of a pair is valid; without one neither is. -/
theorem Pair.newestA_cases (p : Pair) (i : Nat) :
    p.newestA i = some true ∧ p.a.valid i = true ∨ p.newestA i = some false ∧ p.b.valid i = true ∨
      p.newestA i = none ∧ p.a.valid i = false ∧ p.b.valid i = false := by
  unfold Pair.newestA
  split <;> simp_all

theorem Pair.newestA_of_a {p : Pair} {i : Nat} (ha : p.a.valid i = true) (hb : p.b.valid i = false) :
    p.newestA i = some true := by
  simp [Pair.newestA, ha, hb]

theorem Pair.newestA_of_b {p : Pair} {i : Nat} (ha : p.a.valid i = false) (hb : p.b.valid i = true) :
    p.newestA i = some false := by
  simp [Pair.newestA, ha, hb]

theorem Pair.newestA_of_neither {p : Pair} {i : Nat} (ha : p.a.valid i = false) (hb : p.b.valid i = false) :
    p.newestA i = none := by
  simp [Pair.newestA, ha, hb]

theorem Pair.newestA_of_both {p : Pair} {i : Nat} (ha : p.a.valid i = true) (hb : p.b.valid i = true) :
    p.newestA i = some (!newer p.b.seq p.a.seq) := by
  simp [Pair.newestA, ha, hb]

theorem Pair.newest_of_a {p : Pair} {i : Nat} (h : p.newestA i = some true) : p.newest i = some p.a := by
  simp [Pair.newest, h]

theorem Pair.newest_of_b {p : Pair} {i : Nat} (h : p.newestA i = some false) : p.newest i = some p.b := by
  simp [Pair.newest, h]

theorem Pair.newest_of_neither {p : Pair} {i : Nat} (h : p.newestA i = none) : p.newest i = none := by
  simp [Pair.newest, h]

/-- A write replaces copy B where copy A is the newest, and copy A elsewhere. -/
theorem Pair.putTarget_of_a {p : Pair} {i : Nat} (f : Page → Page) (h : p.newestA i = some true) :
    p.putTarget i f = { p with b := f p.b } := by
  simp [Pair.putTarget, Pair.targetA, h]

theorem Pair.putTarget_of_not_a {p : Pair} {i : Nat} (f : Page → Page) (h : p.newestA i ≠ some true) :
    p.putTarget i f = { p with a := f p.a } := by
  simp [Pair.putTarget, Pair.targetA, h]

/-- A target copy that is not valid leaves the newest copy what it was. -/
theorem Pair.newestA_putTarget {i : Nat} {f : Page → Page} (p : Pair) (hf : ∀ c, (f c).valid i = false) :
    (p.putTarget i f).newestA i = p.newestA i := by
  rcases p.newestA_cases i with ⟨h, ha⟩ | ⟨h, hb⟩ | ⟨h, -, hb⟩
  · rw [Pair.putTarget_of_a f h]
    exact (Pair.newestA_of_a (p := { p with b := f p.b }) ha (hf _)).trans h.symm
  · have hne : p.newestA i ≠ some true := by simp [h]
    rw [Pair.putTarget_of_not_a f hne]
    exact (Pair.newestA_of_b (p := { p with a := f p.a }) (hf _) hb).trans h.symm
  · have hne : p.newestA i ≠ some true := by simp [h]
    rw [Pair.putTarget_of_not_a f hne]
    exact (Pair.newestA_of_neither (p := { p with a := f p.a }) (hf _) hb).trans h.symm

theorem Pair.newest_putTarget {i : Nat} {f : Page → Page} (p : Pair) (hf : ∀ c, (f c).valid i = false) :
    (p.putTarget i f).newest i = p.newest i := by
  unfold Pair.newest
  rw [Pair.newestA_putTarget p hf]
  rcases p.newestA_cases i with ⟨h, -⟩ | ⟨h, -⟩ | ⟨h, -⟩
  · rw [h, Pair.putTarget_of_a f h]
  · rw [h, Pair.putTarget_of_not_a f (by simp [h])]
  · rw [h]

/-- What comes after a target copy that is not valid acts on the same copy. -/
theorem Pair.putTarget_putTarget {i : Nat} {f : Page → Page} (p : Pair) (g : Page → Page) (hf : ∀ c, (f c).valid i = false) :
    (p.putTarget i f).putTarget i g = p.putTarget i (fun c => g (f c)) := by
  have hsame := Pair.newestA_putTarget p hf
  by_cases h : p.newestA i = some true
  · rw [Pair.putTarget_of_a g (hsame.trans h), Pair.putTarget_of_a f h, Pair.putTarget_of_a _ h]
  · rw [Pair.putTarget_of_not_a g (by rwa [hsame]), Pair.putTarget_of_not_a f h, Pair.putTarget_of_not_a _ h]

/-! ### A write, complete and interrupted (R415, R416) -/

/-- A write in progress leaves the value of its pair. -/
theorem Pair.newest_begin (p : Pair) (place i : Nat) (d : Option (List Nat)) : (p.begin place i d).newest i = p.newest i :=
  p.newest_putTarget fun _ => rfl

/-- A write that completes leaves a whole target copy with the next SEQ. -/
theorem Pair.finish_begin (p : Pair) (place i : Nat) (d : Option (List Nat)) :
    (p.begin place i d).finish i = p.putTarget i (fun _ => .whole (p.nextSeq i) d) :=
  p.putTarget_putTarget _ fun _ => rfl

/-- A write that is interrupted leaves a torn target copy with a marginal cell. -/
theorem Pair.cut_begin (p : Pair) (place i : Nat) (d : Option (List Nat)) (erasing : Bool) (id : Nat) :
    ∃ f : Page → Page, (∀ c, (f c).valid i = false) ∧ (p.begin place i d).cut place i erasing id = p.putTarget i f :=
  ⟨_, fun c => by simp [Page.valid, marginalCells], p.putTarget_putTarget _ fun _ => rfl⟩

/-- SEQ of the next write: that of the newest valid copy plus one, or 1 (R414). -/
theorem Pair.nextSeq_of_a {p : Pair} {i : Nat} (h : p.newestA i = some true) : p.nextSeq i = (p.a.seq + 1) % 65536 := by
  simp [Pair.nextSeq, Pair.newest_of_a h]

theorem Pair.nextSeq_of_b {p : Pair} {i : Nat} (h : p.newestA i = some false) : p.nextSeq i = (p.b.seq + 1) % 65536 := by
  simp [Pair.nextSeq, Pair.newest_of_b h]

theorem Pair.nextSeq_of_none {p : Pair} {i : Nat} (h : p.newestA i = none) : p.nextSeq i = 1 := by
  simp [Pair.nextSeq, Pair.newest_of_neither h]

/-- A whole target copy with the next SEQ is the newest copy of its pair. -/
theorem Pair.newest_putTarget_whole {p : Pair} (i : Nat) (d : Option (List Nat)) (ha : p.a.seq < 65536) :
    (p.putTarget i (fun _ => .whole (p.nextSeq i) d)).newest i = some (.whole (p.nextSeq i) d) := by
  rcases p.newestA_cases i with ⟨h, hva⟩ | ⟨h, hvb⟩ | ⟨h, -, hvb⟩
  · have hnewer : newer (p.nextSeq i) p.a.seq = true := Pair.nextSeq_of_a h ▸ newer_succ _ ha
    have hb' := Pair.newestA_of_both (i := i) (p := { p with b := .whole (p.nextSeq i) d }) hva rfl
    rw [Pair.putTarget_of_a _ h]
    exact Pair.newest_of_b (hb'.trans (congrArg (fun x => some (!x)) hnewer))
  · have holder : newer p.b.seq (p.nextSeq i) = false := Pair.nextSeq_of_b h ▸ newer_pred _
    have ha' := Pair.newestA_of_both (i := i) (p := { p with a := .whole (p.nextSeq i) d }) rfl hvb
    rw [Pair.putTarget_of_not_a _ (by simp [h])]
    exact Pair.newest_of_a (ha'.trans (congrArg (fun x => some (!x)) holder))
  · rw [Pair.putTarget_of_not_a _ (by simp [h])]
    exact Pair.newest_of_a (Pair.newestA_of_a (p := { p with a := .whole (p.nextSeq i) d }) rfl hvb)

/-- The value of a pair after a completed write is what was written. -/
theorem Pair.data_finish_begin {p : Pair} (place i : Nat) (d : Option (List Nat)) (ha : p.a.seq < 65536) :
    (((p.begin place i d).finish i).newest i).bind Page.data = d := by
  rw [Pair.finish_begin, Pair.newest_putTarget_whole i d ha]
  rfl

/-- Settles O54: the layout by its parts, a write by the copy that it replaces. -/
theorem pagePairs : Obligations.PagePairs := by
  refine ⟨fun x y => newer_iff, fun place i sq bs => pageBytes_layout place i bs,
    fun i bs m => copyPasses_of_marginal_or_blank i, fun p w place i d erasing id ha _ hw => ?_⟩
  obtain ⟨f, hf, hcut⟩ := p.cut_begin place i d erasing id
  have hwrite := hw.trans (p.finish_begin place i d)
  refine ⟨hw ▸ Pair.data_finish_begin place i d ha, p.newest_begin place i d, hcut ▸ p.newest_putTarget hf,
    fun h => ?newestA, fun h => ?newestB, fun h => ?neither, fun hva hvb => ?both⟩
  case newestA =>
    rw [Pair.putTarget_of_a _ h, Pair.nextSeq_of_a h] at hwrite
    rw [Pair.putTarget_of_a _ h] at hcut
    exact ⟨Pair.newest_of_a h, by rw [hwrite], by rw [hcut], by rw [hwrite]⟩
  case newestB =>
    rw [Pair.putTarget_of_not_a _ (by simp [h]), Pair.nextSeq_of_b h] at hwrite
    rw [Pair.putTarget_of_not_a _ (by simp [h])] at hcut
    exact ⟨Pair.newest_of_b h, by rw [hwrite], by rw [hcut], by rw [hwrite]⟩
  case neither =>
    rw [Pair.putTarget_of_not_a _ (by simp [h]), Pair.nextSeq_of_none h] at hwrite
    exact ⟨Pair.newest_of_neither h, by rw [hwrite], by rw [hwrite]⟩
  case both =>
    rw [Pair.newestA_of_both hva hvb]
    simp

/-! ### Tallies (R423 to R425) -/

/-- A field page without an interruption: its bits, one more after a program, and its G. -/
theorem FieldPage.of_whole {f : FieldPage} (h : f.torn = none) :
    f.programmed = f.bits ∧ f.program.programmed = f.programmed + 1 ∧ f.program.gen = f.gen ∧ f.agrees = true := by
  simp [FieldPage.programmed, FieldPage.program, FieldPage.gen, FieldPage.agrees, h]

/-- While no erase of its field is in progress the value of a tally is its base plus its programmed bits. -/
theorem Cellar.tallyValue_of_other {c : Cellar} {i : Nat} (h : c.busy ≠ some (.foldErase i)) :
    c.tallyValue i = (c.base i).1 + (c.field i).programmed := by
  simp [Cellar.tallyValue, h]

/-- Base and G depend on their pair alone. -/
theorem Cellar.base_congr {c x : Cellar} {i : Nat} (h : (x.pair (7 + i)).newest (7 + i) = (c.pair (7 + i)).newest (7 + i)) :
    x.base i = c.base i := by
  simp [Cellar.base, Cellar.value, Cellar.values, h]

/-- What a tally's increment leaves when its bit is programmed. -/
theorem Cellar.stepDone_of_tally {c : Cellar} {i : Nat} (t n : Nat) (trims : List Nat) (h : c.busy = some (.tally i)) :
    c.stepDone t n trims =
      ({ c with
        busy := none, fields := c.fields.upd {} i FieldPage.program
        waiting := c.waiting.upd 0 i (· - 1) } : Cellar).requeue i := by
  simp [Cellar.stepDone, h]

/-- An increment of a tally adds one to it alone, and one that still waits takes its turn again. -/
theorem Cellar.stepDone_tally {c : Cellar} {i : Nat} (t n : Nat) (trims : List Nat) (h : c.busy = some (.tally i))
    (hwhole : (c.field i).torn = none) :
    (c.stepDone t n trims).busy = none ∧ (c.stepDone t n trims).tallyValue i = c.tallyValue i + 1 ∧
    (∀ j, j ≠ i → (c.stepDone t n trims).tallyValue j = c.tallyValue j) ∧
    (c.stepDone t n trims).waiting.get 0 i = c.waiting.get 0 i - 1 ∧
    (c.waiting.get 0 i - 1 = 0 → (c.stepDone t n trims).queue = c.queue) ∧
    (c.waiting.get 0 i - 1 ≠ 0 → (c.stepDone t n trims).queue = .tally i :: c.queue) := by
  have hbefore (j : Nat) : c.tallyValue j = (c.base j).1 + (c.field j).programmed :=
    Cellar.tallyValue_of_other (by simp [h])
  rw [Cellar.stepDone_of_tally t n trims h]
  have hafter (j : Nat) : ((({ c with
        busy := none, fields := c.fields.upd {} i FieldPage.program
        waiting := c.waiting.upd 0 i (· - 1) } : Cellar).requeue i).tallyValue j) =
      (c.base j).1 + ((c.fields.upd {} i FieldPage.program).get {} j).programmed :=
    Cellar.tallyValue_of_other (by simp [Cellar.requeue])
  refine ⟨rfl, ?_, fun j hj => ?_, by simp [Cellar.requeue], fun hlast => ?_, fun hmore => ?_⟩
  · obtain ⟨-, hprogram, -⟩ := FieldPage.of_whole hwhole
    have hbit : ((c.fields.upd {} i FieldPage.program).get {} i).programmed = (c.field i).programmed + 1 := by
      rw [Tab.get_upd_same]; exact hprogram
    rw [hafter, hbefore, hbit, Nat.add_assoc]
  · rw [hafter, hbefore, Tab.get_upd_other _ _ _ hj]
    rfl
  · simp [Cellar.requeue, hlast]
  · simp [Cellar.requeue, hmore]

/-! ### Folding a full field (R424) -/

/-- The increment of a full field begins with the write of its base pair. -/
theorem Cellar.take_of_full {c : Cellar} {i : Nat} (t n now : Nat) (trims : List Nat)
    (hfull : (c.field i).programmed = 128) :
    c.take t n trims (.tally i) now =
      { c with
        busy := some (.foldBase i), opAt := now
        pairs := c.pairs.upd {} (7 + i) (fun p => p.begin (pairPlace t (7 + i)) (7 + i) (some (c.foldData i))) } := by
  simp [Cellar.take, hfull]

/-- The write of base and generation is complete, and the erase of the field begins. -/
theorem Cellar.stepDone_of_foldBase {c : Cellar} {i : Nat} (t n : Nat) (trims : List Nat) (h : c.busy = some (.foldBase i)) :
    c.stepDone t n trims =
      { c with
        busy := some (.foldErase i), opAt := c.opAt + c.stepTicks
        pairs := c.pairs.upd {} (7 + i) (fun p => p.finish (7 + i)) } := by
  simp [Cellar.stepDone, h]

/-- The erase of the field is complete; an increment that still waits takes its turn again. -/
theorem Cellar.stepDone_of_foldErase {c : Cellar} {i : Nat} (t n : Nat) (trims : List Nat)
    (h : c.busy = some (.foldErase i)) :
    c.stepDone t n trims =
      ({ c with busy := none, fields := c.fields.set {} i { g := (c.base i).2 } } : Cellar).requeue i := by
  simp [Cellar.stepDone, h]

/-- Base and generation of a tally, as the DATA of its pair spells them (R423). -/
theorem Cellar.base_of_data {c : Cellar} {i b g : Nat} (hi : i < 8) (hb : b < 2 ^ 32) (hg : g < 65536)
    (h : ((c.pair (7 + i)).newest (7 + i)).bind Page.data = some (pairBytes (pairKeys 0 (7 + i)) [(0, b), (1, g)])) :
    c.base i = (b, g) := by
  have hkeys : pairKeys 0 (7 + i) = [(0, 4), (1, 2)] := by
    unfold pairKeys
    rw [if_neg (by omega), if_neg (by omega), if_neg (by omega), if_pos (by omega)]
  have hbytes : pairBytes [(0, 4), (1, 2)] [(0, b), (1, g)] = bytesLE 4 b ++ bytesLE 2 g := by simp [pairBytes]
  have hbase : ofBytesLE (bytesLE 4 b) = b := by rw [ofBytesLE_bytesLE, Nat.mod_eq_of_lt (b := 256 ^ 4) hb]
  have hgen : ofBytesLE ((bytesLE 2 g).take 2) = g := by
    rw [List.take_of_length_le (by simp), ofBytesLE_bytesLE, Nat.mod_eq_of_lt (b := 256 ^ 2) hg]
  rw [hkeys, hbytes] at h
  simp [Cellar.base, Cellar.value, Cellar.values, h, hkeys, pairValues, hbase, hgen]

/-- A fold leaves the value of its tally through both of its parts, and raises the generation (R424). -/
theorem Cellar.fold_keeps_value {c w : Cellar} {i : Nat} (t n now : Nat) (trims : List Nat) (hi : i < 8)
    (hfull : (c.field i).programmed = 128) (hidle : c.busy = none) (ha : (c.pair (7 + i)).a.seq < 65536)
    (hbase : (c.base i).1 + 128 < 2 ^ 32) (hw : w = c.take t n trims (.tally i) now) :
    w.tallyValue i = c.tallyValue i ∧ (w.stepDone t n trims).tallyValue i = c.tallyValue i ∧
    ((w.stepDone t n trims).stepDone t n trims).tallyValue i = c.tallyValue i ∧
    (((w.stepDone t n trims).stepDone t n trims).field i).programmed = 0 ∧
    ((w.stepDone t n trims).stepDone t n trims).base i = ((c.base i).1 + 128, ((c.base i).2 + 1) % 65536) ∧
    (((w.stepDone t n trims).stepDone t n trims).field i).gen = ((c.base i).2 + 1) % 65536 := by
  rw [Cellar.take_of_full t n now trims hfull] at hw
  have hwbusy : w.busy = some (.foldBase i) := by rw [hw]
  have hwpair : w.pair (7 + i) = (c.pair (7 + i)).begin (pairPlace t (7 + i)) (7 + i) (some (c.foldData i)) := by
    simp [hw, Cellar.pair]
  have hwfield : w.field i = c.field i := by rw [hw]; rfl
  have hwbase : w.base i = c.base i := Cellar.base_congr (hwpair ▸ Pair.newest_begin ..)
  have hy := Cellar.stepDone_of_foldBase t n trims hwbusy
  generalize w.stepDone t n trims = y at hy ⊢
  have hybusy : y.busy = some (.foldErase i) := by rw [hy]
  have hypair : y.pair (7 + i) = (w.pair (7 + i)).finish (7 + i) := by simp [hy, Cellar.pair]
  have hybase : y.base i = ((c.base i).1 + 128, ((c.base i).2 + 1) % 65536) :=
    Cellar.base_of_data hi hbase (Nat.mod_lt _ (by decide)) (by
      rw [hypair, hwpair]
      exact Pair.data_finish_begin _ _ _ ha)
  have hx := Cellar.stepDone_of_foldErase t n trims hybusy
  generalize y.stepDone t n trims = x at hx ⊢
  have hxbusy : x.busy = none := by rw [hx]; rfl
  have hxbase : x.base i = y.base i := by rw [hx]; rfl
  have hxfield : x.field i = { g := (y.base i).2 } := by rw [hx]; exact Tab.get_set_same ..
  have hvalue : c.tallyValue i = (c.base i).1 + 128 := by rw [Cellar.tallyValue_of_other (by simp [hidle]), hfull]
  refine ⟨?_, ?_, ?_, by rw [hxfield]; rfl, hxbase.trans hybase, by rw [hxfield, hybase]; rfl⟩
  · rw [Cellar.tallyValue_of_other (by simp [hwbusy]), hwbase, hwfield, hfull, hvalue]
  · rw [hvalue]
    simp [Cellar.tallyValue, hybusy, hybase]
  · rw [Cellar.tallyValue_of_other (by simp [hxbusy]), hxbase, hybase, hxfield, hvalue]
    rfl

/-! ### Recovery (R425) -/

/-- A fold that stopped after its base write, or in the erase of its field, is completed. -/
theorem Cellar.recoverTally_of_fold {c : Cellar} {i : Nat} (marginal : Bool)
    (h : (c.field i).agrees = false ∨ ((c.field i).gen + 1) % 65536 = (c.base i).2) :
    c.recoverTally i marginal = ({ c with fields := c.fields.set {} i { g := (c.base i).2 } }, true) := if_pos h

/-- A whole field of the generation of its base has no fold to complete. -/
theorem FieldPage.no_fold {f : FieldPage} {g : Nat} (hwhole : f.torn = none) (hgen : f.gen = g) :
    ¬ (f.agrees = false ∨ (f.gen + 1) % 65536 = g) := by
  obtain ⟨-, -, -, hagrees⟩ := FieldPage.of_whole hwhole
  rw [hagrees, hgen]
  simp only [Bool.true_eq_false, false_or]
  omega

/-- A marginal bit of a whole field is programmed. -/
theorem Cellar.recoverTally_of_marginal {c : Cellar} {i : Nat} (hwhole : (c.field i).torn = none)
    (hgen : (c.field i).gen = (c.base i).2) :
    c.recoverTally i true = ({ c with fields := c.fields.upd {} i FieldPage.program }, true) :=
  (if_neg (FieldPage.no_fold hwhole hgen)).trans (if_pos ⟨hgen, rfl⟩)

/-- A whole field without a marginal bit stays as it is. -/
theorem Cellar.recoverTally_of_sound {c : Cellar} {i : Nat} (hwhole : (c.field i).torn = none)
    (hgen : (c.field i).gen = (c.base i).2) : c.recoverTally i false = (c, false) :=
  (if_neg (FieldPage.no_fold hwhole hgen)).trans ((if_neg (by simp)).trans (if_neg (by simp [hwhole])))

/-- Settles O55: a bit, a fold and a recovery by what they leave of base and field. -/
theorem tallies : Obligations.Tallies := by
  refine ⟨fun f => FieldPage.of_whole, fun c i => Cellar.tallyValue_of_other, fun c t n i trims => c.stepDone_tally t n trims,
    fun c w x t n i now trims hi hfull hidle ha _ hbase hw hx => hx ▸ Cellar.fold_keeps_value t n now trims hi hfull hidle ha hbase hw,
    fun c i marginal => ⟨fun h => ?fold, fun hwhole hgen _ => ?whole⟩⟩
  case fold =>
    rw [Cellar.recoverTally_of_fold marginal h]
    exact ⟨Tab.get_set_same .., rfl⟩
  case whole =>
    obtain ⟨-, hprogram, -⟩ := FieldPage.of_whole hwhole
    rw [Cellar.recoverTally_of_marginal hwhole hgen]
    exact ⟨(congrArg FieldPage.programmed (Tab.get_upd_same ..)).trans hprogram, rfl,
      Cellar.recoverTally_of_sound hwhole hgen⟩

end Sys2Proof.Machine
end

section
/-! TRELLIS, state reports and system resets (R350 to R353, R355, R356, R366). -/

namespace Sys2Proof.Machine

/-! ### Advances (R350, R352, R353) -/

/-- A high of the line that every participant has released, by whether some tile moves and whether the part's own reversal
came in time. -/
theorem State.advance_of_released {s : State} {e : Nat} (others : Nat) (hactive : s.seqActive = true)
    (hlocal : s.seq.local_ = false) (hrel : s.released = true) (hedge : s.edgeAt = some e) :
    s.advance others =
      if s.moves = false then { s with seq := { s.seq with others := others } }
      else if s.seq.reversing ∧ s.lateRequest = false then s
      else ((s.reach (e + 1000)).marked others).seqStep.noteLine := by
  simp [State.advance, hedge, hactive, hlocal, hrel]

/-- A line that a participant holds or that has not risen gives no advance. -/
theorem State.advance_of_held {s : State} (others : Nat) (h : s.released = false ∨ s.edgeAt = none) :
    s.advance others = s := by
  cases hedge : s.edgeAt with
  | none => simp [State.advance, hedge]
  | some e =>
    have hheld : s.released = false := h.resolve_right (by simp [hedge])
    simp [State.advance, hedge, hheld]

/-- Below TOP_STATE a requested reversal is late where it came more than 1.5 µs after the rising edge (R352). -/
theorem State.lateRequest_eq {s : State} {e : Nat} (hrev : s.seq.reversing = true) (htop : s.atTop = false)
    (hedge : s.edgeAt = some e) : s.lateRequest = decide (e + 750 < s.seq.revAt) := by
  simp [State.lateRequest, hrev, htop, hedge]

/-! ### One step of a tile (R350, R353, R355) -/

/-- A step up or down keeps the direction. -/
theorem posNext_dir (top : Nat) (p : Nat × Nat) : (posNext top p).2 = p.2 := by
  unfold posNext
  split
  · next h => split <;> simp [h]
  · split
    · next h => exact h.symm
    · rfl

/-- Each tile steps from its own position. -/
theorem State.tilePos_stepTiles {s : State} {t : Nat} (ht : t ∈ s.tileList) :
    s.stepTiles.tilePos t = posNext (s.ob 0x4300 1) (s.tilePos t) := by
  have hown := Tab.get_updAll_same none (fun _ (o : Option (Nat × Nat)) => o.map (posNext (s.ob 0x4300 1)))
    s.seq.tileState List.nodup_range ht
  have hpos : s.stepTiles.tilePos t = ((s.seq.tileState.get none t).map (posNext (s.ob 0x4300 1))).getD
      ((posNext (s.ob 0x4300 1) (s.seq.state, s.seq.dir)).1, s.seq.dir) := congrArg (Option.getD · _) hown
  rw [hpos, State.tilePos]
  cases s.seq.tileState.get none t with
  | none => exact Prod.ext rfl (posNext_dir (s.ob 0x4300 1) (s.seq.state, s.seq.dir)).symm
  | some p => rfl

/-! ### Reversals (R352, R368) -/

/-- A reversal turns the sequence downward: `c` is the cause of the shutdown, `s0` the state when it comes. -/
def State.turned (s0 : State) (c : Option DownCause) (sub others : Nat) : State :=
  ({ s0.stepped with
    md := { s0.stepped.md with downCause := c, substate := sub }
    seq := { s0.stepped.seq with others := others } } : State).turnDown

/-- What follows a reversal: the end of the shutdown where every tile is at state 0. -/
def State.afterTurn (s : State) : State := if s.allZero then s.atStateZero else s.noteLine

/-- Another participant's reversal, where the part requests none. -/
theorem State.reverse_of_other {s : State} (others : Nat) (hactive : s.seqActive = true) (hup : s.upward = true)
    (hlocal : s.seq.local_ = false) (hrev : s.seq.reversing = false) :
    s.reverse others =
      (s.turned (worse s.md.downCause (if s.ob 0x4300 4 = 1 then .stop else .extReversal))
        (if s.md.mode = .hold then 6 else 4) others).afterTurn := by
  simp only [State.reverse, hactive, hup, hlocal, hrev, Bool.true_eq_false, Bool.false_eq_true, false_and, or_self, if_false]
  rfl

/-- The part's own reversal, 200 µs after the start of its hold. -/
theorem State.reverse_of_own {s : State} {e : Nat} (others : Nat) (hactive : s.seqActive = true) (hup : s.upward = true)
    (hlocal : s.seq.local_ = false) (hrev : s.seq.reversing = true) (hhold : s.holdAt = some e) :
    s.reverse others =
      ((s.reach (e + 100000)).turned s.md.downCause (if s.md.mode = .hold then 6 else 4) others).afterTurn := by
  simp only [State.reverse, hactive, hup, hlocal, hrev, hhold, Bool.true_eq_false, Bool.false_eq_true, Option.isNone_some,
    and_false, or_self, if_false, if_true, Option.getD_some]
  rfl

/-- The part's own reversal waits for the start of its hold. -/
theorem State.reverse_of_waiting {s : State} (others : Nat) (hrev : s.seq.reversing = true) (hhold : s.holdAt = none) :
    s.reverse others = s := if_pos (.inr (.inr (.inr ⟨hrev, by simp [hhold]⟩)))

theorem State.afterTurn_of_above {s : State} (h : s.allZero = false) : s.afterTurn = s.noteLine := if_neg (by simp [h])

theorem State.afterTurn_of_zero {s : State} (h : s.allZero = true) : s.afterTurn = s.atStateZero := if_pos h

/-! ### A line that stays low (R356) -/

/-- The instant since when the line should have risen for a running tile. -/
def State.lowSince (s : State) (t : Nat) : Option Nat :=
  if s.seq.reversing then (if s.atTop then none else s.seq.freeAt) else s.seq.doneAt.get none t

/-- The line is still low STATE_MARGIN after that instant: `s1` is the state with the record, `x` the one with the counts. -/
theorem State.lineTimeout_of_low {s s0 s1 x : State} {t e others : Nat} (hrun : s.tileRuns t = true)
    (hactive : s.seqActive = true) (hlocal : s.seq.local_ = false) (hdir : s.tileDir t ≠ 0) (hsince : s.lowSince t = some e)
    (h0 : s0 = ({ s with seq := { s.seq with others := others } } : State).reach (e + 500000 * s.ob 0x4300 2))
    (hlow : s0.lineHigh = false)
    (h1 : s1 = (s0.report t srcSeq 0x0908 4 0xFFFF [s.tileSt t, s.tileDir t]).failed 0xFF (s.tileSt t) 9)
    (hx : x = { s1 with seq := { s1.seq with
      timeouts := satAdd 32 s1.seq.timeouts 1, stuck := true
      doneAt := s1.seq.doneAt.upd none t (fun o => o.map (fun _ => s1.now))
      freeAt := if s.seq.reversing then s1.seq.freeAt.map (fun _ => s1.now) else s1.seq.freeAt } }) :
    s.lineTimeout t others = if s.md.mode = .hold ∨ s.ob 0x4300 3 = 1 then x.goLocal else x := by
  subst hx h1 h0
  unfold State.lowSince at hsince
  have hacts : ¬ (s.tileRuns t = false ∨ s.seqActive = false ∨ s.seq.local_ = true ∨ s.tileDir t = 0 ∨
      (({ s with seq := { s.seq with others := others } } : State).reach (e + 500000 * s.ob 0x4300 2)).lineHigh = true) := by
    rintro (h | h | h | h | h)
    · exact Bool.false_ne_true (h.symm.trans hrun)
    · exact Bool.false_ne_true (h.symm.trans hactive)
    · exact Bool.false_ne_true (hlocal.symm.trans h)
    · exact hdir h
    · exact Bool.false_ne_true (hlow.symm.trans h)
  simp only [State.lineTimeout, hsince]
  exact if_neg hacts

/-! ### State reports and system resets (R355, R366) -/

/-- A tile that reports the part's own state. -/
theorem State.stateSeen_of_own {s : State} {t st dir : Nat} (hrun : s.tileRuns t = true) (hactive : s.seqActive = true)
    (hst : st = s.seq.state) (hdir : dir = s.seq.dir) :
    s.stateSeen t st dir = { s with seq := { s.seq with tileState := s.seq.tileState.set none t none } } := by
  simp [State.stateSeen, hrun, hactive, hst, hdir]

/-- A tile that reports another state. -/
theorem State.stateSeen_of_other {s s1 : State} {t st dir : Nat} (hrun : s.tileRuns t = true) (hactive : s.seqActive = true)
    (hother : st ≠ s.seq.state ∨ dir ≠ s.seq.dir)
    (h1 : s1 = { s with seq := { s.seq with tileState := s.seq.tileState.set none t (some (st, dir)) } }) :
    s.stateSeen t st dir = (((s1.report 0 srcSeq 0x0909 4 0xFFFF
      [bitmap (s1.tileList.filter (fun u => (s1.seq.tileState.get none u).isSome))]).failed 0xFF s.seq.state
        10).requestDown .stop).downWithOthers := by
  subst h1
  exact (if_neg (by simp [hrun, hactive])).trans (if_neg (by tauto))

/-- The pulse of a system reset that is in progress ends, and its wait begins. -/
theorem State.resetPulseEnd_of_reset {s s1 : State} (hpulse : s.seq.pulse = true) (hreset : s.seq.sysreset = 2)
    (h1 : s1 = s.reach (s.seq.sysresetAt + 500000 * s.ob 0x4300 5)) :
    s.resetPulseEnd = { s1 with seq := { s1.seq with pulse := false, sysreset := 3, sysresetAt := s1.now } } := by
  subst h1
  simp [State.resetPulseEnd, hpulse, hreset]

/-- The wait of a system reset ends with a power-up of the sequence. -/
theorem State.sysRestart_of_wait {s : State} (hwait : s.seq.sysreset = 3) (hmode : s.md.mode = .run) :
    s.sysRestart = (s.reach (s.seq.sysresetAt + 500000 * s.ob 0x2000 0x0B)).seqStart := if_pos ⟨hwait, hmode⟩

/-- The count of system resets is cleared once the sequence has been up for a second. -/
theorem State.sysCountClear_of_up {s s1 : State} {e : Nat} (hup : s.isUp = true) (hedge : s.edgeAt = some e)
    (h1 : s1 = s.reach (e + 500000000)) : s.sysCountClear = { s1 with seq := { s1.seq with sysresets := 0 } } := by
  subst h1
  simp [State.sysCountClear, hup, hedge]

/-- Settles O34: an advance, a reversal, a timeout and a report by what the line and the tiles say. -/
theorem sequenceCommands : Obligations.SequenceCommands := by
  intro s s0 s1 t st dir e others
  refine ⟨fun hactive hlocal hrel hedge h0 => ?advance,
    fun hheld => congrArg Host.Outcome.next (State.advance_of_held others hheld), fun ht => ?step,
    fun hactive hup hlocal => ?reversal, fun hrun hactive hlocal hdir hsince h0 hlow h1 => ?timeout,
    fun hrun hactive hst hdir => congrArg Host.Outcome.next (State.stateSeen_of_own hrun hactive hst hdir),
    fun hrun hactive hother h1 => congrArg Host.Outcome.next (State.stateSeen_of_other hrun hactive hother h1),
    fun hpulse hreset h1 => congrArg Host.Outcome.next (State.resetPulseEnd_of_reset hpulse hreset h1),
    fun hwait hmode => congrArg Host.Outcome.next (State.sysRestart_of_wait hwait hmode),
    fun hup hedge h1 => congrArg Host.Outcome.next (State.sysCountClear_of_up hup hedge h1)⟩
  case advance =>
    subst h0
    have h := State.advance_of_released others hactive hlocal hrel hedge
    refine ⟨fun hmoves hrev => congrArg Host.Outcome.next ?_, fun hmoves => congrArg Host.Outcome.next (h.trans (if_pos hmoves)),
      fun hmoves hrev htop => ⟨fun hlate => congrArg Host.Outcome.next ?_, fun hearly => congrArg Host.Outcome.next ?_⟩⟩
    · exact h.trans ((if_neg (by simp [hmoves])).trans (if_neg (by simp [hrev])))
    · have hlet := State.lateRequest_eq hrev htop hedge
      exact h.trans ((if_neg (by simp [hmoves])).trans (if_neg (by simp [hlet, hlate])))
    · have hlet := State.lateRequest_eq hrev htop hedge
      exact h.trans ((if_neg (by simp [hmoves])).trans (if_pos ⟨hrev, by simpa [hlet] using hearly⟩))
  case step =>
    have h := State.tilePos_stepTiles ht
    refine ⟨fun k hk hlt => ?_, fun k hk htop => ?_, fun k hk => ?_, fun hk => ?_⟩
    · rw [h, hk]
      simp [posNext, Nat.not_le.mpr hlt]
    · rw [h, hk]
      simp [posNext, htop]
    · rw [h, hk]
      rfl
    · rw [h, hk]
      rfl
  case reversal =>
    refine ⟨fun hrev h1 => ?_, fun hrev hhold h0 h1 => ?_,
      fun hrev hhold => congrArg Host.Outcome.next (State.reverse_of_waiting others hrev hhold)⟩
    · have h : s.reverse others = s1.afterTurn := (State.reverse_of_other others hactive hup hlocal hrev).trans (by rw [h1]; rfl)
      exact ⟨fun habove => congrArg Host.Outcome.next (h.trans (State.afterTurn_of_above habove)),
        fun hzero => congrArg Host.Outcome.next (h.trans (State.afterTurn_of_zero hzero))⟩
    · have h : s.reverse others = s1.afterTurn :=
        (State.reverse_of_own others hactive hup hlocal hrev hhold).trans (by rw [h1, h0]; rfl)
      exact ⟨fun habove => congrArg Host.Outcome.next (h.trans (State.afterTurn_of_above habove)),
        fun hzero => congrArg Host.Outcome.next (h.trans (State.afterTurn_of_zero hzero))⟩
  case timeout =>
    have hlowSince : s.lowSince t = some e := by
      rcases hsince with ⟨hrev, hdone⟩ | ⟨hrev, htop, hfree⟩
      · simpa [State.lowSince, hrev] using hdone
      · simpa [State.lowSince, hrev, htop] using hfree
    have h := State.lineTimeout_of_low hrun hactive hlocal hdir hlowSince h0 hlow h1 rfl
    refine ⟨_, rfl, fun hmode haction => congrArg Host.Outcome.next (h.trans (if_neg (by simp [hmode, haction]))),
      fun hgoes => congrArg Host.Outcome.next (h.trans (if_pos hgoes))⟩

end Sys2Proof.Machine
end

section
/-! Rails on the way up and in operation (R348, R357 to R360, R362). -/

namespace Sys2Proof.Machine

/-- A rail whose turn has come is kept off where a parent has failed, is turned on where all are good, and waits
otherwise (R357). -/
theorem State.turnOn_of_turn {s s1 : State} {n : Nat} (hmay : s.mayTurnOn n = true) (h1 : s1 = s.reach (s.rail n).onEnd)
    (horder : s1.parentOrder n = none) :
    s.turnOn n =
      if (s1.parents n).any (fun p => s1.parentFailed p || s1.pathFault n p) then
        ((s1.keptOff n 2).keepDependants n).progress
      else if (s1.parents n).all (s1.parentGood n) then (s1.railOn n).updRail n (fun r => { r with retryOf := none })
      else s1 := by
  subst h1
  simp [State.turnOn, hmay, horder]

/-- The declaration of rail n, with its instant, stands once among what each of its dependants on tile t knows (R357). -/
theorem State.parentNotice_of_declared {s : State} {t n : Nat} (hdecl : (s.rail n).declared = true)
    (hpath : bit s.link.mgmtFault (8 * t + s.railTile n) = false) (m : Nat) (hm : m ∈ s.railList) (htile : s.railTile m = t)
    (hparent : (s.parents m).contains n = true) :
    (n, (s.rail n).goodAt) ∈ ((s.parentNotice t n).rail m).knownGood ∧
      ∀ g, (n, g) ∈ ((s.parentNotice t n).rail m).knownGood → g = (s.rail n).goodAt := by
  have hnotice : s.parentNotice t n = { s with
      rails := s.rails.updAll {} (s.railList.filter (fun m => s.railTile m == t && (s.parents m).contains n)) (fun _ r =>
        { r with knownGood := r.knownGood.filter (fun e => e.1 != n) ++ [(n, (s.rail n).goodAt)] }) } :=
    if_pos ⟨hdecl, hpath⟩
  rw [hnotice]
  refine Tab.get_updAll_mem {}
    (fun _ (r : Rail) => { r with knownGood := r.knownGood.filter (fun e => e.1 != n) ++ [(n, (s.rail n).goodAt)] }) m
    (fun r : Rail => (n, (s.rail n).goodAt) ∈ r.knownGood ∧ ∀ g, (n, g) ∈ r.knownGood → g = (s.rail n).goodAt)
    (fun r => ⟨by simp, fun g hg => by simpa using hg⟩) _ s.rails (.inl ?_)
  exact List.mem_filter.mpr ⟨hm, by simpa [htile] using hparent⟩

/-- The settle count of a rail that settles ends the spell of not good (R358, R360). -/
theorem State.settleDone_of_settling {s s1 : State} {n : Nat} (hon : (s.rail n).on = true)
    (hsettling : (s.rail n).settling = true) (h1 : s1 = s.reach (s.rail n).settleEnd) :
    s.settleDone n = s1.updRail n (fun r =>
      { r with settling := false, settled := true, filtering := false, badEnd := none, okSince := s1.now }) := by
  subst h1
  exact if_pos ⟨hon, hsettling⟩

/-- A rail outside a retry that has settled is declared good, or is good again (R358, R360). -/
theorem State.declareGood_of_settling {s s1 u : State} {n : Nat} (hon : (s.rail n).on = true)
    (hsettling : (s.rail n).settling = true) (h1 : s1 = s.reach (s.rail n).settleEnd) (hretry : (s.rail n).retryStep ≠ 4)
    (hstatus : (s.rail n).status ≠ 6)
    (hu : u = s1.updRail n (fun r =>
      { r with settling := false, settled := true, filtering := false, badEnd := none, okSince := s1.now })) :
    s.declareGood n =
      if (s.rail n).declared then (u.updRail n (fun r => { r with settled := false, status := 4 })).progress
      else ((u.updRail n (fun r =>
        { r with settled := false, declared := true, goodAt := s1.now, status := 4 })).retryNext n).retriesEnd.progress := by
  have hsame : s1.rail n = s.rail n := by rw [h1]; rfl
  have hnow : u.now = s1.now := by rw [hu]; rfl
  have hrail : u.rail n = { s.rail n with
      settling := false, settled := true, filtering := false, badEnd := none, okSince := s1.now } := by
    rw [hu, State.rail_updRail, hsame]
  have hsettled : s.settleDone n = u := (State.settleDone_of_settling hon hsettling h1).trans hu.symm
  simp [State.declareGood, hsettled, hrail, hon, hretry, hstatus, hnow]

/-- A level of PG that has been held for PG_FILTER is taken, and looked at where the rail is on (R348). -/
theorem State.pgChanged_of_rail {s : State} {n : Nat} (high : Bool) (held : Nat) (hn : n < 128) (hrail : s.hasRail n = true) :
    s.pgChanged n high held =
      if 500 * s.rr n 0 0xA ≤ held then
        if (s.rail n).on then ({ s with pins := { s.pins with pg := s.pins.pg.set false n high } } : State).railLook n
        else { s with pins := { s.pins with pg := s.pins.pg.set false n high } }
      else s := by
  simp only [State.pgChanged, hn, hrail, decide_true, Bool.true_and, decide_eq_true_eq]
  rfl

/-- A drop is seen at once, and acted on as a fault where the rail stays live (R360). -/
theorem State.railDropDue_of_drop {s s2 : State} {n : Nat} (hlive : s.RailLive n) (hdrop : s.isDrop n = true)
    (h2 : s2 = s.dropSeen n) (hlive2 : s2.RailLive n) : s.railDropDue n = s2.dropFault n := by
  have hdue : s.railDropDue n = (s.dropSeen n).railDue n (.railDrop n) := if_neg (by simp [hlive.rail, hlive.sequenced, hdrop])
  rw [hdue, ← h2]
  exact rail_due hlive2 _

/-- A running rail that has not been good for BAD_TIME is a fault, once for its spell (R360). -/
theorem State.badTime_of_bad {s : State} {n d : Nat} (hon : (s.rail n).on = true) (hdecl : (s.rail n).declared = true)
    (hbad : (s.rail n).good = false) (hend : (s.rail n).badEnd = some d) :
    s.badTime n = ((s.reach d).updRail n (fun r => { r with badEnd := none })).railFault n 4 false := by
  simp [State.badTime, hon, hdecl, hbad, hend]

/-- A rail outside a retry that is not declared good in time fails (R241, R359). -/
theorem State.deadline_of_late {s s1 : State} {n : Nat} (hon : (s.rail n).on = true) (hdecl : (s.rail n).declared = false)
    (hdeadline : (s.rail n).noDeadline = false) (hretry : (s.rail n).retryStep ≠ 4)
    (h1 : s1 = s.reach (s.rail n).deadlineEnd) :
    s.deadline n = ((s1.loopDown n).failRail n 1 0x0901 [s.rr n 0 2]).retriesEnd.progress := by
  subst h1
  simp [State.deadline, hon, hdecl, hdeadline, hretry]

/-- Settles O35: the outcomes of a live rail by what each operation does. -/
theorem railsUp : Obligations.RailsUp := by
  intro s s1 s2 n t d
  refine ⟨fun hlive hmay h1 horder => ?turnOn,
    fun hdecl hpath => ⟨_, rfl, State.parentNotice_of_declared hdecl hpath⟩,
    fun hlive hon hsettling h1 hretry hstatus => ?declared, fun high held hn hrail h1 => ?level,
    fun hlive hdrop h2 hlive2 => ?drop, fun hlive hon hdecl hbad hend => ?badTime,
    fun hlive hon hdecl hdeadline hretry h1 => ?deadline⟩
  case turnOn =>
    have h := (rail_due hlive (.railTurnOn n)).trans (State.turnOn_of_turn hmay h1 horder)
    exact ⟨fun hgood hnone => congrArg Host.Outcome.next (h.trans ((if_neg (by simp [hnone])).trans (if_pos hgood))),
      fun hfailed => congrArg Host.Outcome.next (h.trans (if_pos hfailed))⟩
  case declared =>
    have h := (rail_due hlive (.railDeclaredGood n)).trans
      (State.declareGood_of_settling hon hsettling h1 hretry hstatus rfl)
    exact ⟨_, rfl, fun hdecl => congrArg Host.Outcome.next (h.trans (if_neg (by simp [hdecl]))),
      fun hdecl => congrArg Host.Outcome.next (h.trans (if_pos hdecl))⟩
  case level =>
    subst h1
    have h := State.pgChanged_of_rail high held hn hrail
    exact ⟨fun hshort => congrArg Host.Outcome.next (h.trans (if_neg (Nat.not_le.mpr hshort))), fun hlong =>
      ⟨fun hoff => congrArg Host.Outcome.next (h.trans ((if_pos hlong).trans (if_neg (by simp [hoff])))),
        fun hon => congrArg Host.Outcome.next (h.trans ((if_pos hlong).trans (if_pos hon)))⟩⟩
  case drop =>
    have h := State.railDropDue_of_drop hlive hdrop h2 hlive2
    exact ⟨fun hdecl hcount => congrArg Host.Outcome.next (h.trans (if_pos ⟨hdecl, hcount⟩)),
      fun hfew => congrArg Host.Outcome.next (h.trans (if_neg fun hfault => absurd hfault.2 (Nat.not_le.mpr hfew)))⟩
  case badTime =>
    exact congrArg Host.Outcome.next ((rail_due hlive (.railBadTime n)).trans (State.badTime_of_bad hon hdecl hbad hend))
  case deadline =>
    exact congrArg Host.Outcome.next
      ((rail_due hlive (.railDeadline n)).trans (State.deadline_of_late hon hdecl hdeadline hretry h1))

end Sys2Proof.Machine
end

-- ==== reactions, reports, the writer, forwarding and EMCY ====
section
/-! The commands of the event path: each clause is the one branch of its operation that the premises select (R381 to R404). -/

namespace Sys2Proof.Machine

theorem State.takeWaiting_of_idle {s : State} {n : Nat} (hidle : (s.target n).cur = none) (hqueue : (s.target n).queue ≠ []) :
    s.takeWaiting n = s.takeQueued n (s.target n).queue := by
  simp [State.takeWaiting, hidle, hqueue]

/-! ### Reports of the catalogue (R378, R405) -/

/-- A severity that the catalogue gives a code: for 0x0003 one of its range, for another code that of the list. -/
theorem sevOk_of_catalogue {code sev : Nat} {data : List Nat}
    (h : code ≠ 3 ∧ sevOf code data = some sev ∨ code = 3 ∧ sev ≤ 1) : sevOk code sev data = true := by
  obtain ⟨hcode, hsev⟩ | ⟨rfl, hsev⟩ := h
  · simp [sevOk, hcode, hsev]
  · simp [sevOk, hsev]

theorem sevOk_of_refused {sev : Nat} (data : List Nat) (h : 1 < sev) : sevOk 3 sev data = false := by
  simp [sevOk, h]

theorem State.eventReport_of_catalogue {s : State} {t src code sev : Nat} (inst : Nat) {data : List Nat}
    (htile : s.hasTile t = true) (hsrc : src < 132) (hsev : sevOk code sev data = true) :
    s.eventReport t src code sev inst data = s.report t src code sev inst data := by
  simp [State.eventReport, htile, hsrc, hsev]

theorem State.eventReport_of_other {s : State} {code sev : Nat} (t src inst : Nat) {data : List Nat}
    (hsev : sevOk code sev data = false) : s.eventReport t src code sev inst data = s := by
  simp [State.eventReport, hsev]

/-- The safe state by a trip code is of severity 3, by an alarm code of severity 5 (R221, R378). -/
theorem sevOf_safeState (data : List Nat) : sevOf 0x0505 data = some (if data.take 2 = two 0x0506 then 3 else 5) := by
  simp only [sevOf]

/-- The first two data bytes of the record of a safe state are the code of its cause. -/
theorem take_two_append (cause : Nat) (data : List Nat) : (two cause ++ data).take 2 = two cause := List.take_left' rfl

/-! ### The writer (R382, R383) -/

/-- The slot of an entry after the entry has left it. -/
def State.slotAfter (s : State) (t : Nat) (e : Nat × Entry) : Slot := (s.ev.slots.get {} (256 * t + e.1)).take e.2

/-- The entry has left its slot, which is free of its losses once it is empty. -/
def State.unslotted (s : State) (t : Nat) (e : Nat × Entry) : State :=
  { s with ev := { s.ev with
    slots := s.ev.slots.set {} (256 * t + e.1) (if (s.slotAfter t e).entries.isEmpty then {} else s.slotAfter t e) } }

/-- The writer takes the earliest entry and, where its slot is then empty and has lost reports, writes the gap record behind it. -/
theorem State.writeNext_of_earliest {s : State} {t : Nat} {e : Nat × Entry} (h : earliest (s.pendingOf t) = some e) :
    s.writeNext t =
      if (s.slotAfter t e).entries.isEmpty && decide (0 < (s.slotAfter t e).lost) then
        ((s.unslotted t e).writeAtTime t e.1 e.2).writeAtTime t e.1 ((s.slotAfter t e).gapEntry e.2 e.1)
      else (s.unslotted t e).writeAtTime t e.1 e.2 := by
  simp only [State.writeNext, h]
  rfl

/-! ### Forwarding (R403) -/

theorem State.forwardNext_of_ring {s : State} {t r : Nat} {x : Rec} {rest : List Rec} (htile : s.hasTile t = true)
    (hhost : s.procRuns t = true) (hzero : s.procRuns 0 = true) (hring : s.forwardRing t = some r)
    (hunread : (s.ring r).unread = x :: rest) : s.forwardNext t = (s.ringAdvance r 1).forwarded x := by
  have hruns : (s.hasTile t && s.procRuns t && s.procRuns 0) = true := by rw [htile, hhost, hzero]; rfl
  unfold State.forwardNext
  rw [if_pos hruns, hring]
  exact congrArg (s.forwardHead r) hunread

theorem State.forwardNext_of_halted {s : State} {t : Nat} (h : s.procRuns t = false ∨ s.procRuns 0 = false) :
    s.forwardNext t = s := by
  refine if_neg fun hruns => ?_
  simp only [Bool.and_eq_true] at hruns
  obtain ⟨⟨-, hhost⟩, hzero⟩ := hruns
  exact h.elim (fun h => Bool.false_ne_true (h.symm.trans hhost)) (fun h => Bool.false_ne_true (h.symm.trans hzero))

/-! ### EMCY (R504) -/

theorem State.inhibitEnds_a_nil {s : State} (h : s.net.emcyA = []) :
    s.inhibitEnds .a = { s with net := { s.net with inhibitA := false } } := by
  simp [State.inhibitEnds, h]

theorem State.inhibitEnds_b_nil {s : State} (h : s.net.emcyB = []) :
    s.inhibitEnds .b = { s with net := { s.net with inhibitB := false } } := by
  simp [State.inhibitEnds, h]

theorem State.inhibitEnds_a_cons {s : State} {c g : Nat} {m : List Nat} {q : List (Nat × Nat × List Nat)}
    (h : s.net.emcyA = (c, g, m) :: q) (hon : s.emcyOn .a = true) :
    s.inhibitEnds .a = { s with net := { s.net with emcyA := q, sent := .emcy .a c g m :: s.net.sent } } := by
  simp [State.inhibitEnds, h, hon]

theorem State.inhibitEnds_b_cons {s : State} {c g : Nat} {m : List Nat} {q : List (Nat × Nat × List Nat)}
    (h : s.net.emcyB = (c, g, m) :: q) (hon : s.emcyOn .b = true) :
    s.inhibitEnds .b = { s with net := { s.net with emcyB := q, sent := .emcy .b c g m :: s.net.sent } } := by
  simp [State.inhibitEnds, h, hon]

/-- Settles O37: each event command by the branch of its operation that the premises select. -/
theorem eventCommands : Obligations.EventCommands := by
  intro s s1 n t src code inst sev r data x rest e ch row sl
  refine ⟨fun hrail hidle hqueue => ?queued, fun htile hsrc hsev => ?report, fun hcode hsev => ?refused,
    ?safe, fun htile hearliest hsl h1 => ?write,
    fun htile hring hunread => ⟨fun hhost hzero => ?forward, fun hhalted => ?halted⟩,
    fun h => congrArg Host.Outcome.next (State.inhibitEnds_a_nil h),
    fun h => congrArg Host.Outcome.next (State.inhibitEnds_b_nil h),
    fun c g m q h hon => congrArg Host.Outcome.next (State.inhibitEnds_a_cons h hon),
    fun c g m q h hon => congrArg Host.Outcome.next (State.inhibitEnds_b_cons h hon),
    fun hreads hcan => congrArg Host.Outcome.next (reads_can hreads hcan), ?window⟩
  case queued => exact congrArg Host.Outcome.next ((if_pos hrail).trans (State.takeWaiting_of_idle hidle hqueue))
  case report =>
    exact congrArg Host.Outcome.next (State.eventReport_of_catalogue inst htile hsrc (sevOk_of_catalogue hsev))
  case refused =>
    subst hcode
    exact congrArg Host.Outcome.next (State.eventReport_of_other t src inst (sevOk_of_refused data hsev))
  case safe =>
    rw [sevOf_safeState, sevOf_safeState, take_two_append, take_two_append]
    exact ⟨rfl, congrArg some (if_neg (by decide))⟩
  case write =>
    have hwrite : exec (.recordWrite t) s = .next (s.writeNext t) := congrArg Host.Outcome.next (if_pos htile)
    subst hsl h1
    rw [hwrite, State.writeNext_of_earliest hearliest]
    refine ⟨fun hkept => congrArg Host.Outcome.next (if_neg ?_), fun hempty hlost => congrArg Host.Outcome.next (if_pos ?_)⟩
    · intro hgap
      obtain ⟨hempty, hlost⟩ := Bool.and_eq_true_iff.mp hgap
      exact hkept.elim (fun hne => hne (List.isEmpty_iff.mp hempty)) (Nat.pos_iff_ne_zero.mp (of_decide_eq_true hlost))
    · exact Bool.and_eq_true_iff.mpr ⟨List.isEmpty_iff.mpr hempty, decide_eq_true hlost⟩
  case forward => exact congrArg Host.Outcome.next (State.forwardNext_of_ring htile hhost hzero hring hunread)
  case halted => exact congrArg Host.Outcome.next (State.forwardNext_of_halted hhalted)
  case window => rfl

end Sys2Proof.Machine
end

-- ==== the checks of a write ====
section
/-! The checks of R492 in their order: one equation per check, for a write that is served at once. -/

namespace Sys2Proof.Machine

/-- A write that nothing keeps from being handled is checked, and answered with the outcome of the checks. -/
theorem State.write_of_served {s : State} {ch : Chan} {idx sub len v : Nat} (hserved : s.served ch = true)
    (hspi : s.spiBusy ch = false) (hentry : s.clientBusy ch = false)
    (hunheld : s.mustWait (.write ch idx sub len v 0) = false) :
    s.write ch idx sub len v = (s.doWrite ch idx sub len v 0).1.answer ch (s.doWrite ch idx sub len v 0).2 := by
  simp [State.write, State.request, hserved, hspi, hentry, hunheld, State.handle]

/-- The checks of an object that exists begin in the state without the channel's tag. -/
theorem State.doWrite_of_found {s s1 : State} {tg : Option Nat} {ch : Chan} {idx : Nat} {f : Fam} {i : Nat}
    (sub len v verify : Nat) (htag : s.takeTag ch = (s1, tg)) (hindex : resolve s.T idx = some (f, i)) :
    s.doWrite ch idx sub len v verify = s1.writeFound ch f i idx sub len v tg verify := by
  simp only [State.doWrite, hindex, htag]

theorem State.doWrite_of_noIndex {s s1 : State} {tg : Option Nat} {ch : Chan} {idx : Nat}
    (sub len v verify : Nat) (htag : s.takeTag ch = (s1, tg)) (hindex : resolve s.T idx = none) :
    s.doWrite ch idx sub len v verify = (s1, .abort 0x06020000) := by
  simp only [State.doWrite, hindex, htag]

/-- Taking a tag leaves the number of tiles. -/
theorem State.takeTag_T {s s1 : State} {tg : Option Nat} {ch : Chan} (h : s.takeTag ch = (s1, tg)) : s1.T = s.T := by
  have hstate : (s.takeTag ch).1 = s1 := congrArg Prod.fst h
  exact hstate ▸ rfl

section
variable {s s2 : State} {ch : Chan} {f : Fam} {i idx sub len v : Nat} {r : Row} {tg : Option Nat} {verify : Nat}

/-! ### Checks 1 to 3 -/

theorem State.writeFound_of_noRow (hrow : f.row sub = none) (hsub : 0 < sub) :
    s.writeFound ch f i idx sub len v tg verify = (s, .abort 0x06090011) := by
  simp only [State.writeFound, hrow]
  rw [if_neg fun h => Nat.ne_of_gt hsub h.1]

theorem State.writeFound_of_noTile (hrow : f.row sub = some r) (hf : f = .cellarTally) (hsub : 8 * s.T < sub) :
    s.writeFound ch f i idx sub len v tg verify = (s, .abort 0x06020000) := by
  simp only [State.writeFound, hrow, if_pos (And.intro hf hsub)]

/-- An entry that the part has is checked on from its access. -/
theorem State.writeFound_of_row (hrow : f.row sub = some r) (hpart : f = .cellarTally → sub ≤ 8 * s.T) :
    s.writeFound ch f i idx sub len v tg verify =
      if r.acc = .ro ∨ r.acc = .const then (s, .abort 0x06010002)
      else if pathRefused f sub then (s, .abort 0x06010000)
      else s.writeGated ch f i idx sub len v r tg verify := by
  simp only [State.writeFound, hrow]
  exact if_neg fun h => Nat.not_lt.mpr (hpart h.1) h.2

/-! ### Check 4 -/

theorem State.writeGated_of_refused {a : Nat} (hgate : s.passWrite r.prot ch idx sub len v tg = (s2, some a)) :
    s.writeGated ch f i idx sub len v r tg verify = (s2, .abort a) := by
  simp only [State.writeGated, hgate]

theorem State.writeGated_of_passed (hgate : s.passWrite r.prot ch idx sub len v tg = (s2, none)) :
    s.writeGated ch f i idx sub len v r tg verify =
      if s2.lowersPolicy f sub v then (s2.secReject 8 ch idx sub, .abort 0x08000020)
      else s2.writeChecked ch f i idx sub len v r verify := by
  simp only [State.writeGated, hgate]

/-! ### Checks 5 to 7 -/

theorem State.writeChecked_of_range (h : len ≠ r.bytes ∨ s.rangeOk f i idx sub v r = false) :
    s.writeChecked ch f i idx sub len v r verify = (s.enableDetail f i idx sub v, .abort 0x06090030) := if_pos h

/-- A value of the right length and range is checked on from its block. -/
theorem State.writeChecked_of_inRange (hlen : len = r.bytes) (hrange : s.rangeOk f i idx sub v r = true) :
    s.writeChecked ch f i idx sub len v r verify =
      if r.cls = .x ∧ s.stoppedOk f i sub v = false then (s, .abort 0x08000022)
      else if s.refused7 f i idx sub v r then (s, .abort 0x08000000)
      else s.carryOut ch f i idx sub v r verify :=
  if_neg fun h => h.elim (fun h => h hlen) (fun h => Bool.false_ne_true (h.symm.trans hrange))

end

/-- Settles O58: the checks up to the one that fails are those of the equations above. -/
theorem writeChecks : Obligations.WriteChecks := by
  intro s s1 s2 tg ch idx sub len v f i r hserved hspi hentry hunheld htag
  have hanswer : ∀ {x : State} {a : Nat}, s.doWrite ch idx sub len v 0 = (x, .abort a) →
      exec (.objectWrite ch idx sub len v .whole) s = .next (x.answer ch (.abort a)) := fun {x a} h =>
    congrArg Host.Outcome.next ((State.write_of_served hserved hspi hentry hunheld).trans
      (congrArg (fun p : State × Resp => p.1.answer ch p.2) h))
  refine ⟨fun hindex => hanswer (State.doWrite_of_noIndex sub len v 0 htag hindex), fun hindex hrow hsub => hanswer ?noRow,
    fun hindex hrow hf hsub => hanswer ?noTile, fun hindex hrow hpart => ?found⟩
  case noRow => rw [State.doWrite_of_found sub len v 0 htag hindex, State.writeFound_of_noRow hrow hsub]
  case noTile =>
    rw [State.doWrite_of_found sub len v 0 htag hindex]
    exact State.writeFound_of_noTile hrow hf (State.takeTag_T htag ▸ hsub)
  case found =>
    have hfound := (State.doWrite_of_found sub len v 0 htag hindex).trans
      (State.writeFound_of_row hrow (fun hf => State.takeTag_T htag ▸ hpart hf))
    refine ⟨fun hacc => hanswer (hfound.trans (if_pos hacc)), fun hro hconst => ?writable⟩
    have hwritable := hfound.trans (if_neg (not_or.mpr ⟨hro, hconst⟩))
    refine ⟨fun hpath => hanswer (hwritable.trans (if_pos hpath)), fun hpath => ?allowed⟩
    have hallowed := hwritable.trans (if_neg (by simp [hpath]))
    refine ⟨fun hgate => hanswer (hallowed.trans (State.writeGated_of_refused hgate)),
      fun hgate hpolicy => hanswer ((hallowed.trans (State.writeGated_of_passed hgate)).trans (if_pos hpolicy)),
      fun hgate hpolicy => ?passed⟩
    have hpassed := (hallowed.trans (State.writeGated_of_passed hgate)).trans (if_neg (by simp [hpolicy]))
    refine ⟨fun hrange => hanswer (hpassed.trans (State.writeChecked_of_range hrange)), fun hlen hrange => ?inRange⟩
    have hinRange := hpassed.trans (State.writeChecked_of_inRange hlen hrange)
    refine ⟨fun hcls hstopped => hanswer (hinRange.trans (if_pos ⟨hcls, hstopped⟩)), fun hstopped hrules => hanswer ?_⟩
    exact (hinRange.trans (if_neg fun h => Bool.false_ne_true (h.2.symm.trans (hstopped h.1)))).trans (if_pos hrules)

end Sys2Proof.Machine
end

-- ==== the SPI port ====
section
/-! The requests of the SPI port while it is served (R507 to R511). -/

namespace Sys2Proof.Machine

section
variable {s : State}

theorem State.spiRead_of_good {idx sub len : Nat} (hserved : s.served .spi = true) (hfree : s.net.spi ≠ .busy)
    (hlen : len ≤ 4096) (hunheld : s.mustWait (.read .spi idx sub len) = false) :
    s.spiRead idx sub len true = s.handle (.read .spi idx sub len) := by
  simp [State.spiRead, hserved, hfree, Nat.not_lt.mpr hlen, hunheld]

theorem State.spiWrite_of_good {len : Nat} (idx sub v : Nat) (hserved : s.served .spi = true) (hfree : s.net.spi ≠ .busy)
    (hlow : 1 ≤ len) (hhigh : len ≤ 1024) : s.spiWrite idx sub len v true = s.write .spi idx sub len v := by
  simp [State.spiWrite, hserved, hfree, Nat.not_lt.mpr hhigh, Nat.ne_of_gt hlow]

theorem State.ringRead_of_good {r len : Nat} (hserved : s.served .spi = true) (hfree : s.net.spi ≠ .busy) (hr : r < 64)
    (hlow : 32 ≤ len) (hhigh : len ≤ 512) (hconsumer : s.ob (0x4400 + r) 5 = 2) :
    s.ringRead r len true =
      (s.ringAdvance r (((s.ring r).unread).take (len / 32)).length).answer .spi
        (.ok ((((s.ring r).unread).take (len / 32)).flatMap Rec.bytes)) := by
  have hsize : ¬ (true = false ∨ len < 32 ∨ 512 < len) := by simp [hlow, hhigh]
  unfold State.ringRead
  rw [if_neg (by simp [hserved]), if_neg hfree, if_neg hsize, if_neg (Nat.not_le.mpr hr), if_neg (not_not.mpr hconsumer)]

/-- A request with a wrong CRC is bad. -/
theorem State.spiRequests_of_badCrc (idx sub len v r : Nat) (hserved : s.served .spi = true) (hfree : s.net.spi ≠ .busy) :
    s.spiRead idx sub len false = s.spiBad ∧ s.spiWrite idx sub len v false = s.spiBad ∧ s.ringRead r len false = s.spiBad := by
  simp [State.spiRead, State.spiWrite, State.ringRead, hserved, hfree]

/-- A request while the last one is busy is discarded. -/
theorem State.spiRequests_of_busy (idx sub len v r : Nat) (ok : Bool) (hserved : s.served .spi = true)
    (hbusy : s.net.spi = .busy) :
    s.spiRead idx sub len ok = s.spiDiscard ∧ s.spiWrite idx sub len v ok = s.spiDiscard ∧
      s.ringRead r len ok = s.spiDiscard := by
  simp [State.spiRead, State.spiWrite, State.ringRead, hserved, hbusy]

end

/-- An admitted READ of an object that is read whole is answered with its value. -/
theorem State.Reads.handle_spi {s s1 : State} {idx sub len : Nat} {f : Fam} {i : Nat} {row : Row}
    (h : s.Reads s1 .spi idx sub len f i row) (hdomain : isDomain s.T idx sub = false) (hwindow : idx ≠ 0x4482) :
    s.handle (.read .spi idx sub len) =
      (s1.readValue .spi f i idx sub).1.answer .spi (.ok (s1.readValue .spi f i idx sub).2) := by
  have hread : s.spiDoRead idx sub len = ((s1.readValue .spi f i idx sub).1, .ok (s1.readValue .spi f i idx sub).2) := by
    unfold State.spiDoRead
    rw [if_neg (by simp [hdomain]), if_neg fun hw => hwindow hw.1]
    exact reads_request h
  simp only [State.handle, if_true, hread]
  exact reads_answer _ h

/-- Settles O40: each request by the state of the port and the quality of its frame. -/
theorem spiCommands : Obligations.SpiCommands := by
  intro s s1 idx sub len v r bytes i ok f row hmode
  refine ⟨fun hserved hfree => ⟨fun h hdomain hwindow hlen => ?read, fun h hlow hhigh => ?write,
    fun hr hlow hhigh hconsumer => congrArg Host.Outcome.next (State.ringRead_of_good hserved hfree hr hlow hhigh hconsumer), ?bad⟩,
    fun hserved hbusy => ?busy, congrArg Host.Outcome.next (if_neg hmode), congrArg Host.Outcome.next (if_neg hmode)⟩
  case read => exact congrArg Host.Outcome.next ((State.spiRead_of_good hserved hfree hlen h.unheld).trans (h.handle_spi hdomain hwindow))
  case write =>
    exact congrArg Host.Outcome.next ((State.spiWrite_of_good idx sub v hserved hfree hlow hhigh).trans (admits_write h))
  case bad =>
    obtain ⟨hread, hwrite, hring⟩ := State.spiRequests_of_badCrc idx sub len v r hserved hfree
    exact ⟨congrArg Host.Outcome.next hread, congrArg Host.Outcome.next hwrite, congrArg Host.Outcome.next hring⟩
  case busy =>
    obtain ⟨hread, hwrite, hring⟩ := State.spiRequests_of_busy idx sub len v r ok hserved hbusy
    exact ⟨congrArg Host.Outcome.next hread, congrArg Host.Outcome.next hwrite, congrArg Host.Outcome.next hring⟩

end Sys2Proof.Machine
end

-- ==== PDOs, heartbeats, CAN errors and client transfers ====
section
/-! The commands of the CAN networks: the branch of each operation that its premises select (R486, R490 to R499, R506, R507). -/

namespace Sys2Proof.Machine

/-! ### Formats (R486) -/

theorem Frame.format_of_b {fr : Frame} (h : fr.chan = .b) : fr.format = .classical := by
  cases fr with
  | srdo c d v => rfl
  | bootUp c => cases h; rfl
  | heartbeat c n => cases h; rfl
  | emcy c k g m => cases h; rfl
  | tpdo c n bs => cases h; rfl

/-- Of the frames on CAN A, only those of the SRDOs have the classical format. -/
theorem Frame.srdo_of_classical {fr : Frame} (hformat : fr.format = .classical) (h : fr.chan = .a) :
    ∃ d v, fr = .srdo .a d v := by
  cases fr with
  | srdo c d v => cases h; exact ⟨d, v, rfl⟩
  | bootUp c => cases h; cases hformat
  | heartbeat c n => cases h; cases hformat
  | emcy c k g m => cases h; cases hformat
  | tpdo c n bs => cases h; cases hformat

/-- A channel that only takes classical frames takes this one. -/
theorem format_ne_fd {c : CanChan} {g : CanFormat} (h : c = .b → g = .classical) : c = .b → g ≠ .fd :=
  fun hb hg => nomatch (h hb).symm.trans hg

/-! ### RPDOs (R496 to R498) -/

theorem State.receiveRpdo_of_synchronous {s : State} {n : Nat} (data : List Nat) (hon : s.rpdoOn n = true)
    (htype : s.ob (0x1400 + n) 2 ≤ 240) :
    s.receiveRpdo n data = { s with net := { s.net with rpdoBuf := Tab.set [] s.net.rpdoBuf n data } } := by
  unfold State.receiveRpdo
  rw [if_neg (by simp [hon]), if_pos htype]

/-- No RPDO is on the SPI port. -/
theorem State.spiBusy_rpdoChan (s : State) (n : Nat) : s.spiBusy (s.rpdoChan n) = false := by
  unfold State.rpdoChan
  split <;> rfl

/-- An RPDO is a request without a channel to answer, which no commit holds. -/
theorem State.request_rpdo {s : State} {n : Nat} (data : List Nat) (hserved : s.served (s.rpdoChan n) = true)
    (hheld : s.obj.heldReqs = []) :
    s.request (s.rpdoChan n) (.rpdo n data) = s.rpdoEntries (s.rpdoChan n) (s.rpdoMapping n) data := by
  simp [State.request, hserved, State.spiBusy_rpdoChan, HeldReq.chan, State.mustWait, hheld, State.commitBound,
    State.handle, State.applyRpdo]

theorem State.receiveRpdo_of_asynchronous {s : State} {n : Nat} (data : List Nat) (hon : s.rpdoOn n = true)
    (htype : 240 < s.ob (0x1400 + n) 2) (hheld : s.obj.heldReqs = []) :
    s.receiveRpdo n data = s.request (s.rpdoChan n) (.rpdo n data) := by
  unfold State.receiveRpdo
  rw [if_neg (by simp [hon]), if_neg (Nat.not_le.mpr htype), if_neg (by simp [hheld])]

/-! ### TPDOs (R496, R499) -/

section
variable {s : State} {n : Nat}

theorem State.transmitTpdo_of_latched {bs : List Nat} (hon : s.tpdoOn n = true) (hrun : s.procRuns 0 = true)
    (hlatched : (s.tpdo n).latched = some bs) : s.transmitTpdo n = s.sendTpdo n bs 0 := by
  simp [State.transmitTpdo, hon, hrun, hlatched]

/-- Without latched values, a stream frame that waits for its acknowledgement comes first. -/
theorem State.transmitTpdo_of_unlatched (hon : s.tpdoOn n = true) (hrun : s.procRuns 0 = true)
    (hlatched : (s.tpdo n).latched = none) :
    s.transmitTpdo n =
      if (s.tpdo n).inFlightRecs ≠ 0 ∧ s.streaming n then s.sendTpdo n (s.tpdo n).sent (s.tpdo n).inFlightRecs
      else if s.tpdoNews n then s.sendNow n
      else if s.tpdoTimed n then (s.reach (s.tpdoExpiry n)).sendNow n
      else s := by
  simp [State.transmitTpdo, hon, hrun, hlatched]

theorem State.ackTpdo_of_streaming {r : Nat} (hk : (s.tpdo n).inFlightRecs ≠ 0) (hring : s.streamRing n = some r)
    (hstream : s.streaming n = true) :
    s.ackTpdo n = (s.updTpdo n (fun t => { t with inFlightRecs := 0 })).ringAdvance r (s.tpdo n).inFlightRecs := by
  simp [State.ackTpdo, hk, hring, hstream]

theorem State.ackTpdo_of_other (hstream : s.streaming n = false) :
    s.ackTpdo n = s.updTpdo n (fun t => { t with inFlightRecs := 0 }) := by
  unfold State.ackTpdo
  split
  · exact if_pos (.inr hstream)
  · rfl

end

/-! ### The error state of a channel (R507) -/

theorem State.canState_of_a {s : State} {st : Nat} (hmode : s.md.mode ≠ .reset) (hen : s.net.enA = true)
    (hnew : st ≠ s.net.errA) (hst : st ≤ 2) :
    s.canState .a st =
      ({ s with
        net := { s.net with errA := st, busOffsA := satAdd 32 s.net.busOffsA (b2n (st == 2)) } } : State).report 0 srcNet
          0x0E03 (if st = 2 then 3 else 2) 0 [if st = 0 then 3 else st] :=
  if_neg (by simp [hmode, hen, hnew, hst])

theorem State.canState_of_b {s : State} {st : Nat} (hmode : s.md.mode ≠ .reset) (hen : s.net.enB = true)
    (hnew : st ≠ s.net.errB) (hst : st ≤ 2) :
    s.canState .b st =
      ({ s with
        net := { s.net with errB := st, busOffsB := satAdd 32 s.net.busOffsB (b2n (st == 2)) } } : State).report 0 srcNet
          0x0E03 (if st = 2 then 3 else 2) 1 [if st = 0 then 3 else st] :=
  if_neg (by simp [hmode, hen, hnew, hst])

/-! ### Transfers of a client (R490, R491) -/

theorem State.sdoEnds_of_open {s : State} {client : Nat} {x : OpenTransfer} (hclient : client < 5)
    (hserved : s.served (clientChan client) = true) (hopen : s.transferOf (clientChan client) = some x) :
    s.sdoEnds client = (s.reach (x.frameAt + 500000000)).protocolError (clientChan client) := by
  simp [State.sdoEnds, hclient, hserved, hopen]

theorem State.sdoEnds_of_closed {s : State} {client : Nat} (hopen : s.transferOf (clientChan client) = none) :
    s.sdoEnds client = s := by
  simp [State.sdoEnds, hopen]

section
variable {s : State} {ch : Chan}

/-- A frame of a client that waits for no answer reaches a channel that is served. -/
theorem State.transferFrame_of_free (f : State → State) (hserved : s.served ch = true) (hfree : s.clientBusy ch = false) :
    s.transferFrame ch f = f s := by
  simp [State.transferFrame, hserved, hfree]

section
variable {x : OpenTransfer} {len v : Nat} {toggle last : Bool}

theorem State.writeSegment_of_wrong (h : x.write = false ∨ toggle ≠ x.toggle) :
    s.writeSegment ch x len v toggle last = s.protocolError ch := if_pos h

theorem State.writeSegment_of_inner (hwrite : x.write = true) (htoggle : toggle = x.toggle) :
    s.writeSegment ch x len v toggle false =
      (s.answer ch (.ok [])).openTransfer ch { x with bytes := x.bytes ++ bytesLE len v, toggle := !x.toggle } := by
  unfold State.writeSegment
  rw [if_neg (by simp [hwrite, htoggle]), if_neg Bool.false_ne_true]

/-- The last segment makes the whole value one write. -/
theorem State.writeSegment_of_last (hwrite : x.write = true) (htoggle : toggle = x.toggle) :
    s.writeSegment ch x len v toggle true =
      s.write ch x.idx x.sub (x.bytes ++ bytesLE len v).length (ofBytesLE (x.bytes ++ bytesLE len v)) := by
  unfold State.writeSegment
  rw [if_neg (by simp [hwrite, htoggle]), if_pos rfl]

theorem State.readSegment_of_wrong (h : x.write = true ∨ toggle ≠ x.toggle) :
    s.readSegment ch x toggle = s.protocolError ch := if_pos h

/-- The segment that holds the rest of the value ends the transfer. -/
theorem State.readSegment_of_rest {k : Nat} (hread : x.write = false) (htoggle : toggle = x.toggle)
    (hk : k = Config.segmentBytes s.diag.fresh + 1) (hrest : x.bytes.length ≤ k) :
    s.readSegment ch x toggle = s.answer ch (.ok x.bytes) := by
  subst hk
  unfold State.readSegment
  rw [if_neg (by simp [hread, htoggle]), List.take_of_length_le hrest, List.drop_of_length_le hrest]
  rfl

/-- A segment that does not hold the rest of the value leaves the transfer open with it. -/
theorem State.readSegment_of_part {k : Nat} (hread : x.write = false) (htoggle : toggle = x.toggle)
    (hk : k = Config.segmentBytes s.diag.fresh + 1) (hpart : k < x.bytes.length) :
    s.readSegment ch x toggle =
      (s.answer ch (.ok (x.bytes.take k))).openTransfer ch { x with bytes := x.bytes.drop k, toggle := !x.toggle } := by
  subst hk
  unfold State.readSegment
  rw [if_neg (by simp [hread, htoggle])]
  exact if_neg (by simpa using hpart)

end

/-! The frames of a segmented access, by the transfer of the client. -/

theorem State.writePart_unknown (idx sub len v : Nat) (hserved : s.served ch = true) (hfree : s.clientBusy ch = false) :
    s.writePart ch idx sub len v .unknown = s.protocolError ch :=
  State.transferFrame_of_free (State.protocolError · ch) hserved hfree

theorem State.readPart_unknown (idx sub len : Nat) (hserved : s.served ch = true) (hfree : s.clientBusy ch = false) :
    s.readPart ch idx sub len .unknown = s.protocolError ch :=
  State.transferFrame_of_free (State.protocolError · ch) hserved hfree

theorem State.writePart_initiate (idx sub len v : Nat) (hserved : s.served ch = true) (hfree : s.clientBusy ch = false) :
    s.writePart ch idx sub len v .initiate =
      (s.answer ch (.ok [])).openTransfer ch { write := true, idx := idx, sub := sub } :=
  State.transferFrame_of_free (fun s => (s.answer ch (.ok [])).openTransfer ch { write := true, idx := idx, sub := sub })
    hserved hfree

theorem State.writePart_of_closed (idx sub len v : Nat) (toggle last : Bool) (hserved : s.served ch = true)
    (hfree : s.clientBusy ch = false) (hclosed : s.transferOf ch = none) :
    s.writePart ch idx sub len v (.segment toggle last) = s.protocolError ch := by
  simp only [State.writePart, State.transferFrame_of_free _ hserved hfree, hclosed]

theorem State.readPart_of_closed (idx sub len : Nat) (toggle last : Bool) (hserved : s.served ch = true)
    (hfree : s.clientBusy ch = false) (hclosed : s.transferOf ch = none) :
    s.readPart ch idx sub len (.segment toggle last) = s.protocolError ch := by
  simp only [State.readPart, State.transferFrame_of_free _ hserved hfree, hclosed]

theorem State.writePart_of_open {x : OpenTransfer} (idx sub len v : Nat) (toggle last : Bool) (hserved : s.served ch = true)
    (hfree : s.clientBusy ch = false) (hopen : s.transferOf ch = some x) :
    s.writePart ch idx sub len v (.segment toggle last) = s.writeSegment ch x len v toggle last := by
  simp only [State.writePart, State.transferFrame_of_free _ hserved hfree, hopen]

theorem State.readPart_of_open {x : OpenTransfer} (idx sub len : Nat) (toggle last : Bool) (hserved : s.served ch = true)
    (hfree : s.clientBusy ch = false) (hopen : s.transferOf ch = some x) :
    s.readPart ch idx sub len (.segment toggle last) = s.readSegment ch x toggle := by
  simp only [State.readPart, State.transferFrame_of_free _ hserved hfree, hopen]

end

/-- Settles O39: each network command by the branch of its operation that the premises select. -/
theorem networkCommands : Obligations.NetworkCommands := by
  intro s s1 c g fr n k r counter client st data bs
  refine ⟨⟨Frame.format_of_b, Frame.srdo_of_classical⟩,
    ⟨congrArg Host.Outcome.next (s.onFrame_of_ignored _ rfl),
      fun hchan => congrArg Host.Outcome.next (s.onFrame_of_ignored _ hchan)⟩,
    fun hup hformat h1 => ?sync, fun hon hformat htype => ?synchronous,
    fun hon hformat htype hheld hserved => ?asynchronous, fun hon hrun => ?transmit,
    fun hk hne hring hstream => ?acknowledged,
    fun hstream => congrArg Host.Outcome.next (State.ackTpdo_of_other hstream),
    fun hheard htime => congrArg Host.Outcome.next (if_pos (by simp [hheard, htime])),
    fun hmode hen hnew hst => congrArg Host.Outcome.next (State.canState_of_a hmode hen hnew hst),
    fun hmode hen hnew hst => congrArg Host.Outcome.next (State.canState_of_b hmode hen hnew hst),
    fun x hclient hserved =>
      ⟨fun hopen => congrArg Host.Outcome.next (State.sdoEnds_of_open hclient hserved hopen),
        fun hclosed => congrArg Host.Outcome.next (State.sdoEnds_of_closed hclosed)⟩,
    fun ch idx sub len v x toggle last _ hserved hfree => ?transfer⟩
  case sync =>
    refine congrArg Host.Outcome.next ((s.onFrame_of_heard _ (format_ne_fd hformat)).trans ?_)
    exact h1 ▸ if_neg (by simp [hup])
  case synchronous =>
    exact congrArg Host.Outcome.next
      ((s.onFrame_of_heard _ (format_ne_fd hformat)).trans (State.receiveRpdo_of_synchronous data hon htype))
  case asynchronous =>
    exact congrArg Host.Outcome.next
      (((s.onFrame_of_heard _ (format_ne_fd hformat)).trans (State.receiveRpdo_of_asynchronous data hon htype hheld)).trans
        (State.request_rpdo data hserved hheld))
  case transmit =>
    refine ⟨fun hlatched => congrArg Host.Outcome.next (State.transmitTpdo_of_latched hon hrun hlatched),
      fun hlatched hk hne hstream => ?again, fun hlatched hdone => ?present⟩
    case again =>
      subst hk
      exact congrArg Host.Outcome.next ((State.transmitTpdo_of_unlatched hon hrun hlatched).trans (if_pos ⟨hne, hstream⟩))
    case present =>
      have hpresent := (State.transmitTpdo_of_unlatched hon hrun hlatched).trans
        (if_neg fun h => hdone.elim h.1 (fun hs => Bool.false_ne_true (hs.symm.trans h.2)))
      refine ⟨fun hnews h1 => ?_, fun hnews htimed => ?_⟩
      · exact congrArg Host.Outcome.next (h1 ▸ hpresent.trans (if_pos hnews))
      · exact congrArg Host.Outcome.next ((hpresent.trans (if_neg (by simp [hnews]))).trans (if_pos htimed))
  case acknowledged =>
    subst hk
    exact congrArg Host.Outcome.next (State.ackTpdo_of_streaming hne hring hstream)
  case transfer =>
    refine ⟨congrArg Host.Outcome.next (State.writePart_unknown idx sub len v hserved hfree),
      congrArg Host.Outcome.next (State.readPart_unknown _ _ _ hserved hfree),
      congrArg Host.Outcome.next (State.writePart_initiate idx sub len v hserved hfree),
      fun hclosed =>
        ⟨congrArg Host.Outcome.next (State.writePart_of_closed idx sub len v toggle last hserved hfree hclosed),
          congrArg Host.Outcome.next (State.readPart_of_closed _ _ _ toggle last hserved hfree hclosed)⟩,
      fun hopen => ?segment⟩
    have hw := State.writePart_of_open idx sub len v toggle last hserved hfree hopen
    have hr := State.readPart_of_open 0x4482 1 1024 toggle last hserved hfree hopen
    refine ⟨fun hwrong => congrArg Host.Outcome.next (hw.trans (State.writeSegment_of_wrong hwrong)),
      fun hwrite htoggle hlast => ?inner, fun hwrite htoggle hlast => ?last,
      fun hwrong => congrArg Host.Outcome.next (hr.trans (State.readSegment_of_wrong hwrong)),
      fun hread htoggle hk =>
        ⟨fun hrest => congrArg Host.Outcome.next (hr.trans (State.readSegment_of_rest hread htoggle hk hrest)),
          fun hpart => congrArg Host.Outcome.next (hr.trans (State.readSegment_of_part hread htoggle hk hpart))⟩⟩
    case inner =>
      subst hlast
      exact congrArg Host.Outcome.next (hw.trans (State.writeSegment_of_inner hwrite htoggle))
    case last =>
      subst hlast
      exact congrArg Host.Outcome.next (hw.trans (State.writeSegment_of_last hwrite htoggle))

end Sys2Proof.Machine
end

-- ==== a save that ends while a client waits ====
section
/-! The completion of a save answers the clients whose page write of tile 0 has completed (R489), which changes their last answer;
the commands of the Cellar leave the objects only where no client is left to answer. -/

namespace Sys2Proof.Machine

/-- A client over SPI that is left to answer gets its answer. -/
theorem State.answerKept_respSpi {s : State} (h : (s.cellar 0).kept = [.spi]) : s.answerKept.obj.respSpi = .ok [] := by
  have hanswer : s.answerKept = (s.updCellar 0 (fun c => { c with kept := [] })).answer .spi (.ok []) := by
    unfold State.answerKept
    rw [h]
    rfl
  rw [hanswer]
  rfl

/-- One tile that saves a set and works on the last of the 105 pages, while a page write of a client over SPI has completed that
has not been answered. -/
def savingWithClient : State :=
  { part := .ph1016, md := { mode := .configure }, clk := { running := true, time := 4096 }
    link := { trained := 1 }
    cel := { saveState := 2, cellars := [(0, { busy := some .save, savePages := 104, kept := [.spi] })] } }

/-- The last page of the save is written; the client is still left to answer. -/
theorem savingWithClient_kept : (savingWithClient.completeSave.cellar 0).kept = [.spi] := rfl

/-- Refutes O38: the completion of a save does not leave the objects as they are where a client is left to answer, whose last answer
it sets. -/
theorem not_cellarCommands : ¬ Obligations.CellarCommands := by
  intro h
  obtain ⟨-, -, -, -, -, -, -, -, -, -, -, -, -, -, hsave, -⟩ :=
    h savingWithClient savingWithClient 0 0 0 0 .save [] [] none (savingWithClient.trimBytes 0) rfl rfl
  obtain ⟨x, hx, -, -, -, hobj, -⟩ := hsave rfl rfl (by decide) (by decide)
  have hend : exec .configSaveComplete savingWithClient = .next savingWithClient.completeSave.answerKept := rfl
  cases hend.symm.trans hx
  have hresp : savingWithClient.obj.respSpi = .ok [] :=
    (congrArg ObjGrp.respSpi hobj).symm.trans (State.answerKept_respSpi savingWithClient_kept)
  exact absurd hresp (by decide)

end Sys2Proof.Machine
end
